-- ==== Sys2Proof/Word.lean ====
section
/-! DEFINITION. The widths of the part's words, and its frame and sequence numbers. -/

namespace Sys2Proof

/-- A 32-bit word of memory; bit 0 is the least significant bit of lane 0 (10.8). -/
abbrev Word := BitVec 32

/-- One byte lane. -/
abbrev Byte := BitVec 8

/-- A set of byte lanes, bit k for lane k; also the four lane parity bits of a word. -/
abbrev Lanes := BitVec 4

/-- A frame number, wrapping at 65536 (00, Frame arithmetic). -/
abbrev Frame := BitVec 16

/-- A sequence number, wrapping at 65536. -/
abbrev Sequence := BitVec 16

/-- A corner: 0 front-left, 1 front-right, 2 rear-left, 3 rear-right. -/
abbrev CornerId := Fin 4

/-- A valve; valve v belongs to corner v div 2. -/
abbrev ValveId := Fin 8

/-- A demand slot index. -/
abbrev SlotId := Fin 64

end Sys2Proof
end

