-- ==== Sys2Proof/Syntax.lean ====
section
/-! DEFINITION. The commands of the block: one constructor for each row of spec/opcode_table.json. -/

namespace Sys2Proof

/-- Which sum of a lane's eight data bits and parity bit is good (R146). -/
inductive ParitySense where
  | odd
  | even
  deriving DecidableEq, Repr

/-- One processor write as the P-port carries it: lane enables, data and the parity bit of each lane (R145, R146). -/
structure Beat where
  lanes : Lanes
  data : Word
  parity : Lanes
  deriving DecidableEq, Repr

/-- A write of the command word, word 0 of the Setup Block, less its kind field, which the command's row names (R131).
`order` and `later` are no bits of the bus. `order` is the order in which the command's targets reach their owners,
which R135 leaves open (log 4); `later` is how many of them, the last ones of that order, reach their owners apart from
the write's own step, so that events from elsewhere may fall before each of them (R135, log 28). -/
structure CommandWrite where
  mask : BitVec 8
  tag : BitVec 4
  arg : BitVec 12
  lanes : Lanes
  parity : Lanes
  order : List Nat
  later : Nat
  deriving DecidableEq, Repr

/-- One 50 µs sample of a channel: the coil current in mA and the coil voltage in mV (R86, R90; log 23). -/
structure Sample where
  current : BitVec 12
  voltage : BitVec 16
  deriving DecidableEq, Repr

/-- The commands: every write and read of the processor, every change of a signal line, every event of the part's own
clocks and units that the table lists as a step. -/
inductive Instr where
  /-- R143: RESETN asserted and released; the straps and the first line samples of the release. -/
  | resetn (region : BitVec 4) (psense : ParitySense) (safe : Bool) (dflt : BitVec 8)
  /-- R68: the SAFE line sampled going from released to asserted. -/
  | safeAssertion (order : List Nat)
  /-- R69: the SAFE line sampled going from asserted to released. -/
  | safeRelease (order : List Nat)
  /-- R101: a sampled change of DFLTv to the given level. -/
  | driverLine (v : ValveId) (asserted : Bool)
  /-- R4: a write to word 0, 1 or 2 of a demand slot. -/
  | demandSlotWrite (slot : SlotId) (word : Fin 3) (beat : Beat)
  /-- R7: a full write to word 3 of a demand slot. -/
  | demandClosingWrite (slot : SlotId) (data : Word) (parity : Lanes)
  /-- R44: a write to word 0, 1 or 2 of an urgent slot. -/
  | urgentSlotWrite (c : CornerId) (word : Fin 3) (beat : Beat)
  /-- R45: a full write to word 3 of an urgent slot. -/
  | urgentClosingWrite (c : CornerId) (data : Word) (parity : Lanes)
  /-- R75: a write to a point word of a Map Block; point p here is word p + 2. -/
  | mapPointWrite (v : ValveId) (point : Fin 16) (beat : Beat)
  /-- R76: a full write to word 0 of a Map Block. -/
  | mapClosingWrite (v : ValveId) (data : Word) (parity : Lanes)
  /-- R133: a command word whose kind field names no kind. -/
  | unknownKindCommand (kind : BitVec 8) (w : CommandWrite)
  /-- R21. -/
  | framePeriod (w : CommandWrite)
  /-- R21. -/
  | startFrames (w : CommandWrite)
  /-- R58. -/
  | runCorners (w : CommandWrite)
  /-- R59. -/
  | idleCorners (w : CommandWrite)
  /-- R88. -/
  | enableValves (w : CommandWrite)
  /-- R99. -/
  | disableValves (w : CommandWrite)
  /-- R103. -/
  | clearFault (w : CommandWrite)
  /-- R93. -/
  | retune (w : CommandWrite)
  /-- R82. -/
  | promoteMap (w : CommandWrite)
  /-- R62. -/
  | limpFirmness (w : CommandWrite)
  /-- R62. -/
  | limpRamp (w : CommandWrite)
  /-- R63. -/
  | silenceLimit (w : CommandWrite)
  /-- R32. -/
  | watermarks (w : CommandWrite)
  /-- R98. -/
  | settleTimeout (w : CommandWrite)
  /-- R112. -/
  | searchReach (w : CommandWrite)
  /-- R126. -/
  | warmLevel (w : CommandWrite)
  /-- R126. -/
  | hotLevel (w : CommandWrite)
  /-- R127. -/
  | warmCeiling (w : CommandWrite)
  /-- R127. -/
  | hotCeiling (w : CommandWrite)
  /-- R115. -/
  | armTrace (w : CommandWrite)
  /-- R70. -/
  | dryRun (w : CommandWrite)
  /-- R67. -/
  | axlePairing (w : CommandWrite)
  /-- R138. -/
  | readyMode (w : CommandWrite)
  /-- R138. -/
  | attnThreshold (w : CommandWrite)
  /-- R139. -/
  | restart (w : CommandWrite)
  /-- R141: a write to word 2 of the Setup Block. -/
  | journalReadIndex (beat : Beat)
  /-- R148: a processor read of the given word of the Status Window. -/
  | statusWindowRead (word : Fin 64)
  /-- R147: a processor read of the word at the given word address (address lines 23 to 2). -/
  | forwardedRead (addr : BitVec 22)
  /-- R144: a processor write at the given word address. -/
  | plainWrite (addr : BitVec 22) (beat : Beat)
  /-- R22: the end of a frame period at the Frame Timer. -/
  | frameBoundary
  /-- R29: a corner takes a frame boundary. -/
  | cornerFrameBoundary (c : CornerId)
  /-- R64: a corner takes the boundary at which its silence count reaches the limit. -/
  | silenceExpiry (c : CornerId)
  /-- R49: a corner takes the boundary at which its hold frames left reach 0. -/
  | holdExpiry (c : CornerId)
  /-- R66: the oldest partner notice on its way to a corner reaches it. -/
  | partnerNotice (c : CornerId)
  /-- R38: a channel takes a frame boundary. -/
  | channelFrameBoundary (v : ValveId)
  /-- R38: a channel takes the boundary at which its scheduled ramp ends. -/
  | setpointRampEnd (v : ValveId)
  /-- R50: a channel takes the boundary at which its release ramp ends. -/
  | releaseEnd (v : ValveId)
  /-- R36: the oldest ramp request on its way to a valve reaches it. -/
  | rampRequest (v : ValveId)
  /-- R50: the oldest override end on its way to a valve reaches it. -/
  | overrideEnd (v : ValveId)
  /-- R89: the sample that is the fourth consecutive in-band sample in PREPARE. -/
  | testCurrentReach (v : ValveId) (x : Sample)
  /-- R89: 5 ms after entry to PREPARE. -/
  | prepareTimeout (v : ValveId)
  /-- R90: the sample that ends the resistance measurement. -/
  | resistanceMeasurementEnd (v : ValveId) (x : Sample)
  /-- R91: 20 ms after entry to PREPARE. -/
  | prepareEnd (v : ValveId)
  /-- R97: the sample that is the fourth consecutive in-band sample of a settle run. -/
  | settleSuccess (v : ValveId) (x : Sample)
  /-- R97: the expiry of a settle run. -/
  | settleMiss (v : ValveId)
  /-- R122: the millisecond update of a Heat Monitor. -/
  | heatUpdate (v : ValveId)
  /-- R109: the analyzer looks at the Tune Queue. -/
  | queueLook
  /-- R110: the end of the pre-drive of the trial in hand. -/
  | preDriveEnd
  /-- R111: sample 63 of the step of the trial in hand. -/
  | trialEnd (x : Sample)
  /-- R117: sample 63 of the track capture in hand. -/
  | captureEnd (x : Sample)
  /-- R150: the Write-Back Engine chooses an item. -/
  | engineItemChoice
  /-- R153: the engine's word in hand is granted and written. -/
  | engineWordWrite
  /-- R86: a 50 µs sample of a channel. -/
  | coilCurrentSample (v : ValveId) (x : Sample)
  deriving DecidableEq, Repr

end Sys2Proof
end

