-- ==== Sys2Proof/Decode.lean ====
section
/-! DEFINITION. The command that a word spells by the table's bits. No row of spec/opcode_table.json gives bits: the
commands are events of the block's ports, lines and clocks, and no word spells one. -/

namespace Sys2Proof

/-- The command that the word `w` of `nbits` bits spells: none, for every word (log 24). -/
def decodeTableWord (nbits w : Nat) : Option Instr :=
  match nbits, w with
  | _, _ => none

end Sys2Proof
end

