-- ==== Sys2Proof/Config.lean ====
section
/-! DEFINITION. What the spec leaves open: the free values of Status Window fields that have no value to show, and
what a byte of memory that nothing has written reads as. -/

namespace Sys2Proof

/-- The valve field of the analyzer word when the analyzer, or the trace, has no valve (R107, layout 10.8): a free
value, one for each time it is shown. Log 20. -/
opaque Config.freeValve : Nat → BitVec 3

/-- The sequence field of a corner's second word when there is no last taken sequence (R27, layout 10.8): a free
value. Log 20. -/
opaque Config.freeSequence : Nat → BitVec 16

/-- The tuned-gain field of a valve's word 0 when there is no tuned gain (R86, layout 10.8): a free value. Log 20. -/
opaque Config.freeGain : Nat → BitVec 4

/-- What a byte of the SRAM that nothing has written reads as (DESIGN CHOICE, log 13). -/
def Config.unlistedByte : BitVec 8 := 0#8

/-- What the parity bit of a byte that nothing has written reads as (DESIGN CHOICE, log 13): good under PSENSE ODD. -/
def Config.unlistedParity : Bool := true

end Sys2Proof
end

