-- ==== Sys2Proof/Machine/State.lean ====
section
/-! DEFINITION. Everything the spec gives the block, as plain data; the outcomes of a command; and the state right
after reset. INVENTORY.md lists each piece with the rule that names it. -/

namespace Sys2Proof.Machine

/-! ## Memory and the Path Bridge -/

/-- The external SRAM as the part sees it (R143, R146): for each byte address its data byte and its lane parity bit.
Both lists are in canonical form: addresses strictly rising, nothing listed that an unlisted address reads as. -/
structure Memory where
  bytes : List Host.Cell
  parity : List (Nat × Bool)
  deriving DecidableEq, Repr

/-- R143, R146, R147: the latched straps and the two sticky parity summaries. -/
structure Bridge where
  region : BitVec 4
  psense : ParitySense
  stickyP : Bool
  stickyM : Bool
  deriving DecidableEq, Repr

/-- The word last returned to the processor on the P-port, with its lane parity (R147, R148). -/
structure ReadPort where
  data : Word
  parity : Lanes
  deriving DecidableEq, Repr

/-- The class of a P-port access (R144, in the order of the codes of 10.8). -/
inductive AccessClass where
  | plain | setupBlock | urgentSlot | demandSlot | mapBlock | statusWindow | journalRing | traceArea
  deriving DecidableEq, Repr

/-! ## Slot Capture -/

/-- One staged byte (R3): its value, its staged mark and its poisoned mark. -/
structure StagedByte where
  value : Byte
  staged : Bool
  poisoned : Bool
  deriving DecidableEq, Repr

/-- A captured closing write: its four bytes and a poisoned mark for each lane (R3, R7). -/
structure ClosingWord where
  data : Word
  poisoned : Lanes
  deriving DecidableEq, Repr

/-- R3. -/
inductive DemandState where
  | free | filling | held | retiring | refusing
  deriving DecidableEq, Repr

/-- R43. -/
inductive UrgentState where
  | free | filling | active | owed
  deriving DecidableEq, Repr

/-- The refusal reasons of records (R10, R11, R45), in the order of the codes of 10.8. -/
inductive RefusalReason where
  | incomplete | poisoned | check | slotMismatch | range
  | cornerIdle | cornerLimp | cornerSafe | sequence | stale | tooEarly | queueFull
  deriving DecidableEq, Repr

/-- The causes of a flush (R28, R53). -/
inductive FlushCause where
  | limp | idle | safe | restart
  deriving DecidableEq, Repr

/-- The take disposition owed for a demand slot (R15). -/
structure DemandTake where
  frame : Frame
  deriving DecidableEq, Repr

/-- The final or refusal disposition owed for a demand slot (R14, R15); currents in mA. -/
inductive DemandFinal where
  | applied (frame : Frame) (compression rebound : Nat)
  | superseded (frame : Frame)
  | flushed (cause : FlushCause) (frame : Frame)
  | refused (reason : RefusalReason) (frame : Frame)
  deriving DecidableEq, Repr

/-- One slot table entry of a demand slot (R3). -/
structure DemandSlot where
  state : DemandState
  staging : Vector StagedByte 12
  closing : Option ClosingWord
  take : Option DemandTake
  final : Option DemandFinal
  deriving DecidableEq, Repr

/-- The take disposition owed for an urgent slot (R54); currents at take in mA. -/
structure UrgentTake where
  frame : Frame
  compression : Nat
  rebound : Nat
  deriving DecidableEq, Repr

/-- The final disposition owed for an urgent slot (R54). -/
inductive UrgentFinal where
  | ended (frame : Frame)
  | cancelled (frame : Frame)
  | flushed (cause : FlushCause) (frame : Frame)
  | refused (reason : RefusalReason) (frame : Frame)
  deriving DecidableEq, Repr

/-- One slot table entry of an urgent slot (R43). -/
structure UrgentSlot where
  state : UrgentState
  staging : Vector StagedByte 12
  closing : Option ClosingWord
  cancel : Vector StagedByte 12
  take : Option UrgentTake
  final : Option UrgentFinal
  deriving DecidableEq, Repr

/-! ## Frame Timer and Corner Controllers -/

/-- R20. -/
structure Timer where
  running : Bool
  frame : Frame
  period : Nat
  deriving DecidableEq, Repr

/-- R56. -/
inductive CornerState where
  | idle | run | limp | safe
  deriving DecidableEq, Repr

/-- R56. -/
inductive LimpCause where
  | none | silence | valveFault | valveLost | partner
  deriving DecidableEq, Repr

/-- R2, R42. -/
inductive ValveSelect where
  | compression | rebound | both
  deriving DecidableEq, Repr

/-- R2. -/
inductive Timing where
  | atFrame | nextFrame
  deriving DecidableEq, Repr

/-- One entry of a Pending List (R24). -/
structure Entry where
  slot : SlotId
  select : ValveSelect
  timing : Timing
  sequence : Sequence
  target : Frame
  ramp : Nat
  compression : Nat
  rebound : Nat
  takenAt : Frame
  deriving DecidableEq, Repr

/-- The urgent hold in force on a corner (R46). -/
structure Hold where
  sequence : Sequence
  select : ValveSelect
  left : Nat
  release : Nat
  deriving DecidableEq, Repr

/-- A partner notice on its way to a corner (R66): the sending corner and the frame it names. -/
structure PartnerNotice where
  sender : CornerId
  frame : Frame
  deriving DecidableEq, Repr

/-- One Corner Controller (R56, R24, R46, R32), with the frame it last took a boundary for (R23) and the partner
notices on their way to it. -/
structure Corner where
  state : CornerState
  limpCause : LimpCause
  silence : Nat
  lastTaken : Option Sequence
  list : List Entry
  hold : Option Hold
  limpFirmness : Nat
  limpRamp : Nat
  silenceLimit : Nat
  lowMark : Nat
  highMark : Nat
  dryRun : Bool
  ready : Bool
  frame : Frame
  notices : List PartnerNotice
  deriving DecidableEq, Repr

/-! ## Valve Channels and Heat Monitors -/

/-- A ramp of the scheduled setpoint (R35): start S, target T, length R, step count k. -/
structure Ramp where
  start : Nat
  target : Nat
  length : Nat
  count : Nat
  deriving DecidableEq, Repr

/-- A ramp request (R36): its target, its length and the frame it is for. -/
structure RampRequest where
  target : Nat
  length : Nat
  frame : Frame
  deriving DecidableEq, Repr

/-- The waiting request of a channel (R35). -/
structure WaitingRequest where
  target : Nat
  length : Nat
  deriving DecidableEq, Repr

/-- An override end (R50): its release length and the frame it is for. -/
structure OverrideEnd where
  release : Nat
  frame : Frame
  deriving DecidableEq, Repr

/-- The urgent phase of a channel (R48). A release whose step count is still 0 keeps the frame of its first step. -/
inductive Phase where
  | none
  | override (firmness : Nat)
  | release (firmness length count : Nat) (first : Frame)
  deriving DecidableEq, Repr

/-- R86. -/
inductive FaultCause where
  | openCircuit | shortCircuit | driver | settle | untunable
  deriving DecidableEq, Repr

/-- How far the prepare test has come (R89, R90): looking for the reach with its count of consecutive in-band samples;
measuring, with the samples taken and the sums of current (mA) and voltage (mV); or passed, with the resistance in
hundredths of an ohm. -/
inductive PrepareStage where
  | reaching (inBand : Nat)
  | measuring (count current voltage : Nat)
  | passed (resistance : Nat)
  deriving DecidableEq, Repr

/-- The prepare progress (R86): the 50 µs samples since entry, and the stage. -/
structure Prepare where
  elapsed : Nat
  stage : PrepareStage
  deriving DecidableEq, Repr

/-- The TUNE sub-state (R86). -/
inductive TuneSub where
  | waiting | searching
  deriving DecidableEq, Repr

/-- The channel state (R86), with what is present only in it: the prepare progress, the TUNE sub-state, the fault
cause. -/
inductive ChannelState where
  | off
  | prepare (p : Prepare)
  | tune (sub : TuneSub)
  | track
  | fault (cause : FaultCause)
  deriving DecidableEq, Repr

/-- The settle timer while it runs (R86, R97): the 50 µs sample times left before its expiry, and the count of
consecutive in-band samples. -/
structure SettleRun where
  left : Nat
  inBand : Nat
  deriving DecidableEq, Repr

/-- R121. -/
inductive ThermalLevel where
  | cool | warm | hot
  deriving DecidableEq, Repr

/-- One Heat Monitor (R121). -/
structure Heat where
  index : Nat
  level : ThermalLevel
  warmLevel : Nat
  hotLevel : Nat
  warmCeiling : Nat
  hotCeiling : Nat
  deriving DecidableEq, Repr

/-- One Valve Channel (R35, R48, R86, R112, R121), with the frame it last took a boundary for (R23) and the ramp
requests and override ends on their way to it, oldest first. -/
structure Channel where
  setpoint : Nat
  previous : Nat
  ramp : Option Ramp
  waiting : Option WaitingRequest
  phase : Phase
  requests : List RampRequest
  ends : List OverrideEnd
  frame : Frame
  state : ChannelState
  tunedGain : Option (Fin 16)
  target : Nat
  measured : Nat
  settle : Option SettleRun
  misses : Nat
  settleTimeout : Nat
  searchReach : Nat
  heat : Heat
  deriving DecidableEq, Repr

/-! ## Map Store -/

/-- One point of a map (R73). -/
structure MapPoint where
  firmness : Nat
  current : Nat
  deriving DecidableEq, Repr

/-- R77, in the order of the codes of 10.8. -/
inductive MapReason where
  | incomplete | poisoned | count | check | shape | range
  deriving DecidableEq, Repr

/-- R74. -/
inductive PendingState where
  | empty | filling | valid
  | invalid (reason : MapReason)
  deriving DecidableEq, Repr

/-- A map result (R79): the reason of an INVALID result, none for VALID; and the count as read from the header. -/
structure MapResult where
  reason : Option MapReason
  count : Nat
  deriving DecidableEq, Repr

/-- What the Map Store holds for one valve (R74). -/
structure MapEntry where
  active : Option (List MapPoint)
  state : PendingState
  staging : Vector StagedByte 64
  header : Option ClosingWord
  result : Option MapResult
  deriving DecidableEq, Repr

/-! ## Step Analyzer -/

/-- The best trial so far (R107). -/
structure BestTrial where
  gain : Nat
  score : Int
  deriving DecidableEq, Repr

/-- The phase of the trial in hand (R110): the pre-drive with its 50 µs samples so far, or the step. -/
inductive TrialPhase where
  | preDrive (elapsed : Nat)
  | step
  deriving DecidableEq, Repr

/-- The search in hand (R107); the count of step samples is the length of the sample buffer in the STEP phase (log 34). -/
structure Search where
  valve : ValveId
  gain : Nat
  phase : TrialPhase
  best : Option BestTrial
  deriving DecidableEq, Repr

/-- R107. -/
inductive AnalyzerState where
  | idle
  | searching (h : Search)
  | capturing (v : ValveId)
  | writing
  deriving DecidableEq, Repr

/-- R115. -/
inductive TraceState where
  | idle
  | armed (v : ValveId)
  | capturing
  | writing
  deriving DecidableEq, Repr

/-- The completion mark of a trace (R116, R118); absent while it is captured. -/
inductive TraceMark where
  | complete | aborted
  deriving DecidableEq, Repr

/-- One sample of a trace (R119): measured current and target current. -/
structure TraceSample where
  measured : Nat
  target : Nat
  deriving DecidableEq, Repr

/-- The trace in hand (R107). -/
structure Trace where
  valve : ValveId
  gain : Nat
  frame : Frame
  samples : List TraceSample
  mark : Option TraceMark
  deriving DecidableEq, Repr

/-- The Step Analyzer (R107). -/
structure Analyzer where
  state : AnalyzerState
  queue : List ValveId
  buffer : List Nat
  trace : TraceState
  hand : Option Trace
  deriving DecidableEq, Repr

/-! ## Setup Decoder -/

/-- R130. -/
inductive DecoderState where
  | free | judging | replying
  deriving DecidableEq, Repr

/-- The READY modes (R138, R162). -/
inductive ReadyMode where
  | all | any | front | rear
  deriving DecidableEq, Repr

/-- The reasons a reply can carry (R137), NONE apart, in the order of the codes of 10.8. -/
inductive ReplyReason where
  | partialWrite | parity | unknownKind | target | range | framesRunning | framesStopped | safe | wrongState
  | faultPresent | dryRun | driverLine | noMap | notQuiescent | hot | noPendingMap | busy
  deriving DecidableEq, Repr

/-- The command in hand (R131): its four fields as the decoder formed them. -/
structure Command where
  kind : BitVec 8
  mask : BitVec 8
  tag : BitVec 4
  arg : BitVec 12
  deriving DecidableEq, Repr

/-- R137. -/
inductive ReplyResult where
  | done | partly | refused
  deriving DecidableEq, Repr

/-- The reply owed (R137). -/
structure Reply where
  kind : BitVec 8
  tag : BitVec 4
  result : ReplyResult
  refusedMask : BitVec 8
  reason : Option ReplyReason
  deriving DecidableEq, Repr

/-- The judgement of one target, by its bit position: taken, or refused with a reason (R130). -/
structure Judgement where
  target : Nat
  refusal : Option ReplyReason
  deriving DecidableEq, Repr

/-- The Setup Decoder (R130). `outstanding` is the targets of the command in hand that are not yet judged, in the order
in which they reach their owners (R130, R135). -/
structure Setup where
  state : DecoderState
  inHand : Option Command
  judgements : List Judgement
  outstanding : List Nat
  reply : Option Reply
  readyMode : ReadyMode
  attnThreshold : Nat
  deriving DecidableEq, Repr

/-! ## Journal Unit -/

/-- The channel state without what it carries, as the journal names it (10.8). -/
inductive ChannelName where
  | off | prepare | tune | track | fault
  deriving DecidableEq, Repr

/-- The cause of a CORNER LIMP event with its details (R72). -/
inductive LimpDetail where
  | silence (count : Nat)
  | valveFault (v : ValveId) (cause : FaultCause)
  | valveLost (v : ValveId)
  | partner (c : CornerId)
  deriving DecidableEq, Repr

/-- The cause of a CHANNEL STATE event with its figure (R104). -/
inductive ChangeCause where
  | enable
  | prepareDone (resistance : Nat)
  | searchDone (gain : Nat)
  | retune
  | disable
  | safe
  | clearFault (cause : FaultCause)
  deriving DecidableEq, Repr

/-- The condition that keeps a closing write from being a cancel (R51), in the order of the codes of 10.8. -/
inductive CancelFailure where
  | incomplete | poisoned | check | slotMismatch | notCancel | sequence
  deriving DecidableEq, Repr

/-- R142. -/
inductive IndexFailure where
  | partialWrite | parity | outOfSpan
  deriving DecidableEq, Repr

/-- The events of the journal, each with its subject and details (11.1, 10.8). -/
inductive Event where
  | recordRefused (slot : Nat) (reason : RefusalReason)
  | slotBusy (slot : SlotId) (state : DemandState)
  | urgentBusy (c : CornerId) (state : UrgentState) (failure : Option CancelFailure)
  | queueLow (c : CornerId) (count mark : Nat)
  | queueHigh (c : CornerId) (count mark : Nat)
  | cornerLimp (c : CornerId) (detail : LimpDetail)
  | cornerRun (c : CornerId) (left : CornerState)
  | cornerIdle (c : CornerId) (left : CornerState)
  | safeEnter (c : CornerId) (left : CornerState)
  | safeExit (c : CornerId)
  | channelState (v : ValveId) (left entered : ChannelName) (cause : ChangeCause)
  | valveFault (v : ValveId) (cause : FaultCause) (left : ChannelName) (figure : Nat)
  | driverLine (v : ValveId) (asserted : Bool) (state : ChannelName)
  | thermal (v : ValveId) (left entered : ThermalLevel) (index ceiling : Nat)
  | tuned (v : ValveId) (trials : Nat) (best : BestTrial)
  | untunable (v : ValveId) (trials : Nat)
  | traceDone (v : ValveId) (mark : Option TraceMark) (count gain : Nat)
  | parityP (addr : BitVec 24) (lanes : Lanes) (cls : AccessClass)
  | parityM (addr : BitVec 24) (lanes : Lanes) (cls : AccessClass)
  | setupOverrun (kind : BitVec 8) (tag : BitVec 4) (kindInHand : BitVec 8) (tagInHand : BitVec 4)
  | badReadIndex (cause : IndexFailure) (value : Word) (read write : BitVec 7)
  | mapResult (v : ValveId) (result : MapResult)
  | restart
  deriving DecidableEq, Repr

/-- One entry of the staging list (R155). -/
structure JournalEntry where
  event : Event
  frame : Frame
  sequence : BitVec 8
  lostBefore : Nat
  deriving DecidableEq, Repr

/-- The Journal Unit (R155), with the ATTN output it drives (R160). The alarm-pending mark is set when it holds the
ring index of the latest published alarm-class entry. -/
structure Journal where
  staging : List JournalEntry
  write : BitVec 7
  read : BitVec 7
  lost : Nat
  next : BitVec 8
  alarm : Option (BitVec 7)
  threshold : Nat
  attn : Bool
  deriving DecidableEq, Repr

/-! ## Write-Back Engine -/

/-- What a publish notice tells its owner (R151). -/
inductive Notice where
  | demandTake (i : SlotId)
  | demandFinal (i : SlotId)
  | urgentTake (c : CornerId)
  | urgentFinal (c : CornerId)
  | mapResult (v : ValveId)
  | reply
  | journal
  | trace
  deriving DecidableEq, Repr

/-- What an engine word carries: contents fixed at the choice of its item, or the map result owed at its grant
(R151). -/
inductive WordSource where
  | fixed (data : Word)
  | mapResult (v : ValveId)
  deriving DecidableEq, Repr

/-- One word the engine is to write: its offset in the Control Region, its contents, and the publish notice it causes
when it is a polled word. -/
structure EngineWord where
  offset : Nat
  source : WordSource
  notice : Option Notice
  deriving DecidableEq, Repr

/-- The classes of owed work (R149). -/
inductive ItemKind where
  | urgent (c : CornerId)
  | demand (i : SlotId)
  | map (v : ValveId)
  | reply
  | journal
  | trace
  deriving DecidableEq, Repr

/-- The item in hand with its words yet to be written (R149). -/
structure Item where
  kind : ItemKind
  words : List EngineWord
  deriving DecidableEq, Repr

/-- The Write-Back Engine (R149); its journal class is the head of the journal's staging list (R157). -/
structure Engine where
  urgent : List CornerId
  demand : List SlotId
  map : List ValveId
  reply : Bool
  trace : Bool
  hand : Option Item
  deriving DecidableEq, Repr

/-! ## Line Monitor -/

/-- The Line Monitor (R161, R162): sampled levels, true for asserted; the readiness each corner last reported; the
READY mode as last handed to it; and the READY output. -/
structure Lines where
  safe : Bool
  dflt : Vector Bool 8
  reported : Vector Bool 4
  mode : ReadyMode
  ready : Bool
  deriving DecidableEq, Repr

/-! ## The machine -/

/-- What stands inside the part. `fresh` is the model's own: it picks the next free value (log 20). -/
structure Part where
  bridge : Bridge
  port : ReadPort
  demand : Vector DemandSlot 64
  urgent : Vector UrgentSlot 4
  timer : Timer
  corners : Vector Corner 4
  pairing : Bool
  channels : Vector Channel 8
  maps : Vector MapEntry 8
  analyzer : Analyzer
  setup : Setup
  engine : Engine
  waitCount : Nat
  journal : Journal
  lines : Lines
  fresh : Nat
  deriving DecidableEq, Repr

/-- The machine: the commands that wait, first in first out; the external SRAM; and the part. -/
structure State where
  pending : List Instr
  mem : Memory
  part : Part
  deriving DecidableEq, Repr

/-- What stops the machine. The spec describes no command that stops the part: it answers and goes on. -/
inductive Fault where
  deriving DecidableEq, Repr

/-- Why a command has no meaning here. -/
inductive Refusal where
  /-- Raised by `exec` for a command whose meaning is not written yet; no arm raises it. Safe. -/
  | notModelled (mnemonic : String)
  deriving DecidableEq, Repr

/-! ## Reset (the values of the "After RESETN" columns) -/

/-- A byte with both marks clear; its value is DESIGN CHOICE 0 (log 15). -/
def StagedByte.clear : StagedByte := ⟨0, false, false⟩

/-- R3. -/
def DemandSlot.reset : DemandSlot :=
  { state := .free, staging := Vector.replicate 12 .clear, closing := none, take := none, final := none }

/-- R43. -/
def UrgentSlot.reset : UrgentSlot :=
  { state := .free, staging := Vector.replicate 12 .clear, closing := none, cancel := Vector.replicate 12 .clear
    take := none, final := none }

/-- R20. -/
def Timer.reset : Timer := { running := false, frame := 0, period := 2 }

/-- R57, for a corner that is not placed in SAFE at release. -/
def Corner.reset : Corner :=
  { state := .idle, limpCause := .none, silence := 0, lastTaken := none, list := [], hold := none
    limpFirmness := 600, limpRamp := 20, silenceLimit := 50, lowMark := 1, highMark := 7
    dryRun := false, ready := false, frame := 0, notices := [] }

/-- R121. -/
def Heat.reset : Heat :=
  { index := 0, level := .cool, warmLevel := 16384, hotLevel := 32768, warmCeiling := 1200, hotCeiling := 700 }

/-- R35, R48, R86, R112; the measured current is DESIGN CHOICE 0 (log 15). -/
def Channel.reset : Channel :=
  { setpoint := 600, previous := 600, ramp := none, waiting := none, phase := .none, requests := [], ends := []
    frame := 0, state := .off, tunedGain := none, target := 0, measured := 0, settle := none, misses := 0
    settleTimeout := 5, searchReach := 3, heat := .reset }

/-- R74. -/
def MapEntry.reset : MapEntry :=
  { active := none, state := .empty, staging := Vector.replicate 64 .clear, header := none, result := none }

/-- R107. -/
def Analyzer.reset : Analyzer := { state := .idle, queue := [], buffer := [], trace := .idle, hand := none }

/-- R130. -/
def Setup.reset : Setup :=
  { state := .free, inHand := none, judgements := [], outstanding := [], reply := none, readyMode := .all
    attnThreshold := 1 }

/-- R149. -/
def Engine.reset : Engine :=
  { urgent := [], demand := [], map := [], reply := false, trace := false, hand := none }

/-- R155, R160. -/
def Journal.reset : Journal :=
  { staging := [], write := 0, read := 0, lost := 0, next := 0, alarm := none, threshold := 1, attn := false }

/-- R161, R162; the sampled levels are DESIGN CHOICE released (log 14). -/
def Lines.reset : Lines :=
  { safe := false, dflt := Vector.replicate 8 false, reported := Vector.replicate 4 false, mode := .all
    ready := false }

/-- R143; the straps are DESIGN CHOICE 0 and ODD (log 14). -/
def Bridge.reset : Bridge := { region := 0, psense := .odd, stickyP := false, stickyM := false }

/-- The part right after reset; the read data on the P-port is DESIGN CHOICE 0 (log 15). -/
def Part.reset : Part :=
  { bridge := .reset, port := ⟨0, 0⟩, demand := Vector.replicate 64 .reset, urgent := Vector.replicate 4 .reset
    timer := .reset, corners := Vector.replicate 4 .reset, pairing := true, channels := Vector.replicate 8 .reset
    maps := Vector.replicate 8 .reset, analyzer := .reset, setup := .reset, engine := .reset, waitCount := 0
    journal := .reset, lines := .reset, fresh := 0 }

/-- The machine right after reset: no command waits and nothing is listed in memory. -/
def State.reset : State :=
  { pending := [], mem := ⟨[], []⟩, part := .reset }

end Sys2Proof.Machine
end

