-- ==== Sys2Proof/Machine/Ops.lean ====
section
/-! DEFINITION. The named operations over the state: reading and replacing one unit of the part, memory, handing an
event to the journal, and offering work to the Write-Back Engine. -/

namespace Sys2Proof.Machine

/-! ## Corners, valves and sets of them -/

/-- The corner of a valve: v div 2. -/
def cornerOf (v : ValveId) : CornerId := ⟨v.val / 2, by omega⟩

/-- The compression valve of a corner: 2c. -/
def compressionValve (c : CornerId) : ValveId := ⟨2 * c.val, by omega⟩

/-- The rebound valve of a corner: 2c + 1. -/
def reboundValve (c : CornerId) : ValveId := ⟨2 * c.val + 1, by omega⟩

/-- The axle partner: corners 0 and 1, corners 2 and 3. -/
def partnerOf (c : CornerId) : CornerId :=
  ⟨if c.val % 2 = 0 then c.val + 1 else c.val - 1, by split <;> omega⟩

/-- The valves in numerical order. -/
def allValves : List ValveId := [0, 1, 2, 3, 4, 5, 6, 7]

/-- The corners in numerical order. -/
def allCorners : List CornerId := [0, 1, 2, 3]

/-- Whether a record with this valve select drives the compression side. -/
def ValveSelect.hasCompression : ValveSelect → Bool
  | .compression => true
  | .rebound => false
  | .both => true

/-- Whether a record with this valve select drives the rebound side. -/
def ValveSelect.hasRebound : ValveSelect → Bool
  | .compression => false
  | .rebound => true
  | .both => true

/-- Does a record for corner c with this valve select name valve v? -/
def ValveSelect.names (sel : ValveSelect) (c : CornerId) (v : ValveId) : Bool :=
  (v == compressionValve c && sel.hasCompression) || (v == reboundValve c && sel.hasRebound)

/-- The arrangement of a list that an order operand stands for: its k-th number, modulo what is left, picks the k-th
element; an exhausted order keeps what is left as it stands. Every arrangement is some order's (log 4). -/
def arrange {α : Type} : List Nat → List α → List α
  | _, [] => []
  | [], l => l
  | k :: ks, x :: xs =>
    match (x :: xs)[k % (xs.length + 1)]? with
    | some y => y :: arrange ks ((x :: xs).eraseIdx (k % (xs.length + 1)))
    | none => x :: xs

/-! ## One unit of the part -/

def Part.demandSlot (p : Part) (i : SlotId) : DemandSlot := p.demand[i]
def Part.urgentSlot (p : Part) (c : CornerId) : UrgentSlot := p.urgent[c]
def Part.corner (p : Part) (c : CornerId) : Corner := p.corners[c]
def Part.channel (p : Part) (v : ValveId) : Channel := p.channels[v]
def Part.map (p : Part) (v : ValveId) : MapEntry := p.maps[v]

def Part.setBridge (p : Part) (x : Bridge) : Part := { p with bridge := x }
def Part.setPort (p : Part) (x : ReadPort) : Part := { p with port := x }
def Part.setDemand (p : Part) (i : SlotId) (x : DemandSlot) : Part := { p with demand := p.demand.set i x }
def Part.setUrgent (p : Part) (c : CornerId) (x : UrgentSlot) : Part := { p with urgent := p.urgent.set c x }
def Part.setTimer (p : Part) (x : Timer) : Part := { p with timer := x }
def Part.setCorner (p : Part) (c : CornerId) (x : Corner) : Part := { p with corners := p.corners.set c x }
def Part.setPairing (p : Part) (x : Bool) : Part := { p with pairing := x }
def Part.setChannel (p : Part) (v : ValveId) (x : Channel) : Part := { p with channels := p.channels.set v x }
def Part.setMap (p : Part) (v : ValveId) (x : MapEntry) : Part := { p with maps := p.maps.set v x }
def Part.setAnalyzer (p : Part) (x : Analyzer) : Part := { p with analyzer := x }
def Part.setSetup (p : Part) (x : Setup) : Part := { p with setup := x }
def Part.setEngine (p : Part) (x : Engine) : Part := { p with engine := x }
def Part.setWaitCount (p : Part) (x : Nat) : Part := { p with waitCount := x }
def Part.setJournal (p : Part) (x : Journal) : Part := { p with journal := x }
def Part.setLines (p : Part) (x : Lines) : Part := { p with lines := x }

/-- The sampled level of the driver fault line of a valve (R161). -/
def Part.driverFault (p : Part) (v : ValveId) : Bool := p.lines.dflt[v]

/-- The frame after the one current at a corner. -/
def Part.nextFrame (p : Part) (c : CornerId) : Frame := (p.corner c).frame + 1

/-! ## Memory -/

/-- What a sorted list of cells holds at an address, `d` where nothing is listed. -/
def Cells.get {α : Type} (d : α) : List (Nat × α) → Nat → α
  | [], _ => d
  | (k, x) :: t, a => if k = a then x else Cells.get d t a

/-- The sorted list with an address set; a value equal to `d` is not listed. -/
def Cells.set {α : Type} [DecidableEq α] (d : α) : List (Nat × α) → Nat → α → List (Nat × α)
  | [], a, x => if x = d then [] else [(a, x)]
  | (k, y) :: t, a, x =>
    if a < k then (if x = d then (k, y) :: t else (a, x) :: (k, y) :: t)
    else if a = k then (if x = d then t else (a, x) :: t)
    else (k, y) :: Cells.set d t a x

/-- The canonical form: addresses strictly rising above `low`, nothing listed that an unlisted address reads as. -/
def Cells.wfAbove {α : Type} [DecidableEq α] (d : α) : Option Nat → List (Nat × α) → Bool
  | _, [] => true
  | low, (k, x) :: t => (low.all fun b => decide (b < k)) && !decide (x = d) && Cells.wfAbove d (some k) t

/-- The canonical form of memory. -/
def Memory.wf (m : Memory) : Bool :=
  Cells.wfAbove Config.unlistedByte none m.bytes && Cells.wfAbove Config.unlistedParity none m.parity

/-- The data byte at a byte address. -/
def Memory.byte (m : Memory) (a : Nat) : Byte := Cells.get Config.unlistedByte m.bytes a

/-- The parity bit of the byte at a byte address. -/
def Memory.parityBit (m : Memory) (a : Nat) : Bool := Cells.get Config.unlistedParity m.parity a

/-- One lane written: its data byte and its parity bit. -/
def Memory.writeByte (m : Memory) (a : Nat) (b : Byte) (q : Bool) : Memory :=
  { bytes := Cells.set Config.unlistedByte m.bytes a b, parity := Cells.set Config.unlistedParity m.parity a q }

/-- Byte lane k of a word. -/
def laneByte (w : Word) (k : Nat) : Byte := w.extractLsb' (8 * k) 8

/-- The byte address of lane 0 of a word address. -/
def byteAddress (addr : BitVec 22) : Nat := 4 * addr.toNat

/-- Lane k of a beat written at a byte address, if it is enabled. -/
def Memory.writeLane (m : Memory) (base : Nat) (b : Beat) (k : Nat) : Memory :=
  if b.lanes.getLsbD k then m.writeByte (base + k) (laneByte b.data k) (b.parity.getLsbD k) else m

/-- A beat written at the word whose lane 0 stands at a byte address: its enabled lanes, data and parity unchanged
(R144). -/
def Memory.writeBeat (m : Memory) (base : Nat) (b : Beat) : Memory :=
  (((m.writeLane base b 0).writeLane base b 1).writeLane base b 2).writeLane base b 3

/-- The four data bytes at a byte address as a word, lane 0 least significant. -/
def Memory.word (m : Memory) (base : Nat) : Word :=
  m.byte (base + 3) ++ m.byte (base + 2) ++ m.byte (base + 1) ++ m.byte base

/-- The four parity bits at a byte address, bit k for lane k. -/
def Memory.lanesParity (m : Memory) (base : Nat) : Lanes :=
  BitVec.ofBool (m.parityBit (base + 3)) ++ BitVec.ofBool (m.parityBit (base + 2)) ++
    BitVec.ofBool (m.parityBit (base + 1)) ++ BitVec.ofBool (m.parityBit base)

/-! ## The journal (R156) -/

/-- An event handed to the Journal Unit with its frame: it joins the staging list, or is counted lost when the list
holds 16 entries. -/
def Journal.hand (j : Journal) (e : Event) (f : Frame) : Journal :=
  if j.staging.length < 16 then
    { j with
      staging := j.staging ++ [{ event := e, frame := f, sequence := j.next, lostBefore := j.lost }]
      next := j.next + 1
      lost := 0 }
  else { j with lost := min 255 (j.lost + 1) }

/-- R156, at the part. -/
def Part.hand (p : Part) (e : Event) (f : Frame) : Part := p.setJournal (p.journal.hand e f)

/-! ## Offers to the Write-Back Engine (R149, R152) -/

/-- An entry offered to an ordered class: it joins the tail, or keeps the place it has. -/
def offered {α : Type} [BEq α] (l : List α) (x : α) : List α := if l.contains x then l else l ++ [x]

def Part.offerDemand (p : Part) (i : SlotId) : Part :=
  p.setEngine { p.engine with demand := offered p.engine.demand i }

def Part.offerUrgent (p : Part) (c : CornerId) : Part :=
  p.setEngine { p.engine with urgent := offered p.engine.urgent c }

def Part.offerMap (p : Part) (v : ValveId) : Part :=
  p.setEngine { p.engine with map := offered p.engine.map v }

def Part.offerReply (p : Part) : Part := p.setEngine { p.engine with reply := true }

def Part.offerTrace (p : Part) : Part := p.setEngine { p.engine with trace := true }

end Sys2Proof.Machine
end

