-- ==== Sys2Proof/Machine/Flags.lean ====
section
/-! DEFINITION. The conditions the part computes: lane parity, the check code, modular distances, settle bands, the
thermal level, readiness and READY, the unconsumed count and ATTN. -/

namespace Sys2Proof.Machine

/-! ## Lane parity (R146) -/

/-- Whether a byte holds an odd number of ones. -/
def byteOdd (b : Byte) : Bool :=
  b.getLsbD 0 ^^ b.getLsbD 1 ^^ b.getLsbD 2 ^^ b.getLsbD 3 ^^ b.getLsbD 4 ^^ b.getLsbD 5 ^^ b.getLsbD 6 ^^ b.getLsbD 7

/-- A lane is good when its eight data bits and its parity bit hold the number of ones that PSENSE asks for. -/
def laneGood (sense : ParitySense) (b : Byte) (q : Bool) : Bool :=
  match sense with
  | .odd => byteOdd b ^^ q
  | .even => !(byteOdd b ^^ q)

/-- The lanes of a word whose parity is bad. -/
def badLanes (sense : ParitySense) (data : Word) (parity : Lanes) : Lanes :=
  BitVec.ofBool (!laneGood sense (laneByte data 3) (parity.getLsbD 3)) ++
    BitVec.ofBool (!laneGood sense (laneByte data 2) (parity.getLsbD 2)) ++
    BitVec.ofBool (!laneGood sense (laneByte data 1) (parity.getLsbD 1)) ++
    BitVec.ofBool (!laneGood sense (laneByte data 0) (parity.getLsbD 0))

/-- The enabled lanes of a write whose parity is bad; lanes that are not enabled are not checked. -/
def beatBadLanes (sense : ParitySense) (b : Beat) : Lanes :=
  b.lanes &&& badLanes sense b.data b.parity

/-- The parity bit that makes a byte good. -/
def goodParityBit (sense : ParitySense) (b : Byte) : Bool :=
  match sense with
  | .odd => !byteOdd b
  | .even => byteOdd b

/-- Good parity on all four lanes of a word the part supplies (R147). -/
def goodParity (sense : ParitySense) (data : Word) : Lanes :=
  BitVec.ofBool (goodParityBit sense (laneByte data 3)) ++ BitVec.ofBool (goodParityBit sense (laneByte data 2)) ++
    BitVec.ofBool (goodParityBit sense (laneByte data 1)) ++ BitVec.ofBool (goodParityBit sense (laneByte data 0))

/-! ## The check code (R9) -/

/-- One data bit: the remainder moves up by one; where the bit shifted out differs from the data bit, 0x1021 is
combined in. -/
def crcBit (r : BitVec 16) (b : Bool) : BitVec 16 :=
  if r.msb != b then (r <<< 1) ^^^ 0x1021#16 else r <<< 1

/-- One byte, most significant bit first. -/
def crcByte (r : BitVec 16) (x : Byte) : BitVec 16 :=
  [7, 6, 5, 4, 3, 2, 1, 0].foldl (fun r k => crcBit r (x.getLsbD k)) r

/-- The check code of a list of bytes, from a remainder of all ones. -/
def checkCode (bytes : List Byte) : BitVec 16 := bytes.foldl crcByte 0xFFFF#16

/-! ## Modular distances (00, Frame arithmetic) -/

/-- How far `f` is ahead of `n`. -/
def ahead (f n : BitVec 16) : Nat := (f - n).toNat

/-- A frame is past when it is ahead by 0 or by 32768 to 65535. -/
def isPast (f n : BitVec 16) : Bool := ahead f n == 0 || decide (32768 ≤ ahead f n)

/-- R11 check 7: a sequence number that is not ahead of `last` by 1 to 32767. -/
def sequenceStale (s last : Sequence) : Bool := ahead s last == 0 || decide (32768 ≤ ahead s last)

/-! ## Ramps and blends (R38, R50) -/

/-- The value `k` steps of `r` on the way from `s` to `t`, truncated toward `s`. -/
def blend (s t k r : Nat) : Nat := if s ≤ t then s + (t - s) * k / r else s - (s - t) * k / r

/-! ## Settle bands (R96) -/

/-- The settle band of a target current. -/
def settleBand (i : Nat) : Nat := max 20 (3 * i / 100)

/-- The distance between two currents. -/
def distance (a b : Nat) : Nat := (a - b) + (b - a)

/-- Whether a sample lies in the settle band of a target. -/
def inBand (sample target : Nat) : Bool := decide (distance sample target ≤ settleBand target)

/-- Whether a replacement of target `a` by `b` qualifies. -/
def qualifies (a b : Nat) : Bool := decide (settleBand a < distance b a)

/-! ## Thermal level (R121, R122, R123) -/

/-- The ceiling of a level. -/
def Heat.ceilingOf (h : Heat) : ThermalLevel → Nat
  | .cool => 2000
  | .warm => h.warmCeiling
  | .hot => h.hotCeiling

/-- The ceiling in force. -/
def Heat.ceiling (h : Heat) : Nat := h.ceilingOf h.level

/-- The level after an evaluation. -/
def Heat.evaluated (h : Heat) : ThermalLevel :=
  match h.level with
  | .cool => if h.hotLevel ≤ h.index then .hot else if h.warmLevel ≤ h.index then .warm else .cool
  | .warm => if h.hotLevel ≤ h.index then .hot else if h.index + 2048 < h.warmLevel then .cool else .warm
  | .hot =>
    if h.index + 2048 < h.hotLevel then (if h.index + 2048 < h.warmLevel then .cool else .warm) else .hot

/-- The rise of one update for a measured current in mA. -/
def heatRise (i : Nat) : Nat := i * i / 80000

/-- The heat index after one update with rise `r`. -/
def heatStep (h r : Nat) : Nat := min 65535 (h + r) - min 65535 (h + r) / 2048

/-! ## Readiness and READY (R71, R162) -/

/-- READY as the mode asks for it. -/
def readyOutput (mode : ReadyMode) (r : Vector Bool 4) : Bool :=
  match mode with
  | .all => r[0] && r[1] && r[2] && r[3]
  | .any => r[0] || r[1] || r[2] || r[3]
  | .front => r[0] && r[1]
  | .rear => r[2] && r[3]

/-- Whether a channel is in TRACK. -/
def ChannelState.isTrack : ChannelState → Bool
  | .track => true
  | _ => false

/-- Whether a channel is in FAULT. -/
def ChannelState.isFault : ChannelState → Bool
  | .fault _ => true
  | _ => false

/-- Whether a channel is in OFF or FAULT. -/
def ChannelState.isOffOrFault : ChannelState → Bool
  | .off => true
  | .fault _ => true
  | _ => false

/-- The condition of readiness of a corner. -/
def Part.readyCondition (p : Part) (c : CornerId) : Bool :=
  (p.corner c).state == .run && !(p.corner c).dryRun && (p.channel (compressionValve c)).state.isTrack &&
    (p.channel (reboundValve c)).state.isTrack

/-- Readiness evaluated afresh: the corner reports it to the Line Monitor, which drives READY. -/
def Part.evalReady (p : Part) (c : CornerId) : Part :=
  let r := p.readyCondition c
  let reported := p.lines.reported.set c r
  (p.setCorner c { p.corner c with ready := r }).setLines
    { p.lines with reported := reported, ready := readyOutput p.lines.mode reported }

/-! ## The journal's counts and ATTN (R155, R157, R160) -/

/-- The unconsumed count. -/
def Journal.unconsumed (j : Journal) : Nat := (j.write - j.read).toNat

/-- The condition under which ATTN is asserted. -/
def Journal.attnCondition (j : Journal) : Bool := decide (j.threshold ≤ j.unconsumed) || j.alarm.isSome

/-- ATTN evaluated. -/
def Journal.driveAttn (j : Journal) : Journal := { j with attn := j.attnCondition }

/-- The alarm-class kinds. -/
def Event.isAlarm : Event → Bool
  | .cornerLimp _ _ => true
  | .safeEnter _ _ => true
  | .valveFault _ _ _ _ => true
  | .driverLine _ _ _ => true
  | .recordRefused _ _ | .slotBusy _ _ | .urgentBusy _ _ _ | .queueLow _ _ _ | .queueHigh _ _ _ => false
  | .cornerRun _ _ | .cornerIdle _ _ | .safeExit _ | .channelState _ _ _ _ | .thermal _ _ _ _ _ => false
  | .tuned _ _ _ | .untunable _ _ | .traceDone _ _ _ _ | .parityP _ _ _ | .parityM _ _ _ => false
  | .setupOverrun _ _ _ _ | .badReadIndex _ _ _ _ | .mapResult _ _ | .restart => false

end Sys2Proof.Machine
end

