-- ==== Sys2Proof/Machine/Operands.lean ====
section
/-! DEFINITION. The word layouts of the Control Region (10.7, 10.8): offsets, the fields read from processor-written
words, the codes, and the words the part writes or shows. -/

namespace Sys2Proof.Machine

/-! ## Fields -/

/-- The field of `len` bits from bit `lo` up. -/
def field (w : Word) (lo len : Nat) : Nat := (w.extractLsb' lo len).toNat

/-- A word made of fields given as (low bit, width, value); bits no field covers are 0. -/
def packWord (fs : List (Nat × Nat × Nat)) : Word :=
  fs.foldr (fun f acc => ((BitVec.ofNat f.2.1 f.2.2).setWidth 32 <<< f.1) ||| acc) 0

/-- A bit as a number. -/
def bitOf (b : Bool) : Nat := if b then 1 else 0

/-! ## Offsets (10.7) and classes (R144) -/

def demandOffset (i : SlotId) (w : Nat) : Nat := 0x400 + 32 * i.val + 4 * w
def urgentOffset (c : CornerId) (w : Nat) : Nat := 0x100 + 32 * c.val + 4 * w
def mapOffset (v : ValveId) (w : Nat) : Nat := 0xC00 + 128 * v.val + 4 * w
def setupOffset (w : Nat) : Nat := 4 * w
def windowOffset (w : Nat) : Nat := 0x1000 + 4 * w
def ringOffset (i : BitVec 7) (w : Nat) : Nat := 0x1800 + 16 * i.toNat + 4 * w
def sampleOffset (k : Nat) : Nat := 0x2000 + 4 * k
def traceHeaderOffset : Nat := 0x2100

/-- The word address of an offset in the Control Region, which begins at REGION × 1 MiB (R143): the four straps are
the top bits of the address. -/
def Bridge.wordAddress (b : Bridge) (offset : Nat) : BitVec 22 := b.region ++ BitVec.ofNat 18 (offset / 4)

/-- The offset of a word address in the Control Region, if it lies there: the first 16 KiB of the region's MiB. -/
def Bridge.offset (b : Bridge) (addr : BitVec 22) : Option Nat :=
  if addr.extractLsb' 18 4 = b.region ∧ addr.extractLsb' 12 6 = 0#6 then some (4 * (addr.extractLsb' 0 12).toNat)
  else none

/-- The class of an offset in the Control Region. -/
def classOfOffset (o : Nat) : AccessClass :=
  if o < 0x100 then .setupBlock
  else if o < 0x180 then .urgentSlot
  else if o < 0x400 then .plain
  else if o < 0xC00 then .demandSlot
  else if o < 0x1000 then .mapBlock
  else if o < 0x1100 then .statusWindow
  else if o < 0x1800 then .plain
  else if o < 0x2000 then .journalRing
  else if o < 0x2104 then .traceArea
  else .plain

/-- The class of a word address. -/
def Bridge.classOf (b : Bridge) (addr : BitVec 22) : AccessClass :=
  match b.offset addr with
  | some o => classOfOffset o
  | none => .plain

/-! ## Staged bytes as words -/

/-- Word w of a staging: bytes 4w to 4w + 3, lane 0 least significant. -/
def stagedWord (l : List StagedByte) (w : Nat) : Word :=
  let b := fun k => (l.getD (4 * w + k) .clear).value
  b 3 ++ b 2 ++ b 1 ++ b 0

/-! ## Records (10.8) -/

/-- The valve select field. -/
def selectOfCode : Nat → Option ValveSelect
  | 0 => some .compression
  | 1 => some .rebound
  | 2 => some .both
  | _ => none

/-- A demand record's fields (R2). -/
structure DemandRecord where
  corner : CornerId
  select : Option ValveSelect
  timing : Timing
  ramp : Nat
  sequence : Sequence
  target : Frame
  compression : Nat
  rebound : Nat
  check : BitVec 16
  echo : Nat
  deriving DecidableEq, Repr

/-- The fields of a demand record from its words 0 to 3. -/
def demandRecord (w0 w1 w2 w3 : Word) : DemandRecord :=
  { corner := (w0.extractLsb' 0 2).toFin
    select := selectOfCode (field w0 2 2)
    timing := if w0.getLsbD 4 then .nextFrame else .atFrame
    ramp := field w0 8 6
    sequence := w0.extractLsb' 16 16
    target := w1.extractLsb' 0 16
    compression := field w2 0 11
    rebound := field w2 16 11
    check := w3.extractLsb' 0 16
    echo := field w3 16 7 }

/-- An urgent record's fields (R42). -/
structure UrgentRecord where
  select : Option ValveSelect
  cancel : Bool
  release : Nat
  sequence : Sequence
  hold : Nat
  compression : Nat
  rebound : Nat
  check : BitVec 16
  echo : Nat
  deriving DecidableEq, Repr

/-- The fields of an urgent record from its words 0 to 3. -/
def urgentRecord (w0 w1 w2 w3 : Word) : UrgentRecord :=
  { select := selectOfCode (field w0 0 2)
    cancel := w0.getLsbD 2
    release := field w0 8 6
    sequence := w0.extractLsb' 16 16
    hold := field w1 0 8
    compression := field w2 0 11
    rebound := field w2 16 11
    check := w3.extractLsb' 0 16
    echo := field w3 16 7 }

/-- The point count of a Map Block header. -/
def headerCount (h : Word) : Nat := field h 0 5

/-- The check code of a Map Block header. -/
def headerCheck (h : Word) : BitVec 16 := h.extractLsb' 16 16

/-- A map point from its word. -/
def mapPoint (w : Word) : MapPoint := { firmness := field w 0 11, current := field w 16 12 }

/-! ## The command word (R131) -/

/-- The command word of a kind code and a write's other fields. -/
def commandWord (kind : BitVec 8) (w : CommandWrite) : Word := w.arg ++ w.tag ++ w.mask ++ kind

/-- The beat of a command write. -/
def commandBeat (kind : BitVec 8) (w : CommandWrite) : Beat :=
  { lanes := w.lanes, data := commandWord kind w, parity := w.parity }

/-- A beat's data with the bytes of lanes that are not enabled taken as 0. -/
def seenWord (b : Beat) : Word :=
  let lane := fun k => if b.lanes.getLsbD k then laneByte b.data k else 0#8
  lane 3 ++ lane 2 ++ lane 1 ++ lane 0

/-- The four fields of a command word. -/
def commandOf (w : Word) : Command :=
  { kind := w.extractLsb' 0 8, mask := w.extractLsb' 8 8, tag := w.extractLsb' 16 4, arg := w.extractLsb' 20 12 }

/-! ## Codes (10.8) -/

def RefusalReason.code : RefusalReason → Nat
  | .incomplete => 1 | .poisoned => 2 | .check => 3 | .slotMismatch => 4 | .range => 5 | .cornerIdle => 6
  | .cornerLimp => 7 | .cornerSafe => 8 | .sequence => 9 | .stale => 10 | .tooEarly => 11 | .queueFull => 12

def FlushCause.code : FlushCause → Nat
  | .limp => 1 | .idle => 2 | .safe => 3 | .restart => 4

def CornerState.code : CornerState → Nat
  | .idle => 0 | .run => 1 | .limp => 2 | .safe => 3

def LimpCause.code : LimpCause → Nat
  | .none => 0 | .silence => 1 | .valveFault => 2 | .valveLost => 3 | .partner => 4

def ChannelName.code : ChannelName → Nat
  | .off => 0 | .prepare => 1 | .tune => 2 | .track => 3 | .fault => 4

def FaultCause.code : FaultCause → Nat
  | .openCircuit => 1 | .shortCircuit => 2 | .driver => 3 | .settle => 4 | .untunable => 5

def ThermalLevel.code : ThermalLevel → Nat
  | .cool => 0 | .warm => 1 | .hot => 2

def DemandState.code : DemandState → Nat
  | .free => 0 | .filling => 1 | .held => 2 | .retiring => 3 | .refusing => 4

def UrgentState.code : UrgentState → Nat
  | .free => 0 | .filling => 1 | .active => 2 | .owed => 3

def PendingState.code : PendingState → Nat
  | .empty => 0 | .filling => 1 | .valid => 2 | .invalid _ => 3

def MapReason.code : MapReason → Nat
  | .incomplete => 1 | .poisoned => 2 | .count => 3 | .check => 4 | .shape => 5 | .range => 6

def ReplyReason.code : ReplyReason → Nat
  | .partialWrite => 1 | .parity => 2 | .unknownKind => 3 | .target => 4 | .range => 5 | .framesRunning => 6
  | .framesStopped => 7 | .safe => 8 | .wrongState => 9 | .faultPresent => 10 | .dryRun => 11 | .driverLine => 12
  | .noMap => 13 | .notQuiescent => 14 | .hot => 15 | .noPendingMap => 16 | .busy => 17

def ReplyResult.code : ReplyResult → Nat
  | .done => 1 | .partly => 2 | .refused => 3

def CancelFailure.code : CancelFailure → Nat
  | .incomplete => 1 | .poisoned => 2 | .check => 3 | .slotMismatch => 4 | .notCancel => 5 | .sequence => 6

def IndexFailure.code : IndexFailure → Nat
  | .partialWrite => 1 | .parity => 2 | .outOfSpan => 3

def AccessClass.code : AccessClass → Nat
  | .plain => 0 | .setupBlock => 1 | .urgentSlot => 2 | .demandSlot => 3 | .mapBlock => 4 | .statusWindow => 5
  | .journalRing => 6 | .traceArea => 7

def TraceMark.code : TraceMark → Nat
  | .complete => 1 | .aborted => 2

/-- The channel state as it is named outside (10.8). -/
def ChannelState.name : ChannelState → ChannelName
  | .off => .off
  | .prepare _ => .prepare
  | .tune _ => .tune
  | .track => .track
  | .fault _ => .fault

/-- The fault cause, NONE outside FAULT (R86). -/
def ChannelState.faultCause : ChannelState → Option FaultCause
  | .fault c => some c
  | .off | .prepare _ | .tune _ | .track => none

/-- A code that is 0 for an absent thing. -/
def codeOr0 {α : Type} (f : α → Nat) : Option α → Nat
  | some x => f x
  | none => 0

/-! ## Dispositions (R15, R54) -/

/-- A word with one 16-bit frame number. -/
def frameWord (f : Frame) : Word := packWord [(0, 16, f.toNat)]

/-- Word 7: the compression and the rebound current. -/
def currentsWord (compression rebound : Nat) : Word := packWord [(0, 16, compression), (16, 16, rebound)]

/-- Word 4: a disposition code and its reason or cause; a disposition that has neither is written with 0 (log 35). -/
def dispositionWord (code reason : Nat) : Word := packWord [(0, 4, code), (8, 4, reason)]

/-! ## Map results, replies (10.8) -/

/-- The result word of a Map Block. -/
def MapResult.word (r : MapResult) : Word :=
  packWord [(0, 2, if r.reason.isNone then 1 else 2), (8, 4, codeOr0 MapReason.code r.reason), (16, 5, r.count)]

/-- The reply word. -/
def Reply.word (r : Reply) : Word :=
  packWord [(0, 8, r.kind.toNat), (8, 8, r.refusedMask.toNat), (16, 4, r.tag.toNat), (20, 2, r.result.code),
    (24, 5, codeOr0 ReplyReason.code r.reason)]

/-! ## Journal entries (10.8) -/

def LimpDetail.cause : LimpDetail → LimpCause
  | .silence _ => .silence
  | .valveFault _ _ => .valveFault
  | .valveLost _ => .valveLost
  | .partner _ => .partner

/-- Detail B of a CORNER LIMP entry: silence count, valve or sending corner. -/
def LimpDetail.figure : LimpDetail → Nat
  | .silence n => n
  | .valveFault v _ => v.val
  | .valveLost v => v.val
  | .partner c => c.val

/-- Detail C of a CORNER LIMP entry: the fault cause of a VALVE FAULT. -/
def LimpDetail.fault : LimpDetail → Nat
  | .valveFault _ c => c.code
  | .silence _ | .valveLost _ | .partner _ => 0

def ChangeCause.code : ChangeCause → Nat
  | .enable => 1 | .prepareDone _ => 2 | .searchDone _ => 3 | .retune => 4 | .disable => 5 | .safe => 6
  | .clearFault _ => 7

/-- Detail B of a CHANNEL STATE entry: resistance, tuned gain or cleared fault cause. -/
def ChangeCause.figure : ChangeCause → Nat
  | .prepareDone r => r
  | .searchDone g => g
  | .clearFault c => c.code
  | .enable | .retune | .disable | .safe => 0

/-- The kind code. -/
def Event.kind : Event → Nat
  | .recordRefused _ _ => 1 | .slotBusy _ _ => 2 | .urgentBusy _ _ _ => 3 | .queueLow _ _ _ => 4
  | .queueHigh _ _ _ => 5 | .cornerLimp _ _ => 6 | .cornerRun _ _ => 7 | .cornerIdle _ _ => 8
  | .safeEnter _ _ => 9 | .safeExit _ => 10 | .channelState _ _ _ _ => 11 | .valveFault _ _ _ _ => 12
  | .driverLine _ _ _ => 13 | .thermal _ _ _ _ _ => 14 | .tuned _ _ _ => 15 | .untunable _ _ => 15
  | .traceDone _ _ _ _ => 16 | .parityP _ _ _ => 17 | .parityM _ _ _ => 18 | .setupOverrun _ _ _ _ => 19
  | .badReadIndex _ _ _ _ => 20 | .mapResult _ _ => 21 | .restart => 22

/-- The subject. -/
def Event.subject : Event → Nat
  | .recordRefused s _ => s | .slotBusy i _ => i.val | .urgentBusy c _ _ => 64 + c.val | .queueLow c _ _ => c.val
  | .queueHigh c _ _ => c.val | .cornerLimp c _ => c.val | .cornerRun c _ => c.val | .cornerIdle c _ => c.val
  | .safeEnter c _ => c.val | .safeExit c => c.val | .channelState v _ _ _ => v.val | .valveFault v _ _ _ => v.val
  | .driverLine v _ _ => v.val | .thermal v _ _ _ _ => v.val | .tuned v _ _ => v.val | .untunable v _ => v.val
  | .traceDone v _ _ _ => v.val | .parityP _ _ _ => 0 | .parityM _ _ _ => 1 | .setupOverrun _ _ _ _ => 255
  | .badReadIndex _ _ _ _ => 255 | .mapResult v _ => v.val | .restart => 255

/-- Detail A, 16 bits. A detail that an entry does not use is 0 (log 19). -/
def Event.detailA : Event → Nat
  | .recordRefused _ r => r.code
  | .slotBusy _ s => s.code
  | .urgentBusy _ s _ => s.code
  | .queueLow _ n _ => n
  | .queueHigh _ n _ => n
  | .cornerLimp _ d => d.cause.code
  | .cornerRun _ s => s.code
  | .cornerIdle _ s => s.code
  | .safeEnter _ s => s.code
  | .safeExit _ => CornerState.idle.code
  | .channelState _ l e c => l.code + 16 * e.code + 256 * c.code
  | .valveFault _ c l _ => c.code + 16 * l.code
  | .driverLine _ b _ => bitOf b
  | .thermal _ l e _ _ => l.code + 16 * e.code
  | .tuned _ n _ => 0 + 256 * n
  | .untunable _ n => 1 + 256 * n
  | .traceDone _ m n _ => codeOr0 TraceMark.code m + 256 * n
  | .parityP _ l c => l.toNat + 16 * c.code + 256
  | .parityM _ l c => l.toNat + 16 * c.code
  | .setupOverrun k t _ _ => k.toNat + 256 * t.toNat
  | .badReadIndex c _ _ _ => c.code
  | .mapResult _ r => (if r.reason.isNone then 1 else 2) + 256 * codeOr0 MapReason.code r.reason
  | .restart => 0

/-- Detail B. -/
def Event.detailB : Event → Word
  | .urgentBusy _ _ f => BitVec.ofNat 32 (codeOr0 CancelFailure.code f)
  | .queueLow _ _ m => BitVec.ofNat 32 m
  | .queueHigh _ _ m => BitVec.ofNat 32 m
  | .cornerLimp _ d => BitVec.ofNat 32 d.figure
  | .channelState _ _ _ c => BitVec.ofNat 32 c.figure
  | .valveFault _ _ _ n => BitVec.ofNat 32 n
  | .driverLine _ _ s => BitVec.ofNat 32 s.code
  | .thermal _ _ _ h _ => BitVec.ofNat 32 h
  | .tuned _ _ b => BitVec.ofNat 32 b.gain
  | .traceDone _ _ _ g => BitVec.ofNat 32 g
  | .parityP a _ _ => a.setWidth 32
  | .parityM a _ _ => a.setWidth 32
  | .setupOverrun _ _ k t => packWord [(0, 8, k.toNat), (8, 4, t.toNat)]
  | .badReadIndex _ v _ _ => v
  | .mapResult _ r => BitVec.ofNat 32 r.count
  | .recordRefused _ _ | .slotBusy _ _ | .cornerRun _ _ | .cornerIdle _ _ | .safeEnter _ _ | .safeExit _ => 0
  | .untunable _ _ | .restart => 0

/-- Detail C. -/
def Event.detailC : Event → Word
  | .cornerLimp _ d => BitVec.ofNat 32 d.fault
  | .thermal _ _ _ _ c => BitVec.ofNat 32 c
  | .tuned _ _ b => BitVec.ofInt 32 b.score
  | .badReadIndex _ _ r w => packWord [(0, 7, r.toNat), (16, 7, w.toNat)]
  | .recordRefused _ _ | .slotBusy _ _ | .urgentBusy _ _ _ | .queueLow _ _ _ | .queueHigh _ _ _ => 0
  | .cornerRun _ _ | .cornerIdle _ _ | .safeEnter _ _ | .safeExit _ | .channelState _ _ _ _ => 0
  | .valveFault _ _ _ _ | .driverLine _ _ _ | .untunable _ _ | .traceDone _ _ _ _ | .parityP _ _ _ => 0
  | .parityM _ _ _ | .setupOverrun _ _ _ _ | .mapResult _ _ | .restart => 0

/-- Word 0 of a ring entry, the polled word. -/
def JournalEntry.word0 (e : JournalEntry) : Word :=
  packWord [(0, 8, e.event.kind), (8, 8, e.sequence.toNat), (16, 8, e.lostBefore), (24, 8, e.event.subject)]

/-- Word 1 of a ring entry. -/
def JournalEntry.word1 (e : JournalEntry) : Word :=
  packWord [(0, 16, e.frame.toNat), (16, 16, e.event.detailA)]

/-! ## Traces (R119) -/

/-- A sample word of the Trace Area. -/
def TraceSample.word (t : TraceSample) : Word := packWord [(0, 12, t.measured), (16, 12, t.target)]

/-- The trace header. -/
def Trace.header (t : Trace) : Word :=
  packWord [(0, 2, codeOr0 TraceMark.code t.mark), (2, 3, t.valve.val), (5, 4, t.gain), (9, 7, t.samples.length),
    (16, 16, t.frame.toNat)]

/-! ## The Status Window (R148, 10.8) -/

/-- The drive firmness of a channel: the scheduled setpoint, the override, or the release blend (R40, R48, R50). -/
def Channel.drive (ch : Channel) : Nat :=
  match ch.phase with
  | .none => ch.setpoint
  | .override u => u
  | .release u l k _ => if k = 0 then u else blend u ch.setpoint k l

/-- The frame word. -/
def Part.frameStatus (p : Part) : Word :=
  packWord [(0, 16, p.timer.frame.toNat), (16, 1, bitOf p.timer.running), (20, 4, p.timer.period)]

/-- The line word. -/
def Part.lineStatus (p : Part) : Word :=
  packWord ([(0, 1, bitOf p.lines.safe)] ++ allValves.map (fun v => (8 + v.val, 1, bitOf (p.driverFault v))) ++
    [(16, 1, bitOf p.bridge.stickyP), (17, 1, bitOf p.bridge.stickyM)])

/-- The journal word. -/
def Part.journalStatus (p : Part) : Word :=
  packWord [(0, 7, p.journal.write.toNat), (8, 7, p.journal.read.toNat), (16, 8, p.journal.lost),
    (24, 1, bitOf p.journal.alarm.isSome)]

/-- The analyzer state and its valve; no valve is shown by a free value (log 20). -/
def Part.analyzerShown (p : Part) : Nat × Nat :=
  match p.analyzer.state with
  | .idle => (0, (Config.freeValve (2 * p.fresh)).toNat)
  | .searching h => (1, h.valve.val)
  | .capturing v => (2, v.val)
  | .writing => (3, (Config.freeValve (2 * p.fresh)).toNat)

/-- The valve of the trace in hand; without one, a free value (log 20). -/
def Part.traceValve (p : Part) : Nat :=
  match p.analyzer.hand with
  | some t => t.valve.val
  | none => (Config.freeValve (2 * p.fresh + 1)).toNat

/-- The trace state and its valve. -/
def Part.traceShown (p : Part) : Nat × Nat :=
  match p.analyzer.trace with
  | .idle => (0, (Config.freeValve (2 * p.fresh + 1)).toNat)
  | .armed v => (1, v.val)
  | .capturing => (2, p.traceValve)
  | .writing => (3, p.traceValve)

/-- The analyzer word. -/
def Part.analyzerStatus (p : Part) : Word :=
  packWord [(0, 2, p.analyzerShown.1), (2, 3, p.analyzerShown.2), (8, 2, p.traceShown.1), (10, 3, p.traceShown.2),
    (16, 4, p.analyzer.queue.length)]

/-- The Tune Queue word: position k in bits 4k to 4k + 3, head first, 15 beyond the length. -/
def Part.queueStatus (p : Part) : Word :=
  packWord ([0, 1, 2, 3, 4, 5, 6, 7].map fun k =>
    (4 * k, 4, match p.analyzer.queue[k]? with | some v => v.val | none => 15))

/-- The first word of a corner. -/
def Part.cornerStatus1 (p : Part) (c : CornerId) : Word :=
  let k := p.corner c
  packWord [(0, 2, k.state.code), (4, 3, k.limpCause.code), (8, 4, k.list.length), (12, 1, bitOf k.dryRun),
    (16, 8, k.silence)]

/-- The sequence field of a corner's second word; with no last taken sequence a free value (log 20). -/
def Part.sequenceShown (p : Part) (c : CornerId) : Nat :=
  match (p.corner c).lastTaken with
  | some s => s.toNat
  | none => (Config.freeSequence p.fresh).toNat

/-- The hold frames left, 0 when no hold is in force (R46). -/
def Corner.holdLeft (k : Corner) : Nat :=
  match k.hold with
  | some h => h.left
  | none => 0

/-- The second word of a corner. -/
def Part.cornerStatus2 (p : Part) (c : CornerId) : Word :=
  packWord [(0, 16, p.sequenceShown c), (16, 1, bitOf (p.corner c).lastTaken.isNone),
    (20, 2, (p.urgentSlot c).state.code), (24, 8, (p.corner c).holdLeft)]

/-- The tuned-gain field of a valve's word 0; with no tuned gain a free value (log 20). -/
def Part.gainShown (p : Part) (v : ValveId) : Nat :=
  match (p.channel v).tunedGain with
  | some g => g.val
  | none => (Config.freeGain p.fresh).toNat

/-- Word 0 of a valve. -/
def Part.valveStatus0 (p : Part) (v : ValveId) : Word :=
  let ch := p.channel v
  packWord [(0, 3, ch.state.name.code), (4, 3, codeOr0 FaultCause.code ch.state.faultCause), (8, 4, p.gainShown v),
    (12, 1, bitOf ch.tunedGain.isNone), (16, 11, ch.drive)]

/-- Word 1 of a valve. -/
def Part.valveStatus1 (p : Part) (v : ValveId) : Word :=
  packWord [(0, 12, (p.channel v).target), (16, 12, (p.channel v).measured)]

/-- Word 2 of a valve. -/
def Part.valveStatus2 (p : Part) (v : ValveId) : Word :=
  packWord [(0, 16, (p.channel v).heat.index), (16, 2, (p.channel v).heat.level.code)]

/-- The point count of the active map, 0 when it is absent (R74). -/
def MapEntry.activeCount (m : MapEntry) : Nat :=
  match m.active with
  | some l => l.length
  | none => 0

/-- Word 3 of a valve. -/
def Part.valveStatus3 (p : Part) (v : ValveId) : Word :=
  packWord [(0, 5, (p.map v).activeCount), (8, 2, (p.map v).state.code)]

/-- The word of the Status Window at a word number; words that the layout does not use read as 0. -/
def Part.statusWord (p : Part) (w : Fin 64) : Word :=
  if w.val = 0 then p.frameStatus
  else if w.val = 1 then p.lineStatus
  else if w.val = 2 then p.journalStatus
  else if w.val = 3 then p.analyzerStatus
  else if w.val = 4 then p.queueStatus
  else if w.val < 8 then 0
  else if w.val < 16 then
    let c : CornerId := ⟨(w.val - 8) / 2 % 4, Nat.mod_lt _ (by decide)⟩
    if w.val % 2 = 0 then p.cornerStatus1 c else p.cornerStatus2 c
  else if w.val < 48 then
    let v : ValveId := ⟨(w.val - 16) / 4 % 8, Nat.mod_lt _ (by decide)⟩
    if w.val % 4 = 0 then p.valveStatus0 v
    else if w.val % 4 = 1 then p.valveStatus1 v
    else if w.val % 4 = 2 then p.valveStatus2 v
    else p.valveStatus3 v
  else 0

end Sys2Proof.Machine
end

