-- ==== Sys2Proof/Machine/Engine.lean ====
section
/-! DEFINITION. The Write-Back Engine and the M-Port Arbiter: choosing an item, granting its words, and the publish
notices (chapter 10, R149 to R153; R16, R17, R54, R79, R119, R137, R157). -/

namespace Sys2Proof.Machine

/-! ## The words of an item (R15, R54, R151) -/

def DemandTake.words (i : SlotId) (t : DemandTake) : List EngineWord :=
  [{ offset := demandOffset i 5, source := .fixed (frameWord t.frame), notice := none },
    { offset := demandOffset i 4, source := .fixed (dispositionWord 1 0), notice := some (.demandTake i) }]

/-- Word 6 of a final. -/
def DemandFinal.frame : DemandFinal → Frame
  | .applied f _ _ => f
  | .superseded f => f
  | .flushed _ f => f
  | .refused _ f => f

/-- Word 7 of a final. -/
def DemandFinal.currents : DemandFinal → Word
  | .applied _ i j => currentsWord i j
  | .superseded _ => 0
  | .flushed _ _ => 0
  | .refused _ _ => 0

/-- Word 4 of a final: APPLIED and SUPERSEDED have neither reason nor cause, and show 0 there (log 35). -/
def DemandFinal.disposition : DemandFinal → Word
  | .applied _ _ _ => dispositionWord 2 0
  | .superseded _ => dispositionWord 3 0
  | .flushed c _ => dispositionWord 4 c.code
  | .refused r _ => dispositionWord 5 r.code

def DemandFinal.words (i : SlotId) (d : DemandFinal) : List EngineWord :=
  [{ offset := demandOffset i 6, source := .fixed (frameWord d.frame), notice := none },
    { offset := demandOffset i 7, source := .fixed d.currents, notice := none },
    { offset := demandOffset i 4, source := .fixed d.disposition, notice := some (.demandFinal i) }]

/-- What a demand slot owes, the take first (R16). -/
def DemandSlot.words (i : SlotId) (d : DemandSlot) : List EngineWord :=
  (match d.take with | some t => t.words i | none => []) ++ (match d.final with | some f => f.words i | none => [])

def UrgentTake.words (c : CornerId) (t : UrgentTake) : List EngineWord :=
  [{ offset := urgentOffset c 5, source := .fixed (frameWord t.frame), notice := none },
    { offset := urgentOffset c 7, source := .fixed (currentsWord t.compression t.rebound), notice := none },
    { offset := urgentOffset c 4, source := .fixed (dispositionWord 1 0), notice := some (.urgentTake c) }]

/-- An urgent final: word 6, word 7 for REFUSED, word 4, where ENDED and CANCELLED show 0 for the reason they do not have
(log 35). -/
def UrgentFinal.words (c : CornerId) : UrgentFinal → List EngineWord
  | .ended f =>
    [{ offset := urgentOffset c 6, source := .fixed (frameWord f), notice := none },
      { offset := urgentOffset c 4, source := .fixed (dispositionWord 6 0), notice := some (.urgentFinal c) }]
  | .cancelled f =>
    [{ offset := urgentOffset c 6, source := .fixed (frameWord f), notice := none },
      { offset := urgentOffset c 4, source := .fixed (dispositionWord 7 0), notice := some (.urgentFinal c) }]
  | .flushed cause f =>
    [{ offset := urgentOffset c 6, source := .fixed (frameWord f), notice := none },
      { offset := urgentOffset c 4, source := .fixed (dispositionWord 4 cause.code), notice := some (.urgentFinal c) }]
  | .refused r f =>
    [{ offset := urgentOffset c 6, source := .fixed (frameWord f), notice := none },
      { offset := urgentOffset c 7, source := .fixed 0, notice := none },
      { offset := urgentOffset c 4, source := .fixed (dispositionWord 5 r.code), notice := some (.urgentFinal c) }]

/-- What an urgent slot owes, the take first (R54). -/
def UrgentSlot.words (c : CornerId) (d : UrgentSlot) : List EngineWord :=
  (match d.take with | some t => t.words c | none => []) ++ (match d.final with | some f => f.words c | none => [])

/-- A map result: word 1, with the contents owed at the grant. -/
def mapWords (v : ValveId) : List EngineWord :=
  [{ offset := mapOffset v 1, source := .mapResult v, notice := some (.mapResult v) }]

/-- The setup reply. -/
def Reply.words (r : Reply) : List EngineWord :=
  [{ offset := setupOffset 1, source := .fixed r.word, notice := some .reply }]

/-- A journal entry at ring index W: words 1, 2, 3, then 0. -/
def JournalEntry.words (w : BitVec 7) (e : JournalEntry) : List EngineWord :=
  [{ offset := ringOffset w 1, source := .fixed e.word1, notice := none },
    { offset := ringOffset w 2, source := .fixed e.event.detailB, notice := none },
    { offset := ringOffset w 3, source := .fixed e.event.detailC, notice := none },
    { offset := ringOffset w 0, source := .fixed e.word0, notice := some .journal }]

/-- The sample words of a trace from sample k on. -/
def sampleWords : Nat → List TraceSample → List EngineWord
  | _, [] => []
  | k, t :: rest => { offset := sampleOffset k, source := .fixed t.word, notice := none } :: sampleWords (k + 1) rest

/-- A trace: its samples, then the header. -/
def Trace.words (t : Trace) : List EngineWord :=
  sampleWords 0 t.samples ++ [{ offset := traceHeaderOffset, source := .fixed t.header, notice := some .trace }]

/-! ## Choosing (R150) -/

/-- The item chosen and the engine without it; none when nothing that is owed is eligible. A journal head that waits
for ring room blocks the trace item (log 22). -/
def Part.chosen (p : Part) : Option (Item × Engine) :=
  let e := p.engine
  match e.urgent with
  | c :: rest => some ({ kind := .urgent c, words := (p.urgentSlot c).words c }, { e with urgent := rest })
  | [] =>
    match e.demand with
    | i :: rest => some ({ kind := .demand i, words := (p.demandSlot i).words i }, { e with demand := rest })
    | [] =>
      match e.map with
      | v :: rest => some ({ kind := .map v, words := mapWords v }, { e with map := rest })
      | [] =>
        if e.reply then
          some ({ kind := .reply, words := match p.setup.reply with | some r => r.words | none => [] },
            { e with reply := false })
        else
          match p.journal.staging with
          | entry :: _ =>
            if p.journal.unconsumed < 127 then some ({ kind := .journal, words := entry.words p.journal.write }, e)
            else none
          | [] =>
            if e.trace then
              some ({ kind := .trace, words := match p.analyzer.hand with | some t => t.words | none => [] },
                { e with trace := false })
            else none

/-- The words still to be written as the item in hand; no words, no item. -/
def handOf (kind : ItemKind) (words : List EngineWord) : Option Item :=
  if words.isEmpty then none else some { kind := kind, words := words }

/-- The engine chooses when it has no item in hand. -/
def Part.chooseItem (p : Part) : Part :=
  match p.engine.hand with
  | some _ => p
  | none =>
    match p.chosen with
    | some (it, e) => p.setEngine { e with hand := handOf it.kind it.words }
    | none => p

/-- ENGINE_ITEM_CHOICE (R150). -/
def execEngineItemChoice (s : State) : Host.Outcome State Fault Refusal :=
  .next { s with part := s.part.chooseItem }

/-! ## Publish notices -/

/-- A demand slot FREE (R17). -/
def DemandSlot.freed (d : DemandSlot) : DemandSlot :=
  { d with state := .free, staging := Vector.replicate 12 .clear, closing := none, final := none }

/-- An urgent slot FREE (R54). -/
def UrgentSlot.freed (d : UrgentSlot) : UrgentSlot :=
  { d with
    state := .free
    staging := Vector.replicate 12 .clear
    closing := none
    cancel := Vector.replicate 12 .clear
    final := none }

/-- The publication of the staged head (R157, R160): W advances, an alarm-class kind sets the mark. -/
def Journal.published (j : Journal) : Journal :=
  match j.staging with
  | [] => j
  | e :: rest =>
    Journal.driveAttn
      { j with
        staging := rest
        write := j.write + 1
        alarm := if e.event.isAlarm then some j.write else j.alarm }

/-- The decoder after its reply is published (R137). -/
def Setup.replied (d : Setup) : Setup :=
  { d with state := .free, inHand := none, judgements := [], outstanding := [], reply := none }

/-- The analyzer after its trace is published (R119). -/
def Analyzer.traceWritten (a : Analyzer) : Analyzer :=
  { a with trace := .idle, hand := none, state := if a.state = .writing then .idle else a.state }

/-- The publication of the trace header: TRACE DONE with the Frame Timer's frame (R119). -/
def Part.publishTrace (p : Part) : Part :=
  let p1 := p.setAnalyzer p.analyzer.traceWritten
  match p.analyzer.hand with
  | some t => p1.hand (.traceDone t.valve t.mark t.samples.length t.gain) p.timer.frame
  | none => p1

/-- A publish notice at its owner. -/
def Part.publish (p : Part) : Notice → Part
  | .demandTake i => p.setDemand i { p.demandSlot i with take := none }
  | .demandFinal i => p.setDemand i (p.demandSlot i).freed
  | .urgentTake c => p.setUrgent c { p.urgentSlot c with take := none }
  | .urgentFinal c => p.setUrgent c (p.urgentSlot c).freed
  | .mapResult v => p.setMap v { p.map v with result := none }
  | .reply => p.setSetup p.setup.replied
  | .journal => p.setJournal p.journal.published
  | .trace => p.publishTrace

/-- The publish notice of a word, if it is a polled word. -/
def Part.publishWord (p : Part) (w : EngineWord) : Part :=
  match w.notice with
  | some n => p.publish n
  | none => p

/-! ## Granting (R151, R153) -/

/-- The contents of a word at its grant. -/
def Part.wordData (p : Part) (w : EngineWord) : Word :=
  match w.source with
  | .fixed d => d
  | .mapResult v =>
    match (p.map v).result with
    | some r => r.word
    | none => 0

/-- A word of the part as a full write with good parity (R147). -/
def Part.partBeat (p : Part) (data : Word) : Beat :=
  { lanes := 15, data := data, parity := goodParity p.bridge.psense data }

/-- The engine's word granted and written: the wait count returns to 0, and a polled word publishes. -/
def State.grantWord (s : State) (it : Item) (w : EngineWord) (rest : List EngineWord) : State :=
  { s with
    mem := s.mem.writeBeat (byteAddress (s.part.bridge.wordAddress w.offset)) (s.part.partBeat (s.part.wordData w))
    part :=
      ((s.part.setEngine { s.part.engine with hand := handOf it.kind rest }).setWaitCount 0).publishWord w }

/-- The engine's next word written, if it has one (R153). -/
def State.engineWord (s : State) : State :=
  match s.part.engine.hand with
  | some it =>
    match it.words with
    | w :: rest => s.grantWord it w rest
    | [] => s
  | none => s

/-- ENGINE_WORD_WRITE (R153): with no word in hand, nothing happens (log 2). -/
def execEngineWordWrite (s : State) : Host.Outcome State Fault Refusal := .next s.engineWord

/-- The engine's word granted before a held access, and the next item chosen when that word was its item's last, so that
the next item's word is presented with the access (R150, R153; log 16). -/
def State.forcedWord (s : State) : State :=
  let t := s.engineWord
  { t with part := t.part.chooseItem }

/-- The grant of a forwarded processor access (R153): at a wait count of 8 the engine's word comes first (log 16); an
engine word that still waits raises the count. -/
def State.grantAccess (s : State) : State :=
  let s1 := if s.part.engine.hand.isSome ∧ 8 ≤ s.part.waitCount then s.forcedWord else s
  if s1.part.engine.hand.isSome then { s1 with part := s1.part.setWaitCount (s1.part.waitCount + 1) } else s1

end Sys2Proof.Machine
end

