-- ==== Sys2Proof/Machine/Channels.lean ====
section
/-! DEFINITION. Valve Channels: the map read, the target current and settle supervision, ramp requests and steps, the
urgent phase, leaving a channel state, and the frame boundary at a channel (chapters 2, 3, 5, 6). -/

namespace Sys2Proof.Machine

/-! ## The active map (R80, R81) -/

/-- The current between two neighbouring points, rounded to the nearest mA, halves up. -/
def segmentCurrent (a b : MapPoint) (f : Nat) : Nat :=
  (2 * (a.current * (b.firmness - f) + b.current * (f - a.firmness)) + (b.firmness - a.firmness)) /
    (2 * (b.firmness - a.firmness))

/-- The current a map gives for a firmness. -/
def interpolate : List MapPoint → Nat → Nat
  | [], _ => 0
  | [a], _ => a.current
  | a :: b :: rest, f =>
    if f ≤ a.firmness then a.current
    else if f < b.firmness then segmentCurrent a b f
    else interpolate (b :: rest) f

/-- The lesser of the active map at a firmness and the ceiling in force; 0 with no active map (R31, R46, R94). -/
def Part.currentAt (p : Part) (v : ValveId) (f : Nat) : Nat :=
  match (p.map v).active with
  | some pts => min (interpolate pts f) (p.channel v).heat.ceiling
  | none => 0

/-! ## The target current (R94, R96, R117) -/

/-- The settle timer started: its expiry one settle timeout ahead, its in-band count 0. A millisecond is 20 samples. -/
def Channel.startSettle (ch : Channel) : SettleRun := { left := 20 * ch.settleTimeout, inBand := 0 }

/-- Whether some channel in the Tune Queue can be taken: it is not HOT (R109). -/
def Part.takeable (p : Part) : Bool := p.analyzer.queue.any fun w => (p.channel w).heat.level != .hot

/-- R117: a qualifying replacement at an armed valve in TRACK starts a track capture when the analyzer is IDLE, and is
not due to take a channel from its queue (log 12). It starts the sample buffer afresh (log 34). -/
def Part.trackTrigger (p : Part) (v : ValveId) : Part :=
  if p.analyzer.trace = .armed v ∧ p.analyzer.state = .idle ∧ p.takeable = false then
    p.setAnalyzer
      { p.analyzer with
        state := .capturing v
        buffer := []
        trace := .capturing
        hand := some
          { valve := v
            gain := match (p.channel v).tunedGain with | some g => g.val | none => 0
            frame := (p.channel v).frame
            samples := []
            mark := none } }
  else p

/-- The target of a channel in TRACK replaced by another value: a qualifying change starts or restarts the settle
timer (R96) and may trigger a track capture (R117). -/
def Part.replaceTarget (p : Part) (v : ValveId) (b : Nat) : Part :=
  let ch := p.channel v
  if qualifies ch.target b then
    (p.setChannel v { ch with target := b, settle := some ch.startSettle }).trackTrigger v
  else p.setChannel v { ch with target := b }

/-- The target recomputed at an event that may change it (R94): only a channel in TRACK does so, and a value already
held leaves it as it was. -/
def Part.recompute (p : Part) (v : ValveId) : Part :=
  let ch := p.channel v
  if ch.state = .track ∧ p.currentAt v ch.drive ≠ ch.target then p.replaceTarget v (p.currentAt v ch.drive) else p

/-- What the coil output does (R87): not driven, or regulated to a current at a gain index. -/
def Part.coilOutput (p : Part) (v : ValveId) : Option (Nat × Nat) :=
  let ch := p.channel v
  match ch.state with
  | .off => none
  | .fault _ => none
  | .tune .waiting => none
  | .prepare _ => some (ch.target, match ch.tunedGain with | some g => g.val | none => 0)
  | .tune .searching =>
    some (ch.target, match p.analyzer.state with | .searching h => h.gain | .idle | .capturing _ | .writing => 0)
  | .track => some (ch.target, match ch.tunedGain with | some g => g.val | none => 0)

/-! ## Leaving a channel state (R98, R100, R114, R118) -/

/-- R118: the trace in hand is marked ABORTED, becomes WRITING, and its item is owed (R119). -/
def Part.abortTrace (p : Part) : Part :=
  (p.setAnalyzer
    { p.analyzer with
      trace := .writing
      hand := p.analyzer.hand.map fun t => { t with mark := some .aborted } }).offerTrace

/-- R114: the search in hand is discarded, the sample buffer emptied, the analyzer IDLE, and a trial capture is
aborted. -/
def Part.abortSearch (p : Part) : Part :=
  let p1 := p.setAnalyzer { p.analyzer with state := .idle, buffer := [] }
  if p.analyzer.trace = .capturing then p1.abortTrace else p1

/-- Whether the search in hand is that of a valve. -/
def AnalyzerState.searchesFor (v : ValveId) : AnalyzerState → Bool
  | .searching h => h.valve == v
  | .idle => false
  | .capturing _ => false
  | .writing => false

/-- What stands in hand for a valve when it leaves its channel state: its place in the Tune Queue, its search, its
capture (R108, R114, R118). -/
def Part.abortFor (p : Part) (v : ValveId) : Part :=
  match (p.channel v).state with
  | .tune .waiting => p.setAnalyzer { p.analyzer with queue := p.analyzer.queue.filter (· ≠ v) }
  | .tune .searching => if p.analyzer.state.searchesFor v then p.abortSearch else p
  | .track =>
    if p.analyzer.state = .capturing v then
      (p.setAnalyzer { p.analyzer with state := .writing }).abortTrace
    else p
  | .off => p
  | .prepare _ => p
  | .fault _ => p

/-- A channel leaves its state for OFF or FAULT: what it had in hand is aborted, its target becomes 0, its settle
timer stops, its miss count becomes 0, and its corner evaluates its readiness (R98, R100, R102, R105). -/
def Part.stopChannel (p : Part) (v : ValveId) (entered : ChannelState) : Part :=
  let p1 := p.abortFor v
  (p1.setChannel v { p1.channel v with state := entered, target := 0, settle := none, misses := 0 }).evalReady (cornerOf v)

/-- Entry to TRACK (R95): the target from R94, the miss count 0, the settle timer started, readiness evaluated. -/
def Part.enterTrack (p : Part) (v : ValveId) : Part :=
  let ch := p.channel v
  (p.setChannel v
    { ch with
      state := .track
      target := p.currentAt v ch.drive
      misses := 0
      settle := some ch.startSettle }).evalReady (cornerOf v)

/-! ## Ramp requests (R36, R37, R39) -/

/-- A ramp for the frame after the one of `s`, with its first step taken (R36, R38): at length 1 it is over at once. -/
def Channel.startRamp (ch : Channel) (s t r : Nat) : Channel :=
  { ch with
    setpoint := blend s t 1 r
    ramp := if r ≤ 1 then none else some { start := s, target := t, length := r, count := 1 } }

/-- A step (R39): the setpoint is the target at once, any ramp and waiting request are discarded. -/
def Channel.step (ch : Channel) (t : Nat) : Channel :=
  { ch with setpoint := t, ramp := none, waiting := none }

/-- What a request that reaches a channel does to it: a step; kept as the waiting request when it is for a later
frame; else a ramp from the previous-frame setpoint (R37, R39). A request for a frame that the channel has passed is taken
as one for its current frame (log 31). -/
def Channel.receive (ch : Channel) (running : Bool) (r : RampRequest) : Channel :=
  if running = false ∨ r.length = 0 then ch.step r.target
  else if isPast r.frame ch.frame then ch.startRamp ch.previous r.target r.length
  else { ch with waiting := some { target := r.target, length := r.length } }

/-- A ramp request reaches a valve; a change of drive firmness recomputes the target (R37, R94). -/
def Part.receiveRamp (p : Part) (v : ValveId) (r : RampRequest) : Part :=
  (p.setChannel v ((p.channel v).receive p.timer.running r)).recompute v

/-- A corner sends a valve a ramp request: on its way while the Frame Timer is RUNNING, a step at once while it is
STOPPED (R36, R39, R61; log 7, log 8). -/
def Part.sendRamp (p : Part) (v : ValveId) (r : RampRequest) : Part :=
  if p.timer.running then
    p.setChannel v { p.channel v with requests := (p.channel v).requests ++ [r] }
  else p.receiveRamp v r

/-- The limp ramp request of a corner to each of its valves, for the named frame (R61). -/
def Part.sendLimpRamp (p : Part) (c : CornerId) (f : Frame) : Part :=
  let k := p.corner c
  let r : RampRequest := { target := k.limpFirmness, length := k.limpRamp, frame := f }
  (p.sendRamp (compressionValve c) r).sendRamp (reboundValve c) r

/-! ## The urgent phase (R48, R50, R53) -/

/-- An override start (R48): it stands whatever phase it replaces; an end sent before it does not outlive it (log 9). -/
def Part.overrideStart (p : Part) (v : ValveId) (u : Nat) : Part :=
  (p.setChannel v { p.channel v with phase := .override u, ends := [] }).recompute v

/-- An override drop (R53). -/
def Part.overrideDrop (p : Part) (v : ValveId) : Part :=
  (p.setChannel v { p.channel v with phase := .none, ends := [] }).recompute v

/-- A corner sends a valve an override end (R50). -/
def Part.sendOverrideEnd (p : Part) (v : ValveId) (e : OverrideEnd) : Part :=
  p.setChannel v { p.channel v with ends := (p.channel v).ends ++ [e] }

/-- The phase that an override end turns an override into (R50): k is 0 while the named frame is ahead, and 1 at once
when the valve has taken its boundary; a release of length 0 is over at that boundary. An end for a frame that the valve has
passed is taken as one for its current frame (log 31). -/
def Channel.receiveEnd (ch : Channel) (e : OverrideEnd) : Channel :=
  match ch.phase with
  | .override u =>
    if isPast e.frame ch.frame then
      { ch with phase := if e.release ≤ 1 then .none else .release u e.release 1 e.frame }
    else { ch with phase := .release u e.release 0 e.frame }
  | .none => ch
  | .release _ _ _ _ => ch

/-- An override end reaches a valve; a change of drive firmness recomputes the target. -/
def Part.receiveOverrideEnd (p : Part) (v : ValveId) (e : OverrideEnd) : Part :=
  (p.setChannel v ((p.channel v).receiveEnd e)).recompute v

/-! ## The boundary at a channel (R38, R50) -/

/-- The setpoint, ramp and waiting request for the next frame (R38). -/
def Channel.rampStep (ch : Channel) : Channel :=
  match ch.waiting with
  | some w => { (ch.startRamp ch.setpoint w.target w.length) with previous := ch.setpoint, waiting := none }
  | none =>
    match ch.ramp with
    | some r =>
      { ch with
        previous := ch.setpoint
        setpoint := blend r.start r.target (r.count + 1) r.length
        ramp := if r.length ≤ r.count + 1 then none else some { r with count := r.count + 1 } }
    | none => { ch with previous := ch.setpoint }

/-- The phase for the frame `n` that the boundary starts (R50): the first step at the named frame, one more at each
later boundary, over at the last. -/
def Phase.advance (n : Frame) : Phase → Phase
  | .none => .none
  | .override u => .override u
  | .release u l k first =>
    if k = 0 then
      (if isPast first n then (if l ≤ 1 then .none else .release u l 1 first) else .release u l 0 first)
    else if l ≤ k + 1 then .none
    else .release u l (k + 1) first

/-- A channel's firmness state for the next frame. -/
def Channel.nextFrame (ch : Channel) : Channel :=
  { ch.rampStep with frame := ch.frame + 1, phase := ch.phase.advance (ch.frame + 1) }

/-- The requests and override ends for the frame that is current at a valve, or for a past one, have reached it before
its next boundary (R37, R50; log 7): those that still wait, the requests first and then the ends (log 32).
One that stands behind one for a later frame stays on its way with it (log 36). -/
def Part.arrivals (p : Part) (v : ValveId) : Part :=
  let ch := p.channel v
  let rs := ch.requests.takeWhile fun r => isPast r.frame ch.frame
  let es := ch.ends.takeWhile fun e => isPast e.frame ch.frame
  let p1 := p.setChannel v
    { ch with
      requests := ch.requests.dropWhile fun r => isPast r.frame ch.frame
      ends := ch.ends.dropWhile fun e => isPast e.frame ch.frame }
  es.foldl (fun q e => q.receiveOverrideEnd v e) (rs.foldl (fun q r => q.receiveRamp v r) p1)

/-- A channel has a boundary to take while it is not at the Frame Timer's frame (R23), however many are outstanding; with
65536 of them the two frames are equal again, and it has none (log 30). -/
def Part.channelDue (p : Part) (v : ValveId) : Bool := p.timer.running && (p.channel v).frame != p.timer.frame

/-- A Valve Channel takes its next boundary (R38, R50, R94). -/
def Part.channelBoundary (p : Part) (v : ValveId) : Part :=
  let p1 := p.arrivals v
  (p1.setChannel v (p1.channel v).nextFrame).recompute v

/-- Whether a channel's scheduled ramp ends at its next boundary. -/
def Channel.rampEnds (ch : Channel) : Bool :=
  match ch.waiting with
  | some w => decide (w.length ≤ 1)
  | none =>
    match ch.ramp with
    | some r => decide (r.length ≤ r.count + 1)
    | none => false

/-- Whether a channel's release ramp ends at its next boundary. -/
def Channel.releaseEnds (ch : Channel) : Bool :=
  match ch.phase with
  | .release _ _ _ _ => ch.phase.advance (ch.frame + 1) == .none
  | .none => false
  | .override _ => false

/-! ## The commands of the family -/

/-- CHANNEL_FRAME_BOUNDARY (R38): without a boundary to take, nothing happens (log 2). -/
def execChannelFrameBoundary (v : ValveId) (s : State) : Host.Outcome State Fault Refusal :=
  .next { s with part := if s.part.channelDue v then s.part.channelBoundary v else s.part }

/-- SETPOINT_RAMP_END (R38): the boundary at which a scheduled ramp ends (log 3). -/
def execSetpointRampEnd (v : ValveId) (s : State) : Host.Outcome State Fault Refusal :=
  .next { s with
    part :=
      if s.part.channelDue v && ((s.part.arrivals v).channel v).rampEnds then s.part.channelBoundary v else s.part }

/-- RELEASE_END (R50): the boundary at which a release ramp ends (log 3). -/
def execReleaseEnd (v : ValveId) (s : State) : Host.Outcome State Fault Refusal :=
  .next { s with
    part :=
      if s.part.channelDue v && ((s.part.arrivals v).channel v).releaseEnds then s.part.channelBoundary v else s.part }

/-- A request more than one frame ahead of the valve has not reached it yet (R35, R36; log 7). -/
def Channel.canReceive (ch : Channel) (r : RampRequest) : Bool :=
  isPast r.frame ch.frame || ahead r.frame ch.frame == 1

/-- The oldest ramp request on its way to a valve reaches it. -/
def Part.nextRampRequest (p : Part) (v : ValveId) : Part :=
  match (p.channel v).requests with
  | r :: rest =>
    if (p.channel v).canReceive r then
      (p.setChannel v { p.channel v with requests := rest }).receiveRamp v r
    else p
  | [] => p

/-- RAMP_REQUEST (R36). -/
def execRampRequest (v : ValveId) (s : State) : Host.Outcome State Fault Refusal :=
  .next { s with part := s.part.nextRampRequest v }

/-- The oldest override end on its way to a valve reaches it. -/
def Part.nextOverrideEnd (p : Part) (v : ValveId) : Part :=
  match (p.channel v).ends with
  | e :: rest => (p.setChannel v { p.channel v with ends := rest }).receiveOverrideEnd v e
  | [] => p

/-- OVERRIDE_END (R50). -/
def execOverrideEnd (v : ValveId) (s : State) : Host.Outcome State Fault Refusal :=
  .next { s with part := s.part.nextOverrideEnd v }

end Sys2Proof.Machine
end

