-- ==== Sys2Proof/Machine/Corners.lean ====
section
/-! DEFINITION. Corner Controllers and the Frame Timer: retire notices and flushes, entry to and exit from the corner
states, and the frame boundary at a corner (chapters 2, 3, 4). -/

namespace Sys2Proof.Machine

/-! ## Retire notices and flushes (R14, R28, R53, R60) -/

/-- A retire notice (R14): the slot becomes RETIRING with its final owed, and is offered to the engine (R16). -/
def Part.retire (p : Part) (i : SlotId) (d : DemandFinal) : Part :=
  (p.setDemand i { p.demandSlot i with state := .retiring, final := some d }).offerDemand i

/-- Every entry of a list retired FLUSHED, in list order, at the corner's frame (R28). -/
def Part.retireAll (p : Part) (cause : FlushCause) (f : Frame) (l : List Entry) : Part :=
  l.foldl (fun q e => q.retire e.slot (.flushed cause f)) p

/-- A flush of the Pending List (R28). -/
def Part.flushList (p : Part) (c : CornerId) (cause : FlushCause) : Part :=
  let k := p.corner c
  (p.setCorner c { k with list := [] }).retireAll cause k.frame k.list

/-- A hold ends: the corner discards it and the urgent slot becomes OWED with a final owed; the cancel staging is
discarded (R44, R49, R51, R53, R54). -/
def Part.endHold (p : Part) (c : CornerId) (d : UrgentFinal) : Part :=
  ((p.setCorner c { p.corner c with hold := none }).setUrgent c
    { p.urgentSlot c with
      state := .owed
      final := some d
      cancel := Vector.replicate 12 .clear }).offerUrgent c

/-- A flush of the hold in force, if there is one (R53). -/
def Part.flushHold (p : Part) (c : CornerId) (cause : FlushCause) : Part :=
  match (p.corner c).hold with
  | some _ => p.endHold c (.flushed cause (p.corner c).frame)
  | none => p

/-- What entry to IDLE, LIMP or SAFE does to the corner's work (R60): list and hold flushed, both overrides dropped. -/
def Part.leaveRun (p : Part) (c : CornerId) (cause : FlushCause) : Part :=
  (((p.flushList c cause).flushHold c cause).overrideDrop (compressionValve c)).overrideDrop (reboundValve c)

/-! ## Entry to the corner states -/

/-- The corner state and limp cause set. -/
def Part.setCornerState (p : Part) (c : CornerId) (st : CornerState) (cause : LimpCause) : Part :=
  p.setCorner c { p.corner c with state := st, limpCause := cause }

/-- A partner notice sent (R66): for a cause other than PARTNER, with axle pairing on. -/
def Part.sendPartnerNotice (p : Part) (c : CornerId) (f : Frame) (d : LimpDetail) : Part :=
  if p.pairing = true ∧ d.cause ≠ .partner then
    p.setCorner (partnerOf c)
      { p.corner (partnerOf c) with notices := (p.corner (partnerOf c)).notices ++ [{ sender := c, frame := f }] }
  else p

/-- Entry to LIMP (R60, R61, R64, R65, R66): flush and drops, the limp ramp for the named frame, the CORNER LIMP event,
the partner notice, readiness. -/
def Part.enterLimp (p : Part) (c : CornerId) (d : LimpDetail) (f : Frame) : Part :=
  let p1 := ((p.leaveRun c .limp).setCornerState c .limp d.cause).sendLimpRamp c f
  ((p1.hand (.cornerLimp c d) (p1.corner c).frame).sendPartnerNotice c f d).evalReady c

/-- Entry to IDLE by IDLE CORNERS (R59). -/
def Part.enterIdle (p : Part) (c : CornerId) : Part :=
  let left := (p.corner c).state
  let p1 := ((p.leaveRun c .idle).setCornerState c .idle .none).sendLimpRamp c (p.nextFrame c)
  (p1.hand (.cornerIdle c left) (p1.corner c).frame).evalReady c

/-- Entry to RUN (R58). -/
def Part.enterRun (p : Part) (c : CornerId) : Part :=
  let k := p.corner c
  ((p.setCorner c { k with state := .run, silence := 0, lastTaken := none, limpCause := .none }).hand
    (.cornerRun c k.state) k.frame).evalReady c

/-- Entry to SAFE on assertion (R68). -/
def Part.enterSafe (p : Part) (c : CornerId) : Part :=
  let left := (p.corner c).state
  let p1 := (p.leaveRun c .safe).setCornerState c .safe .none
  (p1.hand (.safeEnter c left) (p1.corner c).frame).evalReady c

/-- Entry to IDLE on release, for a corner in SAFE (R69). -/
def Part.exitSafe (p : Part) (c : CornerId) : Part :=
  if (p.corner c).state = .safe then
    let p1 := (p.setCornerState c .idle .none).sendLimpRamp c (p.nextFrame c)
    (p1.hand (.safeExit c) (p1.corner c).frame).evalReady c
  else p

/-- A fault or lost notice at a corner (R65): only a corner in RUN moves. -/
def Part.limpNotice (p : Part) (c : CornerId) (d : LimpDetail) : Part :=
  if (p.corner c).state = .run then p.enterLimp c d (p.nextFrame c) else p

/-! ## The boundary at a corner (R29 to R34, R49, R64) -/

/-- The two currents of an APPLIED notice (R31): 0 for a side that is not selected. -/
def Part.appliedCompression (p : Part) (c : CornerId) (sel : ValveSelect) (f : Nat) : Nat :=
  if sel.hasCompression then p.currentAt (compressionValve c) f else 0

def Part.appliedRebound (p : Part) (c : CornerId) (sel : ValveSelect) (f : Nat) : Nat :=
  if sel.hasRebound then p.currentAt (reboundValve c) f else 0

/-- The ramp requests of an applied entry (R30): one to each valve it selects, a length of 0 taken as 1. -/
def Part.sendApplication (p : Part) (c : CornerId) (e : Entry) (n : Frame) : Part :=
  let p1 :=
    if e.select.hasCompression then
      p.sendRamp (compressionValve c) { target := e.compression, length := max 1 e.ramp, frame := n }
    else p
  if e.select.hasRebound then
    p1.sendRamp (reboundValve c) { target := e.rebound, length := max 1 e.ramp, frame := n }
  else p1

/-- An entry applied at frame n (R14, R30, R31). -/
def Part.applyEntry (p : Part) (c : CornerId) (e : Entry) (n : Frame) : Part :=
  (p.retire e.slot
    (.applied n (p.appliedCompression c e.select e.compression) (p.appliedRebound c e.select e.rebound))).sendApplication
    c e n

/-- The due entries in list order (R29): the one taken last, which stands last, is applied; the others are
superseded. -/
def Part.handleDue (p : Part) (c : CornerId) (n : Frame) : List Entry → Part
  | [] => p
  | [e] => p.applyEntry c e n
  | e :: e' :: rest => (p.retire e.slot (.superseded n)).handleDue c n (e' :: rest)

/-- The QUEUE LOW event of a boundary that removed entries (R33). -/
def Part.queueLow (p : Part) (c : CornerId) (n : Frame) (before after : Nat) : Part :=
  let k := p.corner c
  if after < before ∧ after ≤ k.lowMark ∧ k.lowMark < before then p.hand (.queueLow c after k.lowMark) n else p

/-- The removal of the entries due at frame n, in RUN (R29, R33). -/
def Part.removeDue (p : Part) (c : CornerId) (n : Frame) : Part :=
  let k := p.corner c
  let due := k.list.filter fun e => e.target = n
  let rest := k.list.filter fun e => e.target ≠ n
  ((p.setCorner c { k with list := rest }).handleDue c n due).queueLow c n k.list.length rest.length

/-- The valves a hold selected receive an override end (R49, R51). -/
def Part.sendEnds (p : Part) (c : CornerId) (sel : ValveSelect) (e : OverrideEnd) : Part :=
  let p1 := if sel.hasCompression then p.sendOverrideEnd (compressionValve c) e else p
  if sel.hasRebound then p1.sendOverrideEnd (reboundValve c) e else p1

/-- The hold counted down at the boundary of frame n (R49). -/
def Part.countHold (p : Part) (c : CornerId) (n : Frame) : Part :=
  match (p.corner c).hold with
  | some h =>
    if h.left ≤ 1 then (p.endHold c (.ended n)).sendEnds c h.select { release := h.release, frame := n }
    else p.setCorner c { p.corner c with hold := some { h with left := h.left - 1 } }
  | none => p

/-- A corner has a boundary to take while it is not at the Frame Timer's frame (R23), however many are outstanding and
however far its valves are ahead of it; with 65536 of them the two frames are equal again, and it has none (log 30). -/
def Part.cornerDue (p : Part) (c : CornerId) : Bool := p.timer.running && (p.corner c).frame != p.timer.frame

/-- Whether the silence count reaches the limit at the corner's next boundary (R64). -/
def Corner.silenceExpires (k : Corner) : Bool := k.state == .run && decide (k.silenceLimit ≤ k.silence + 1)

/-- Whether the hold ends at the corner's next boundary (R49). -/
def Corner.holdExpires (k : Corner) : Bool :=
  k.state == .run && !k.silenceExpires &&
    match k.hold with
    | some h => decide (h.left ≤ 1)
    | none => false

/-- A Corner Controller takes its next boundary (R29): in RUN the silence count first, then LIMP at the limit, else the
due entries and then the hold; in the other states the frame alone moves. A partner notice on its way does not hold the
boundary up: it stays on its way through any number of boundaries until it is taken (log 29). -/
def Part.cornerBoundary (p : Part) (c : CornerId) : Part :=
  let k := p.corner c
  let n := k.frame + 1
  if k.state = .run then
    let p1 := p.setCorner c { k with frame := n, silence := k.silence + 1 }
    if k.silenceLimit ≤ k.silence + 1 then p1.enterLimp c (.silence (k.silence + 1)) n
    else (p1.removeDue c n).countHold c n
  else p.setCorner c { k with frame := n }

/-! ## The commands of the family -/

/-- FRAME_BOUNDARY (R22): at a STOPPED timer there is none. -/
def execFrameBoundary (s : State) : Host.Outcome State Fault Refusal :=
  .next { s with
    part :=
      if s.part.timer.running then
        s.part.setTimer { s.part.timer with frame := s.part.timer.frame + 1 }
      else s.part }

/-- CORNER_FRAME_BOUNDARY (R29): without a boundary to take, nothing happens (log 2). -/
def execCornerFrameBoundary (c : CornerId) (s : State) : Host.Outcome State Fault Refusal :=
  .next { s with part := if s.part.cornerDue c then s.part.cornerBoundary c else s.part }

/-- SILENCE_EXPIRY (R64): the boundary at which the silence count reaches the limit (log 3). -/
def execSilenceExpiry (c : CornerId) (s : State) : Host.Outcome State Fault Refusal :=
  .next { s with
    part :=
      if s.part.cornerDue c && (s.part.corner c).silenceExpires then s.part.cornerBoundary c else s.part }

/-- HOLD_EXPIRY (R49): the boundary at which the hold frames left reach 0 (log 3). -/
def execHoldExpiry (c : CornerId) (s : State) : Host.Outcome State Fault Refusal :=
  .next { s with
    part := if s.part.cornerDue c && (s.part.corner c).holdExpires then s.part.cornerBoundary c else s.part }

/-- The oldest partner notice on its way to a corner reaches it (R66): with the effect that the rule gives whatever frame
the corner has come to by then (log 29). -/
def Part.takePartnerNotice (p : Part) (c : CornerId) : Part :=
  match (p.corner c).notices with
  | n :: rest =>
    let p1 := p.setCorner c { p.corner c with notices := rest }
    if (p1.corner c).state = .run then p1.enterLimp c (.partner n.sender) n.frame else p1
  | [] => p

/-- PARTNER_NOTICE (R66). -/
def execPartnerNotice (c : CornerId) (s : State) : Host.Outcome State Fault Refusal :=
  .next { s with part := s.part.takePartnerNotice c }

end Sys2Proof.Machine
end

