-- ==== Sys2Proof/Machine/Loop.lean ====
section
/-! DEFINITION. The current loop: coil samples, the prepare test, settle supervision, entry to FAULT, the driver fault
lines and the Heat Monitors (chapters 6, 8). The gain search's share of a sample is in Analyzer.lean. -/

namespace Sys2Proof.Machine

/-! ## Entry to FAULT (R102, R104, R105) -/

/-- Entry to FAULT: the channel stops, with its leaving-TRACK notice; the VALVE FAULT event; the fault notice. -/
def Part.enterFault (p : Part) (v : ValveId) (cause : FaultCause) (figure : Nat) : Part :=
  let left := (p.channel v).state.name
  let p1 := p.stopChannel v (.fault cause)
  (p1.hand (.valveFault v cause left figure) (p1.channel v).frame).limpNotice (cornerOf v) (.valveFault v cause)

/-- A change of channel state other than entry to FAULT, journaled (R104). -/
def Part.handChange (p : Part) (v : ValveId) (left : ChannelName) (cause : ChangeCause) : Part :=
  p.hand (.channelState v left (p.channel v).state.name cause) (p.channel v).frame

/-! ## The prepare test (R89, R90) -/

/-- A coil resistance in hundredths of an ohm, rounded down, 65534 at most; a mean current of 0 gives 65534. -/
def resistance (current voltage : Nat) : Nat :=
  if current = 0 then 65534 else min 65534 (100 * voltage / current)

/-- Below 1.5 Ω. -/
def tooLow (current voltage : Nat) : Bool := decide (2 * voltage < 3 * current)

/-- Above 9.0 Ω, or a mean current of 0. -/
def tooHigh (current voltage : Nat) : Bool := current == 0 || decide (9 * current < voltage)

/-- A sample within 230 to 270 mA. -/
def inTestBand (x : Sample) : Bool := inBand x.current.toNat 250

/-- The in-band count after a sample. -/
def countInBand (n : Nat) (good : Bool) : Nat := if good then n + 1 else 0

/-- The prepare progress set. -/
def Part.setPrepare (p : Part) (v : ValveId) (q : Prepare) : Part :=
  p.setChannel v { p.channel v with state := .prepare q }

/-- A sample while the reach is looked for: judged up to the sample of 5 ms, the hundredth (log 5). -/
def Prepare.reach (q : Prepare) (n : Nat) (x : Sample) : Prepare :=
  { elapsed := q.elapsed + 1
    stage :=
      if q.elapsed < 100 then
        (if 4 ≤ countInBand n (inTestBand x) then .measuring 0 0 0 else .reaching (countInBand n (inTestBand x)))
      else .reaching n }

/-- The end of the resistance measurement: SHORT, OPEN or passed. -/
def Part.endMeasurement (p : Part) (v : ValveId) (elapsed current voltage : Nat) : Part :=
  if tooHigh current voltage then p.enterFault v .openCircuit (resistance current voltage)
  else if tooLow current voltage then p.enterFault v .shortCircuit (resistance current voltage)
  else p.setPrepare v { elapsed := elapsed, stage := .passed (resistance current voltage) }

/-- A sample in PREPARE. -/
def Part.prepareSample (p : Part) (v : ValveId) (q : Prepare) (x : Sample) : Part :=
  match q.stage with
  | .reaching n => p.setPrepare v (q.reach n x)
  | .measuring k i u =>
    if k + 1 < 100 then
      p.setPrepare v
        { elapsed := q.elapsed + 1, stage := .measuring (k + 1) (i + x.current.toNat) (u + x.voltage.toNat) }
    else p.endMeasurement v (q.elapsed + 1) (i + x.current.toNat) (u + x.voltage.toNat)
  | .passed r => p.setPrepare v { elapsed := q.elapsed + 1, stage := .passed r }

/-! ## Settle supervision (R97) -/

/-- A sample while the settle timer runs: judged up to the sample at the expiry; success at the fourth in band. -/
def Channel.settleSample (ch : Channel) (x : Sample) : Channel :=
  match ch.settle with
  | none => ch
  | some t =>
    if t.left = 0 then ch
    else
      let n := countInBand t.inBand (inBand x.current.toNat ch.target)
      if 4 ≤ n then { ch with settle := none, misses := 0 }
      else { ch with settle := some { left := t.left - 1, inBand := n } }

/-- The expiry of a settle run: a miss, and at the third FAULT with cause SETTLE. -/
def Part.settleMiss (p : Part) (v : ValveId) : Part :=
  let ch := p.channel v
  let p1 := p.setChannel v { ch with settle := none, misses := ch.misses + 1 }
  if 3 ≤ ch.misses + 1 then p1.enterFault v .settle ch.target else p1

/-! ## The look at the queue (R109, R110) -/

/-- A look from the head: the entries that are HOT and stand before the first that is not go to the tail, and that one
is taken; none when every entry is HOT. -/
def lookAt (hot : ValveId → Bool) : List ValveId → List ValveId → Option (ValveId × List ValveId)
  | _, [] => none
  | passed, v :: rest => if hot v then lookAt hot (passed ++ [v]) rest else some (v, rest ++ passed)

/-- A channel taken by the analyzer: it is SEARCHING, at 200 mA, with the pre-drive of trial 0 and the sample buffer
empty (log 34). -/
def Part.startSearch (p : Part) (v : ValveId) (queue : List ValveId) : Part :=
  (p.setChannel v { p.channel v with state := .tune .searching, target := 200 }).setAnalyzer
    { p.analyzer with
      state := .searching { valve := v, gain := 0, phase := .preDrive 0, best := none }
      queue := queue
      buffer := [] }

/-- A look at the Tune Queue by an IDLE analyzer. -/
def Part.look (p : Part) : Part :=
  match lookAt (fun v => (p.channel v).heat.level == .hot) [] p.analyzer.queue with
  | some (v, queue) => p.startSearch v queue
  | none => p

/-! ## The Heat Monitor (R122, R123, R124) -/

/-- A level change at a WAITING channel has an IDLE analyzer look at the Tune Queue (R109, R124). -/
def Part.levelLook (p : Part) (v : ValveId) : Part :=
  if (p.channel v).state = .tune .waiting ∧ p.analyzer.state = .idle then p.look else p

/-- The level evaluated; a change recomputes the target of a channel in TRACK, has the analyzer look for a WAITING one,
and hands THERMAL with the Frame Timer's frame (R124). A look that an earlier event has caused at the queue is made
before the level changes (log 12); with none due it changes nothing. -/
def Part.evaluateLevel (p : Part) (v : ValveId) : Part :=
  let h := (p.channel v).heat
  let level := h.evaluated
  if level = h.level then p
  else
    let q := p.levelLook v
    (((q.setChannel v { q.channel v with heat := { h with level := level } }).recompute v).levelLook v).hand
      (.thermal v h.level level h.index (h.ceilingOf level)) p.timer.frame

/-- The rise of a valve's update: 0 while its corner is in dry run. -/
def Part.heatRise (p : Part) (v : ValveId) : Nat :=
  if (p.corner (cornerOf v)).dryRun then 0 else Machine.heatRise (p.channel v).measured

/-- The millisecond update. -/
def Part.heatUpdate (p : Part) (v : ValveId) : Part :=
  let ch := p.channel v
  (p.setChannel v { ch with heat := { ch.heat with index := heatStep ch.heat.index (p.heatRise v) } }).evaluateLevel v

/-! ## Driver fault lines (R101, R161) -/

/-- Whether a line assertion faults a channel in this state. -/
def ChannelState.driverFaults : ChannelState → Bool
  | .prepare _ => true
  | .tune _ => true
  | .track => true
  | .off => false
  | .fault _ => false

/-- A sampled change of DFLTv. -/
def Part.driverChange (p : Part) (v : ValveId) (asserted : Bool) : Part :=
  let ch := p.channel v
  let p1 := (p.setLines { p.lines with dflt := p.lines.dflt.set v asserted }).hand
    (.driverLine v asserted ch.state.name) ch.frame
  if asserted && ch.state.driverFaults then p1.enterFault v .driver 0 else p1

/-! ## The end of PREPARE (R89, R91, R95) -/

/-- A channel with no tuned gain enters TUNE, WAITING: it stops driving and joins the tail of the Tune Queue (R91,
R93, R108). -/
def Part.enterWaiting (p : Part) (v : ValveId) : Part :=
  let p1 := p.stopChannel v (.tune .waiting)
  p1.setAnalyzer { p1.analyzer with queue := p1.analyzer.queue ++ [v] }

/-- The end of the prepare interval of a passed test. -/
def Part.endPrepare (p : Part) (v : ValveId) (r : Nat) : Part :=
  let p1 := if (p.channel v).tunedGain.isSome then p.enterTrack v else p.enterWaiting v
  p1.handChange v .prepare (.prepareDone r)

/-! ## The commands of the family -/

/-- Whether the 5 ms of the reach are over: at the hundredth sample time, before or after that sample (log 5). -/
def ChannelState.reachExpires : ChannelState → Bool
  | .prepare { elapsed := e, stage := .reaching _ } => decide (99 ≤ e)
  | .prepare { elapsed := _, stage := .measuring _ _ _ } => false
  | .prepare { elapsed := _, stage := .passed _ } => false
  | .off => false
  | .tune _ => false
  | .track => false
  | .fault _ => false

/-- PREPARE_TIMEOUT (R89): the test current was not reached; the figure 65535 says so. -/
def execPrepareTimeout (v : ValveId) (s : State) : Host.Outcome State Fault Refusal :=
  .next { s with
    part := if (s.part.channel v).state.reachExpires then s.part.enterFault v .openCircuit 65535 else s.part }

/-- The resistance of a passed test whose 20 ms are over: at the four-hundredth sample time, before or after that
sample (log 5). -/
def ChannelState.prepareEnds : ChannelState → Option Nat
  | .prepare { elapsed := e, stage := .passed r } => if 399 ≤ e then some r else none
  | .prepare { elapsed := _, stage := .reaching _ } => none
  | .prepare { elapsed := _, stage := .measuring _ _ _ } => none
  | .off => none
  | .tune _ => none
  | .track => none
  | .fault _ => none

/-- PREPARE_END (R91). -/
def execPrepareEnd (v : ValveId) (s : State) : Host.Outcome State Fault Refusal :=
  .next { s with
    part :=
      match (s.part.channel v).state.prepareEnds with
      | some r => s.part.endPrepare v r
      | none => s.part }

/-- Whether a settle run expires: at its last sample time, before or after that sample (R97, log 5). -/
def Channel.settleExpires (ch : Channel) : Bool :=
  ch.state.isTrack &&
  match ch.settle with
  | some t => decide (t.left ≤ 1)
  | none => false

/-- SETTLE_MISS (R97). -/
def execSettleMiss (v : ValveId) (s : State) : Host.Outcome State Fault Refusal :=
  .next { s with part := if (s.part.channel v).settleExpires then s.part.settleMiss v else s.part }

/-- HEAT_UPDATE (R122). -/
def execHeatUpdate (v : ValveId) (s : State) : Host.Outcome State Fault Refusal :=
  .next { s with part := s.part.heatUpdate v }

/-- DRIVER_LINE (R101): a level that is not a change makes no event (R161, log 2). -/
def execDriverLine (v : ValveId) (asserted : Bool) (s : State) : Host.Outcome State Fault Refusal :=
  .next { s with
    part := if s.part.driverFault v = asserted then s.part else s.part.driverChange v asserted }

end Sys2Proof.Machine
end

