-- ==== Sys2Proof/Machine/Analyzer.lean ====
section
/-! DEFINITION. The Step Analyzer: trials and their scores, the end of a search, step
traces; and the 50 µs sample of a channel, of which every unit takes its share (chapters 6, 7). -/

namespace Sys2Proof.Machine

/-! ## Trials (R110, R111, R116) -/

/-- R116: the step of a trial of the armed valve starts a trial capture. -/
def Part.trialTrigger (p : Part) (h : Search) : Part :=
  if p.analyzer.trace = .armed h.valve then
    p.setAnalyzer
      { p.analyzer with
        trace := .capturing
        hand := some
          { valve := h.valve, gain := h.gain, frame := (p.channel h.valve).frame, samples := [], mark := none } }
  else p

/-- The end of the pre-drive: the step to 800 mA, with the sample buffer started afresh. -/
def Part.stepTrial (p : Part) (h : Search) : Part :=
  ((p.setChannel h.valve { p.channel h.valve with target := 800 }).setAnalyzer
    { p.analyzer with state := .searching { h with phase := .step }, buffer := [] }).trialTrigger h

/-- Within 25 mA of 800 mA. -/
def inStepBand (i : Nat) : Bool := decide (775 ≤ i ∧ i ≤ 825)

/-- The smallest index from which all samples of a list are in band; the length when the last is out of band. -/
def settleIndex : List Nat → Nat
  | [] => 0
  | i :: rest =>
    match settleIndex rest with
    | 0 => if inStepBand i then 0 else 1
    | n + 1 => n + 2

/-- The greatest sample. -/
def peak (l : List Nat) : Nat := l.foldl max 0

/-- The score of a settled trial; none for an unsettled one. -/
def trialScore (l : List Nat) : Option Int :=
  if settleIndex l < l.length then some (1280 - 20 * (settleIndex l : Int) - (min (peak l - 800) 300 : Nat)) else none

/-- The best trial after one at index i (R112). -/
def betterTrial (best : Option BestTrial) (i : Nat) : Option Int → Option BestTrial
  | none => best
  | some score =>
    match best with
    | none => some { gain := i, score := score }
    | some b => if b.score < score then some { gain := i, score := score } else some b

/-- Whether a search stops after the trial at index i (R112). -/
def searchStops (best : Option BestTrial) (i reach : Nat) : Bool :=
  (match best with
    | some b => decide (reach ≤ i - b.gain)
    | none => false) || decide (15 ≤ i)

/-- The next trial of a search: its pre-drive at 200 mA. The sample buffer keeps the samples of the trial before it until
the step (log 34). -/
def Part.nextTrial (p : Part) (h : Search) (best : Option BestTrial) : Part :=
  (p.setChannel h.valve { p.channel h.valve with target := 200 }).setAnalyzer
    { p.analyzer with
      state := .searching { valve := h.valve, gain := h.gain + 1, phase := .preDrive 0, best := best } }

/-- The completion of a search (R92, R113): the TUNE event, and the result given to the channel, at an analyzer that is
already IDLE while the result acts (log 33); the sample buffer keeps the last trial's samples (log 34). -/
def Part.completeSearch (p : Part) (h : Search) (best : Option BestTrial) : Part :=
  let p1 := p.setAnalyzer { p.analyzer with state := .idle }
  match best with
  | some b =>
    let p2 := p1.hand (.tuned h.valve (h.gain + 1) b) p1.timer.frame
    let p3 := p2.setChannel h.valve { p2.channel h.valve with tunedGain := some (Fin.ofNat 16 b.gain) }
    (p3.enterTrack h.valve).handChange h.valve .tune (.searchDone b.gain)
  | none => (p1.hand (.untunable h.valve (h.gain + 1)) p1.timer.frame).enterFault h.valve .untunable 0

/-- A trace whose sample 63 is in: marked COMPLETE, WRITING, its item owed (R116, R117, R119). -/
def Part.completeTrace (p : Part) : Part :=
  (p.setAnalyzer
    { p.analyzer with
      trace := .writing
      hand := p.analyzer.hand.map fun t => { t with mark := some .complete } }).offerTrace

/-- Sample 63 of a step: a trial capture is complete, the trial is scored, and the search goes on or completes. -/
def Part.endTrial (p : Part) (h : Search) : Part :=
  let p1 := if p.analyzer.trace = .capturing then p.completeTrace else p
  let best := betterTrial h.best h.gain (trialScore p1.analyzer.buffer)
  if searchStops best h.gain (p1.channel h.valve).searchReach then p1.completeSearch h best else p1.nextTrial h best

/-! ## A sample at the analyzer -/

/-- A sample copied into the trace in hand while it is captured. -/
def Analyzer.copySample (a : Analyzer) (measured target : Nat) : Analyzer :=
  if a.trace = .capturing then
    { a with
      hand := a.hand.map fun t => { t with samples := t.samples ++ [{ measured := measured, target := target }] } }
  else a

/-- A sample of the channel that is SEARCHING: the pre-drive's time, or the next step sample. -/
def Part.searchSample (p : Part) (h : Search) (x : Sample) : Part :=
  match h.phase with
  | .preDrive k => p.setAnalyzer { p.analyzer with state := .searching { h with phase := .preDrive (k + 1) } }
  | .step =>
    let a := p.analyzer.copySample x.current.toNat 800
    let p1 := p.setAnalyzer { a with buffer := a.buffer ++ [x.current.toNat] }
    if 64 ≤ p1.analyzer.buffer.length then p1.endTrial h else p1

/-- Sample 63 of a track capture: analyzer and trace WRITING (R117). -/
def Part.endCapture (p : Part) : Part := (p.setAnalyzer { p.analyzer with state := .writing }).completeTrace

/-- A sample of the channel that is captured in TRACK, with its target as it stands. -/
def Part.captureSample (p : Part) (v : ValveId) (x : Sample) : Part :=
  let a := p.analyzer.copySample x.current.toNat (p.channel v).target
  let p1 := p.setAnalyzer { a with buffer := a.buffer ++ [x.current.toNat] }
  if 64 ≤ p1.analyzer.buffer.length then p1.endCapture else p1

/-- A sample of a channel in TRACK: settle supervision and the capture. -/
def Part.trackSample (p : Part) (v : ValveId) (x : Sample) : Part :=
  let p1 := if p.analyzer.state = .capturing v then p.captureSample v x else p
  p1.setChannel v ((p1.channel v).settleSample x)

/-- A 50 µs sample of a channel (R86): the measured current, and the share of what the channel's state is doing. -/
def Part.takeSample (p : Part) (v : ValveId) (x : Sample) : Part :=
  let p1 := p.setChannel v { p.channel v with measured := x.current.toNat }
  match (p.channel v).state with
  | .prepare q => p1.prepareSample v q x
  | .track => p1.trackSample v x
  | .tune .searching =>
    match p.analyzer.state with
    | .searching h => if h.valve = v then p1.searchSample h x else p1
    | .idle => p1
    | .capturing _ => p1
    | .writing => p1
  | .tune .waiting => p1
  | .off => p1
  | .fault _ => p1

/-! ## The commands of the family -/

/-- COIL_CURRENT_SAMPLE (R86). -/
def execCoilCurrentSample (v : ValveId) (x : Sample) (s : State) : Host.Outcome State Fault Refusal :=
  .next { s with part := s.part.takeSample v x }

/-- Whether a sample would be the fourth consecutive in-band sample of the reach (R89). -/
def ChannelState.reachesWith (x : Sample) : ChannelState → Bool
  | .prepare { elapsed := e, stage := .reaching n } => decide (e < 100) && decide (4 ≤ countInBand n (inTestBand x))
  | .prepare { elapsed := _, stage := .measuring _ _ _ } => false
  | .prepare { elapsed := _, stage := .passed _ } => false
  | .off => false
  | .tune _ => false
  | .track => false
  | .fault _ => false

/-- TEST_CURRENT_REACH (R89): the sample that is the reach (log 3). -/
def execTestCurrentReach (v : ValveId) (x : Sample) (s : State) : Host.Outcome State Fault Refusal :=
  .next { s with part := if (s.part.channel v).state.reachesWith x then s.part.takeSample v x else s.part }

/-- Whether the next sample is the last of the resistance measurement (R90). -/
def ChannelState.measurementEnds : ChannelState → Bool
  | .prepare { elapsed := _, stage := .measuring k _ _ } => decide (100 ≤ k + 1)
  | .prepare { elapsed := _, stage := .reaching _ } => false
  | .prepare { elapsed := _, stage := .passed _ } => false
  | .off => false
  | .tune _ => false
  | .track => false
  | .fault _ => false

/-- RESISTANCE_MEASUREMENT_END (R90): the hundredth sample after the reach (log 3). -/
def execResistanceMeasurementEnd (v : ValveId) (x : Sample) (s : State) : Host.Outcome State Fault Refusal :=
  .next { s with part := if (s.part.channel v).state.measurementEnds then s.part.takeSample v x else s.part }

/-- Whether a sample would be the fourth in band of a settle run (R97). -/
def Channel.settlesWith (ch : Channel) (x : Sample) : Bool :=
  ch.state.isTrack &&
  match ch.settle with
  | some t => decide (0 < t.left) && decide (4 ≤ countInBand t.inBand (inBand x.current.toNat ch.target))
  | none => false

/-- SETTLE_SUCCESS (R97): the sample that ends a settle run in success (log 3). -/
def execSettleSuccess (v : ValveId) (x : Sample) (s : State) : Host.Outcome State Fault Refusal :=
  .next { s with part := if (s.part.channel v).settlesWith x then s.part.takeSample v x else s.part }

/-- QUEUE_LOOK (R109): an analyzer that is not IDLE does not look (log 2). -/
def execQueueLook (s : State) : Host.Outcome State Fault Refusal :=
  .next { s with part := if s.part.analyzer.state = .idle then s.part.look else s.part }

/-- The search whose pre-drive of 2 ms is over: after its fortieth sample, since the step's sample 63 comes 3.2 ms
after the step (R110, log 5). -/
def Analyzer.preDriveEnds (a : Analyzer) : Option Search :=
  match a.state with
  | .searching h =>
    match h.phase with
    | .preDrive k => if 40 ≤ k then some h else none
    | .step => none
  | .idle => none
  | .capturing _ => none
  | .writing => none

/-- PRE_DRIVE_END (R110). -/
def execPreDriveEnd (s : State) : Host.Outcome State Fault Refusal :=
  .next { s with
    part :=
      match s.part.analyzer.preDriveEnds with
      | some h => s.part.stepTrial h
      | none => s.part }

/-- The valve whose next sample is sample 63 of the trial in hand. -/
def Analyzer.trialEnds (a : Analyzer) : Option ValveId :=
  match a.state with
  | .searching h =>
    match h.phase with
    | .step => if 64 ≤ a.buffer.length + 1 then some h.valve else none
    | .preDrive _ => none
  | .idle => none
  | .capturing _ => none
  | .writing => none

/-- TRIAL_END (R111): sample 63 of the trial in hand (log 3). -/
def execTrialEnd (x : Sample) (s : State) : Host.Outcome State Fault Refusal :=
  .next { s with
    part :=
      match s.part.analyzer.trialEnds with
      | some v => s.part.takeSample v x
      | none => s.part }

/-- The valve whose next sample is sample 63 of the track capture in hand. -/
def Analyzer.captureEnds (a : Analyzer) : Option ValveId :=
  match a.state with
  | .capturing v => if 64 ≤ a.buffer.length + 1 then some v else none
  | .searching _ => none
  | .idle => none
  | .writing => none

/-- CAPTURE_END (R117): sample 63 of the track capture in hand (log 3). -/
def execCaptureEnd (x : Sample) (s : State) : Host.Outcome State Fault Refusal :=
  .next { s with
    part :=
      match s.part.analyzer.captureEnds with
      | some v => s.part.takeSample v x
      | none => s.part }

end Sys2Proof.Machine
end

