-- ==== Sys2Proof/Machine/Slots.lean ====
section
/-! DEFINITION. Slot Capture: staging, and the closing writes of demand and urgent slots with the takes, refusals and
cancels they cause (chapters 1, 3). -/

namespace Sys2Proof.Machine

/-! ## Staging (R4, R44, R75) -/

/-- The enabled lanes of a write to word w staged over a staging, with the poisoned marks of the bad lanes. -/
def stageLanes {n : Nat} (old : Vector StagedByte n) (w : Nat) (b : Beat) (bad : Lanes) : Vector StagedByte n :=
  Vector.ofFn fun k : Fin n =>
    if k.val / 4 = w ∧ b.lanes.getLsbD (k.val % 4) = true then
      { value := laneByte b.data (k.val % 4), staged := true, poisoned := bad.getLsbD (k.val % 4) }
    else old[k]

/-- A write to word 0, 1 or 2 of a demand slot (R4, R5). -/
def DemandSlot.stage (d : DemandSlot) (w : Nat) (b : Beat) (bad : Lanes) : DemandSlot :=
  match d.state with
  | .free => if b.lanes = 0 then d else { d with state := .filling, staging := stageLanes d.staging w b bad }
  | .filling => { d with staging := stageLanes d.staging w b bad }
  | .held => d
  | .retiring => d
  | .refusing => d

/-- R4, R5. -/
def Part.stageDemand (p : Part) (i : SlotId) (w : Nat) (b : Beat) (bad : Lanes) : Part :=
  p.setDemand i ((p.demandSlot i).stage w b bad)

/-- A write to word 0, 1 or 2 of an urgent slot (R44). -/
def UrgentSlot.stage (d : UrgentSlot) (w : Nat) (b : Beat) (bad : Lanes) : UrgentSlot :=
  match d.state with
  | .free => if b.lanes = 0 then d else { d with state := .filling, staging := stageLanes d.staging w b bad }
  | .filling => { d with staging := stageLanes d.staging w b bad }
  | .active => { d with cancel := stageLanes d.cancel w b bad }
  | .owed => d

/-- R44. -/
def Part.stageUrgent (p : Part) (c : CornerId) (w : Nat) (b : Beat) (bad : Lanes) : Part :=
  p.setUrgent c ((p.urgentSlot c).stage w b bad)

/-! ## The checks of a record on its own bytes (R10, R45, R51) -/

/-- The first four checks, which demand records, urgent records and cancels share. -/
inductive RecordFlaw where
  | incomplete | poisoned | check | slotMismatch
  deriving DecidableEq, Repr

/-- The check code field and the slot echo of a closing word. -/
def closingCheck (data : Word) : BitVec 16 := data.extractLsb' 0 16

def closingEcho (data : Word) : Nat := field data 16 7

/-- The first failing check of a staging and its closing word, for the slot of the given number. -/
def recordFlaw (staging : List StagedByte) (cw : ClosingWord) (number : Nat) : Option RecordFlaw :=
  if staging.any (fun b => !b.staged) then some .incomplete
  else if staging.any (fun b => b.poisoned) ∨ cw.poisoned ≠ 0 then some .poisoned
  else if checkCode (staging.map fun b => b.value) ≠ closingCheck cw.data then some .check
  else if closingEcho cw.data ≠ number then some .slotMismatch
  else none

def RecordFlaw.refusal : RecordFlaw → RefusalReason
  | .incomplete => .incomplete
  | .poisoned => .poisoned
  | .check => .check
  | .slotMismatch => .slotMismatch

def RecordFlaw.cancelFailure : RecordFlaw → CancelFailure
  | .incomplete => .incomplete
  | .poisoned => .poisoned
  | .check => .check
  | .slotMismatch => .slotMismatch

/-- Whether valve select and the firmness fields it examines are in range. -/
def firmnessInRange (select : Option ValveSelect) (compression rebound : Nat) : Bool :=
  match select with
  | none => false
  | some sel =>
    (!sel.hasCompression || decide (compression ≤ 1000)) && (!sel.hasRebound || decide (rebound ≤ 1000))

/-- The refusal of a corner that is not in RUN. -/
def CornerState.refusal : CornerState → Option RefusalReason
  | .idle => some .cornerIdle
  | .run => none
  | .limp => some .cornerLimp
  | .safe => some .cornerSafe

/-! ## Demand records (R10 to R13, R25, R27, R34) -/

/-- Checks 6 to 9 of R11, with R27, at the corner. -/
def Corner.refusal (k : Corner) (r : DemandRecord) : Option RefusalReason :=
  if k.state ≠ .run then k.state.refusal
  else if (k.lastTaken.any fun l => sequenceStale r.sequence l) ∨ (k.list.any fun e => e.sequence == r.sequence) then
    some .sequence
  else if r.timing = .atFrame ∧ isPast r.target k.frame then some .stale
  else if r.timing = .atFrame ∧ 65 ≤ ahead r.target k.frame then some .tooEarly
  else if 8 ≤ k.list.length then some .queueFull
  else none

/-- The place of a new entry (R25): after every entry whose distance is less or equal, before every greater. -/
def insertEntry (n : Frame) (e : Entry) : List Entry → List Entry
  | [] => [e]
  | x :: rest => if ahead x.target n ≤ ahead e.target n then x :: insertEntry n e rest else e :: x :: rest

/-- The entry of a record taken at frame n (R12, R24). -/
def entryOf (i : SlotId) (r : DemandRecord) (sel : ValveSelect) (n : Frame) : Entry :=
  { slot := i
    select := sel
    timing := r.timing
    sequence := r.sequence
    target := match r.timing with | .atFrame => r.target | .nextFrame => n + 1
    ramp := r.ramp
    compression := r.compression
    rebound := r.rebound
    takenAt := n }

/-- QUEUE HIGH (R34). -/
def Part.queueHigh (p : Part) (c : CornerId) (before after : Nat) : Part :=
  let k := p.corner c
  if before < k.highMark ∧ k.highMark ≤ after then p.hand (.queueHigh c after k.highMark) k.frame else p

/-- A demand take (R12). -/
def Part.takeDemand (p : Part) (i : SlotId) (r : DemandRecord) (sel : ValveSelect) : Part :=
  let k := p.corner r.corner
  let list := insertEntry k.frame (entryOf i r sel k.frame) k.list
  let p1 := p.setCorner r.corner { k with list := list, lastTaken := some r.sequence, silence := 0 }
  let p2 := (p1.setDemand i { p1.demandSlot i with state := .held, take := some { frame := k.frame } }).offerDemand i
  p2.queueHigh r.corner k.list.length list.length

/-- A demand refusal (R13). -/
def Part.refuseDemand (p : Part) (i : SlotId) (reason : RefusalReason) (f : Frame) : Part :=
  ((p.setDemand i { p.demandSlot i with state := .refusing, final := some (.refused reason f) }).offerDemand i).hand
    (.recordRefused i.val reason) f

/-- The record of a slot's staging and closing word. -/
def DemandSlot.record (d : DemandSlot) (data : Word) : DemandRecord :=
  demandRecord (stagedWord d.staging.toList 0) (stagedWord d.staging.toList 1) (stagedWord d.staging.toList 2) data

/-- Validation of a demand record (R7, R10, R11): refused at the Frame Timer's frame on its own bytes, at the corner's
frame by the corner; else taken. -/
def Part.validateDemand (p : Part) (i : SlotId) (cw : ClosingWord) : Part :=
  let d := p.demandSlot i
  let r := d.record cw.data
  let p1 := p.setDemand i { d with closing := some cw }
  match recordFlaw d.staging.toList cw i.val with
  | some flaw => p1.refuseDemand i flaw.refusal p.timer.frame
  | none =>
    match r.select with
    | none => p1.refuseDemand i .range p.timer.frame
    | some sel =>
      if firmnessInRange r.select r.compression r.rebound = false then p1.refuseDemand i .range p.timer.frame
      else
        match (p.corner r.corner).refusal r with
        | some reason => p1.refuseDemand i reason (p.corner r.corner).frame
        | none => p1.takeDemand i r sel

/-- A full write to word 3 of a demand slot (R7, R8). -/
def Part.closeDemand (p : Part) (i : SlotId) (cw : ClosingWord) : Part :=
  match (p.demandSlot i).state with
  | .free => p.validateDemand i cw
  | .filling => p.validateDemand i cw
  | .held => p.hand (.slotBusy i .held) p.timer.frame
  | .retiring => p.hand (.slotBusy i .retiring) p.timer.frame
  | .refusing => p.hand (.slotBusy i .refusing) p.timer.frame

/-! ## Urgent records (R45 to R47, R51, R52) -/

/-- Check 5 of R45. -/
def urgentInRange (r : UrgentRecord) : Bool :=
  !r.cancel && decide (1 ≤ r.hold ∧ r.hold ≤ 250) && firmnessInRange r.select r.compression r.rebound

/-- The override starts of a take (R46, R48). -/
def Part.startOverrides (p : Part) (c : CornerId) (sel : ValveSelect) (compression rebound : Nat) : Part :=
  let p1 := if sel.hasCompression then p.overrideStart (compressionValve c) compression else p
  if sel.hasRebound then p1.overrideStart (reboundValve c) rebound else p1

/-- An urgent take (R46). -/
def Part.takeUrgent (p : Part) (c : CornerId) (r : UrgentRecord) (sel : ValveSelect) : Part :=
  let k := p.corner c
  let take : UrgentTake :=
    { frame := k.frame
      compression := p.appliedCompression c sel r.compression
      rebound := p.appliedRebound c sel r.rebound }
  let p1 := p.setCorner c
    { k with
      hold := some { sequence := r.sequence, select := sel, left := r.hold, release := r.release }
      silence := 0 }
  let p2 := (p1.setUrgent c
    { p1.urgentSlot c with
      state := .active
      take := some take
      cancel := Vector.replicate 12 .clear }).offerUrgent c
  p2.startOverrides c sel r.compression r.rebound

/-- An urgent refusal (R47). -/
def Part.refuseUrgent (p : Part) (c : CornerId) (reason : RefusalReason) (f : Frame) : Part :=
  ((p.setUrgent c { p.urgentSlot c with state := .owed, final := some (.refused reason f) }).offerUrgent c).hand
    (.recordRefused (64 + c.val) reason) f

/-- The urgent record of a staging and a closing word. -/
def urgentRecordOf (staging : List StagedByte) (data : Word) : UrgentRecord :=
  urgentRecord (stagedWord staging 0) (stagedWord staging 1) (stagedWord staging 2) data

/-- Validation of an urgent record (R45). -/
def Part.validateUrgent (p : Part) (c : CornerId) (cw : ClosingWord) : Part :=
  let d := p.urgentSlot c
  let f := (p.corner c).frame
  let r := urgentRecordOf d.staging.toList cw.data
  let p1 := p.setUrgent c { d with closing := some cw }
  match recordFlaw d.staging.toList cw (64 + c.val) with
  | some flaw => p1.refuseUrgent c flaw.refusal f
  | none =>
    match r.select with
    | none => p1.refuseUrgent c .range f
    | some sel =>
      if urgentInRange r = false then p1.refuseUrgent c .range f
      else
        match (p.corner c).state.refusal with
        | some reason => p1.refuseUrgent c reason f
        | none => p1.takeUrgent c r sel

/-- The first condition that keeps a closing write to an ACTIVE slot from being a cancel of hold `h` (R51). -/
def cancelFailure (staging : List StagedByte) (cw : ClosingWord) (c : CornerId) (h : Hold) : Option CancelFailure :=
  match recordFlaw staging cw (64 + c.val) with
  | some flaw => some flaw.cancelFailure
  | none =>
    let r := urgentRecordOf staging cw.data
    if r.cancel = false then some .notCancel
    else if r.sequence ≠ h.sequence then some .sequence
    else none

/-- A cancel (R51): the hold ends, with the cancel record's release for the frame after the corner's; its closing word
is not kept (log 26). -/
def Part.cancelHold (p : Part) (c : CornerId) (h : Hold) (release : Nat) : Part :=
  (p.endHold c (.cancelled (p.corner c).frame)).sendEnds c h.select { release := release, frame := p.nextFrame c }

/-- A closing write to an ACTIVE slot (R51). An ACTIVE slot has a hold in force (R46). -/
def Part.closeActive (p : Part) (c : CornerId) (cw : ClosingWord) : Part :=
  match (p.corner c).hold with
  | some h =>
    match cancelFailure (p.urgentSlot c).cancel.toList cw c h with
    | some failure => p.hand (.urgentBusy c .active (some failure)) (p.corner c).frame
    | none => p.cancelHold c h (urgentRecordOf (p.urgentSlot c).cancel.toList cw.data).release
  | none => p

/-- A full write to word 3 of an urgent slot (R45, R51, R52). -/
def Part.closeUrgent (p : Part) (c : CornerId) (cw : ClosingWord) : Part :=
  match (p.urgentSlot c).state with
  | .free => p.validateUrgent c cw
  | .filling => p.validateUrgent c cw
  | .active => p.closeActive c cw
  | .owed => p.hand (.urgentBusy c .owed none) (p.corner c).frame

end Sys2Proof.Machine
end

