-- ==== Sys2Proof/Machine/Maps.lean ====
section
/-! DEFINITION. The Map Store: point writes, validation, the owed result, quiescence and promotion (chapter 5). -/

namespace Sys2Proof.Machine

/-! ## Point writes (R75) -/

/-- A write to a point word, `w` from 0 for word 2: VALID and INVALID are discarded first; no lane, no effect. -/
def MapEntry.stage (m : MapEntry) (w : Nat) (b : Beat) (bad : Lanes) : MapEntry :=
  if b.lanes = 0 then m
  else
    match m.state with
    | .empty => { m with state := .filling, staging := stageLanes m.staging w b bad }
    | .filling => { m with staging := stageLanes m.staging w b bad }
    | .valid =>
      { m with
        state := .filling
        staging := stageLanes (Vector.replicate 64 .clear) w b bad
        header := none }
    | .invalid _ =>
      { m with
        state := .filling
        staging := stageLanes (Vector.replicate 64 .clear) w b bad
        header := none }

/-- R75. -/
def Part.stageMap (p : Part) (v : ValveId) (w : Nat) (b : Beat) (bad : Lanes) : Part :=
  p.setMap v ((p.map v).stage w b bad)

/-! ## Validation (R77, R78, R79) -/

/-- The first `n` staged points. -/
def stagedPoints (staging : List StagedByte) (n : Nat) : List MapPoint :=
  (List.range n).map fun k => mapPoint (stagedWord staging k)

/-- Each firmness greater than the one before it. -/
def rising : List MapPoint → Bool
  | [] => true
  | [_] => true
  | a :: b :: rest => decide (a.firmness < b.firmness) && rising (b :: rest)

/-- First firmness 0, last 1000, strictly rising. -/
def wellShaped (l : List MapPoint) : Bool :=
  (match l.head? with | some a => a.firmness == 0 | none => false) &&
    (match l.getLast? with | some a => a.firmness == 1000 | none => false) && rising l

/-- The first failing check of a staging under a header. -/
def mapFlaw (staging : List StagedByte) (cw : ClosingWord) : Option MapReason :=
  let n := headerCount cw.data
  let counted := staging.take (4 * min n 16)
  if counted.any (fun b => !b.staged) then some .incomplete
  else if counted.any (fun b => b.poisoned) ∨ cw.poisoned ≠ 0 then some .poisoned
  else if n < 2 ∨ 16 < n then some .count
  else if checkCode (counted.map fun b => b.value) ≠ headerCheck cw.data then some .check
  else if wellShaped (stagedPoints staging n) = false then some .shape
  else if (stagedPoints staging n).any (fun q => decide (2000 < q.current)) then some .range
  else none

/-- The pending state of a validation's outcome. -/
def pendingOf : Option MapReason → PendingState
  | none => .valid
  | some r => .invalid r

/-- A full write to word 0 of a Map Block (R76): the pending map is validated, a result is owed, MAP RESULT is handed
with the Frame Timer's frame. -/
def Part.closeMap (p : Part) (v : ValveId) (cw : ClosingWord) : Part :=
  let m := p.map v
  let reason := mapFlaw m.staging.toList cw
  let result : MapResult := { reason := reason, count := headerCount cw.data }
  let p1 := p.setMap v { m with state := pendingOf reason, header := some cw, result := some result }
  let p2 := if m.result.isNone then p1.offerMap v else p1
  p2.hand (.mapResult v result) p.timer.frame

/-! ## Promotion (R82, R84) -/

/-- Whether a valve is quiescent; a ramp request on its way is a waiting request (log 10). -/
def Part.quiescent (p : Part) (v : ValveId) : Bool :=
  let ch := p.channel v
  let k := p.corner (cornerOf v)
  ch.state.isOffOrFault || k.state != .run ||
    (k.list.isEmpty && k.hold.isNone && ch.ramp.isNone && ch.waiting.isNone && ch.requests.isEmpty && ch.phase == .none)

/-- The points of a captured header's count. -/
def MapEntry.pendingPoints (m : MapEntry) : List MapPoint :=
  match m.header with
  | some h => stagedPoints m.staging.toList (headerCount h.data)
  | none => []

/-- Promotion: the pending map becomes active and the pending state EMPTY; a channel in TRACK recomputes its target. -/
def Part.promote (p : Part) (v : ValveId) : Part :=
  let m := p.map v
  (p.setMap v
    { m with
      active := some m.pendingPoints
      state := .empty
      staging := Vector.replicate 64 .clear
      header := none }).recompute v

end Sys2Proof.Machine
end

