-- ==== Sys2Proof/Machine/Setup.lean ====
section
/-! DEFINITION. The Setup Decoder: receiving a command word, judging it as a whole and at each target, the commands'
effects at their owners, RESTART, the reply; and the journal read index (chapter 9). -/

namespace Sys2Proof.Machine

/-! ## Command kinds (R131, R134, R136, 10.8) -/

/-- The command kinds. -/
inductive Kind where
  | framePeriod | startFrames | runCorners | idleCorners | enableValves | disableValves | clearFault | retune
  | promoteMap | limpFirmness | limpRamp | silenceLimit | watermarks | settleTimeout | searchReach | warmLevel
  | hotLevel | warmCeiling | hotCeiling | armTrace | dryRun | axlePairing | readyMode | attnThreshold | restart
  deriving DecidableEq, Repr

/-- The kind a code names. -/
def Kind.ofCode : Nat → Option Kind
  | 1 => some .framePeriod | 2 => some .startFrames | 3 => some .runCorners | 4 => some .idleCorners
  | 5 => some .enableValves | 6 => some .disableValves | 7 => some .clearFault | 8 => some .retune
  | 9 => some .promoteMap | 10 => some .limpFirmness | 11 => some .limpRamp | 12 => some .silenceLimit
  | 13 => some .watermarks | 14 => some .settleTimeout | 15 => some .searchReach | 16 => some .warmLevel
  | 17 => some .hotLevel | 18 => some .warmCeiling | 19 => some .hotCeiling | 20 => some .armTrace
  | 21 => some .dryRun | 22 => some .axlePairing | 23 => some .readyMode | 24 => some .attnThreshold
  | 25 => some .restart
  | _ => none

/-- How a kind reads the target mask (R134). -/
inductive KindClass where
  | valve | corner | global
  deriving DecidableEq, Repr

def Kind.cls : Kind → KindClass
  | .framePeriod | .startFrames | .axlePairing | .readyMode | .attnThreshold | .restart => .global
  | .runCorners | .idleCorners | .limpFirmness | .limpRamp | .silenceLimit | .watermarks | .dryRun => .corner
  | .enableValves | .disableValves | .clearFault | .retune | .promoteMap | .settleTimeout | .searchReach => .valve
  | .warmLevel | .hotLevel | .warmCeiling | .hotCeiling | .armTrace => .valve

/-- The targets a mask names, in numerical order; a global command's one target is the part. -/
def Kind.targets (k : Kind) (mask : BitVec 8) : List Nat :=
  match k.cls with
  | .valve => [0, 1, 2, 3, 4, 5, 6, 7].filter fun t => mask.getLsbD t
  | .corner => [0, 1, 2, 3].filter fun t => mask.getLsbD t
  | .global => [0]

/-- Whether a mask names the targets its kind needs: at least one, and exactly one for ARM TRACE (R133). -/
def Kind.targetsOk (k : Kind) (mask : BitVec 8) : Bool :=
  match k with
  | .armTrace => (k.targets mask).length == 1
  | .framePeriod | .startFrames | .runCorners | .idleCorners | .enableValves | .disableValves | .clearFault | .retune
  | .promoteMap | .limpFirmness | .limpRamp | .silenceLimit | .watermarks | .settleTimeout | .searchReach | .warmLevel
  | .hotLevel | .warmCeiling | .hotCeiling | .dryRun | .axlePairing | .readyMode | .attnThreshold | .restart =>
    !(k.targets mask).isEmpty

/-- Whether a kind admits an argument (R136). -/
def Kind.admits (k : Kind) (arg : Nat) : Bool :=
  match k with
  | .framePeriod => decide (arg ≤ 14)
  | .limpFirmness => decide (arg ≤ 1000)
  | .limpRamp => decide (arg ≤ 255)
  | .silenceLimit => decide (2 ≤ arg ∧ arg ≤ 255)
  | .watermarks => decide (arg ≤ 255)
  | .settleTimeout => decide (1 ≤ arg ∧ arg ≤ 15)
  | .searchReach => decide (1 ≤ arg ∧ arg ≤ 8)
  | .warmLevel | .hotLevel => decide (arg ≤ 4095)
  | .warmCeiling | .hotCeiling => decide (arg ≤ 2000)
  | .dryRun | .axlePairing => decide (arg ≤ 1)
  | .readyMode => decide (arg ≤ 3)
  | .attnThreshold => decide (1 ≤ arg ∧ arg ≤ 127)
  | .startFrames | .runCorners | .idleCorners | .enableValves | .disableValves | .clearFault | .retune | .promoteMap
  | .armTrace | .restart => true

/-! ## Judging a target: the part after it, and the reason of a refusal -/

/-- A target's judgement: the part after it, and the reason when it was refused. -/
abbrev Judged := Part × Option ReplyReason

/-- FRAME PERIOD (R21, R138). -/
def Part.judgeFramePeriod (p : Part) (arg : Nat) : Judged :=
  if p.timer.running then (p, some .framesRunning) else (p.setTimer { p.timer with period := arg }, none)

/-- START FRAMES (R21, R138). -/
def Part.judgeStartFrames (p : Part) : Judged :=
  if p.timer.running then (p, some .framesRunning) else (p.setTimer { p.timer with running := true }, none)

/-- Whether a valve of a corner is in FAULT. -/
def Part.faultPresent (p : Part) (c : CornerId) : Bool :=
  (p.channel (compressionValve c)).state.isFault || (p.channel (reboundValve c)).state.isFault

/-- RUN CORNERS (R58). -/
def Part.judgeRunCorner (p : Part) (c : CornerId) : Judged :=
  if p.timer.running = false then (p, some .framesStopped)
  else if p.lines.safe then (p, some .safe)
  else if (p.corner c).state ≠ .idle ∧ (p.corner c).state ≠ .limp then (p, some .wrongState)
  else if p.faultPresent c then (p, some .faultPresent)
  else (p.enterRun c, none)

/-- IDLE CORNERS (R59). -/
def Part.judgeIdleCorner (p : Part) (c : CornerId) : Judged :=
  if (p.corner c).state = .run ∨ (p.corner c).state = .limp then (p.enterIdle c, none) else (p, some .wrongState)

/-- Entry to PREPARE (R88): time since entry 0, no reach found, the test current. -/
def Part.enterPrepare (p : Part) (v : ValveId) : Part :=
  (p.setChannel v
    { p.channel v with state := .prepare { elapsed := 0, stage := .reaching 0 }, target := 250 }).handChange v .off
      .enable

/-- ENABLE VALVES (R88). -/
def Part.judgeEnable (p : Part) (v : ValveId) : Judged :=
  if (p.channel v).state ≠ .off then (p, some .wrongState)
  else if p.lines.safe then (p, some .safe)
  else if (p.corner (cornerOf v)).dryRun then (p, some .dryRun)
  else if p.driverFault v then (p, some .driverLine)
  else if (p.map v).active.isNone then (p, some .noMap)
  else (p.enterPrepare v, none)

/-- A channel withdrawn (R99, R100): OFF, the CHANNEL STATE event, the lost notice. -/
def Part.disable (p : Part) (v : ValveId) : Part :=
  ((p.stopChannel v .off).handChange v (p.channel v).state.name .disable).limpNotice (cornerOf v) (.valveLost v)

/-- DISABLE VALVES (R99). -/
def Part.judgeDisable (p : Part) (v : ValveId) : Judged :=
  if (p.channel v).state.isOffOrFault then (p, some .wrongState) else (p.disable v, none)

/-- CLEAR FAULT (R103). -/
def Part.judgeClearFault (p : Part) (v : ValveId) : Judged :=
  match (p.channel v).state with
  | .fault cause =>
    if p.driverFault v then (p, some .driverLine)
    else ((p.setChannel v { p.channel v with state := .off }).handChange v .fault (.clearFault cause), none)
  | .off => (p, some .wrongState)
  | .prepare _ => (p, some .wrongState)
  | .tune _ => (p, some .wrongState)
  | .track => (p, some .wrongState)

/-- RETUNE (R93). -/
def Part.judgeRetune (p : Part) (v : ValveId) : Judged :=
  if (p.channel v).state ≠ .track then (p, some .wrongState)
  else if (p.corner (cornerOf v)).state = .run then (p, some .notQuiescent)
  else if (p.channel v).heat.level = .hot then (p, some .hot)
  else ((p.enterWaiting v).handChange v .track .retune, none)

/-- PROMOTE MAP (R82, R84). -/
def Part.judgePromote (p : Part) (v : ValveId) : Judged :=
  if (p.map v).state ≠ .valid then (p, some .noPendingMap)
  else if p.quiescent v = false then (p, some .notQuiescent)
  else (p.promote v, none)

/-- LIMP FIRMNESS (R62): an IDLE or LIMP corner sends a new limp ramp request. -/
def Part.judgeLimpFirmness (p : Part) (arg : Nat) (c : CornerId) : Judged :=
  let p1 := p.setCorner c { p.corner c with limpFirmness := arg }
  (if (p.corner c).state = .idle ∨ (p.corner c).state = .limp then p1.sendLimpRamp c (p1.nextFrame c) else p1, none)

/-- LIMP RAMP (R62). -/
def Part.judgeLimpRamp (p : Part) (arg : Nat) (c : CornerId) : Judged :=
  (p.setCorner c { p.corner c with limpRamp := arg }, none)

/-- SILENCE LIMIT (R63). -/
def Part.judgeSilenceLimit (p : Part) (arg : Nat) (c : CornerId) : Judged :=
  (p.setCorner c { p.corner c with silenceLimit := arg }, none)

/-- WATERMARKS (R32, R136). -/
def Part.judgeWatermarks (p : Part) (arg : Nat) (c : CornerId) : Judged :=
  if arg % 16 < arg / 16 ∧ arg / 16 ≤ 8 then
    (p.setCorner c { p.corner c with lowMark := arg % 16, highMark := arg / 16 }, none)
  else (p, some .range)

/-- SETTLE TIMEOUT (R98). -/
def Part.judgeSettleTimeout (p : Part) (arg : Nat) (v : ValveId) : Judged :=
  (p.setChannel v { p.channel v with settleTimeout := arg }, none)

/-- SEARCH REACH (R112). -/
def Part.judgeSearchReach (p : Part) (arg : Nat) (v : ValveId) : Judged :=
  (p.setChannel v { p.channel v with searchReach := arg }, none)

/-- The Heat Monitor of a valve replaced. -/
def Part.setHeat (p : Part) (v : ValveId) (h : Heat) : Part := p.setChannel v { p.channel v with heat := h }

/-- WARM LEVEL (R126). -/
def Part.judgeWarmLevel (p : Part) (arg : Nat) (v : ValveId) : Judged :=
  let h := (p.channel v).heat
  if arg * 16 < h.hotLevel then ((p.setHeat v { h with warmLevel := arg * 16 }).evaluateLevel v, none)
  else (p, some .range)

/-- HOT LEVEL (R126). -/
def Part.judgeHotLevel (p : Part) (arg : Nat) (v : ValveId) : Judged :=
  let h := (p.channel v).heat
  if h.warmLevel < arg * 16 then ((p.setHeat v { h with hotLevel := arg * 16 }).evaluateLevel v, none)
  else (p, some .range)

/-- The target recomputed when the ceiling of the level in force has changed (R127). -/
def Part.recomputeIn (p : Part) (v : ValveId) (level : ThermalLevel) : Part :=
  if (p.channel v).heat.level = level then p.recompute v else p

/-- WARM CEILING (R127). -/
def Part.judgeWarmCeiling (p : Part) (arg : Nat) (v : ValveId) : Judged :=
  let h := (p.channel v).heat
  if h.hotCeiling ≤ arg then ((p.setHeat v { h with warmCeiling := arg }).recomputeIn v .warm, none)
  else (p, some .range)

/-- HOT CEILING (R127). -/
def Part.judgeHotCeiling (p : Part) (arg : Nat) (v : ValveId) : Judged :=
  let h := (p.channel v).heat
  if arg ≤ h.warmCeiling then ((p.setHeat v { h with hotCeiling := arg }).recomputeIn v .hot, none)
  else (p, some .range)

/-- ARM TRACE (R115). -/
def Part.judgeArmTrace (p : Part) (v : ValveId) : Judged :=
  if p.analyzer.trace = .idle then (p.setAnalyzer { p.analyzer with trace := .armed v }, none) else (p, some .busy)

/-- DRY RUN (R70). -/
def Part.judgeDryRun (p : Part) (arg : Nat) (c : CornerId) : Judged :=
  if (p.corner c).state = .idle ∧ (p.channel (compressionValve c)).state.isOffOrFault = true ∧
      (p.channel (reboundValve c)).state.isOffOrFault = true then
    ((p.setCorner c { p.corner c with dryRun := arg == 1 }), none)
  else (p, some .wrongState)

/-- AXLE PAIRING (R67). -/
def Part.judgeAxlePairing (p : Part) (arg : Nat) : Judged := (p.setPairing (arg == 1), none)

/-- The READY mode of an argument. -/
def readyModeOf : Nat → ReadyMode
  | 0 => .all
  | 1 => .any
  | 2 => .front
  | _ => .rear

/-- READY MODE (R138, R162). -/
def Part.judgeReadyMode (p : Part) (arg : Nat) : Judged :=
  ((p.setSetup { p.setup with readyMode := readyModeOf arg }).setLines
    { p.lines with mode := readyModeOf arg, ready := readyOutput (readyModeOf arg) p.lines.reported }, none)

/-- ATTN THRESHOLD (R138, R160). -/
def Part.judgeAttnThreshold (p : Part) (arg : Nat) : Judged :=
  ((p.setSetup { p.setup with attnThreshold := arg }).setJournal
    (Journal.driveAttn { p.journal with threshold := arg }), none)

/-! ## RESTART (R139) -/

/-- A demand slot at RESTART, apart from the corners' flushes (R19). -/
def DemandSlot.restarted (d : DemandSlot) : DemandSlot :=
  if d.state = .filling then { d with state := .free, staging := Vector.replicate 12 .clear } else d

/-- An urgent slot at RESTART, apart from the corners' flushes (R55). -/
def UrgentSlot.restarted (d : UrgentSlot) : UrgentSlot :=
  if d.state = .filling then { d with state := .free, staging := Vector.replicate 12 .clear } else d

/-- A corner after its flush: the RESTART values (R57). -/
def Corner.restarted (safe : Bool) : Corner := { Corner.reset with state := if safe then .safe else .idle }

/-- The flush of a corner at RESTART, at the frame current at it before (R19, R55). -/
def Part.restartFlush (p : Part) (c : CornerId) : Part := (p.flushList c .restart).flushHold c .restart

/-- A Heat Monitor at RESTART (R129). -/
def Heat.restarted (h : Heat) : Heat := { Heat.reset with index := h.index, level := h.level }

/-- A channel at RESTART (R35, R53, R106). -/
def Channel.restarted (ch : Channel) : Channel :=
  { Channel.reset with
    state := if ch.state.isFault then ch.state else .off
    tunedGain := ch.tunedGain
    measured := ch.measured
    heat := ch.heat.restarted }

/-- Whether RESTART drops an item in hand (R154). -/
def ItemKind.dropped : ItemKind → Bool
  | .journal => true
  | .trace => true
  | .urgent _ => false
  | .demand _ => false
  | .map _ => false
  | .reply => false

/-- The Write-Back Engine at RESTART (R154). -/
def Engine.restarted (e : Engine) : Engine :=
  { e with
    trace := false
    hand := match e.hand with
      | some it => if it.kind.dropped then none else some it
      | none => none }

/-- The Journal Unit at RESTART: emptied, with the RESTART entry staged, and ATTN evaluated (R159, R160). -/
def Journal.restarted : Journal := (Journal.reset.hand .restart 0).driveAttn

/-- RESTART (R139): each block's own RESTART; the corners' flushes in the order given (R19, log 4). -/
def Part.restart (p : Part) (order : List Nat) : Part :=
  let q := (arrange order allCorners).foldl Part.restartFlush p
  { q with
    demand := q.demand.map DemandSlot.restarted
    urgent := q.urgent.map UrgentSlot.restarted
    timer := .reset
    corners := Vector.replicate 4 (Corner.restarted q.lines.safe)
    pairing := true
    channels := q.channels.map Channel.restarted
    analyzer := .reset
    setup := { q.setup with readyMode := .all, attnThreshold := 1 }
    engine := q.engine.restarted
    journal := .restarted
    lines := { q.lines with reported := Vector.replicate 4 false, mode := .all, ready := false } }

/-! ## Judging a command (R133, R135, R137) -/

/-- The valve and the corner of a target's bit position. -/
def valveOf (t : Nat) : ValveId := ⟨t % 8, Nat.mod_lt _ (by decide)⟩

def cornerAt (t : Nat) : CornerId := ⟨t % 4, Nat.mod_lt _ (by decide)⟩

/-- A target judged at its owner by the conditions of its kind. -/
def Part.judgeOwner (p : Part) (k : Kind) (arg : Nat) (order : List Nat) (t : Nat) : Judged :=
  match k with
  | .framePeriod => p.judgeFramePeriod arg
  | .startFrames => p.judgeStartFrames
  | .runCorners => p.judgeRunCorner (cornerAt t)
  | .idleCorners => p.judgeIdleCorner (cornerAt t)
  | .enableValves => p.judgeEnable (valveOf t)
  | .disableValves => p.judgeDisable (valveOf t)
  | .clearFault => p.judgeClearFault (valveOf t)
  | .retune => p.judgeRetune (valveOf t)
  | .promoteMap => p.judgePromote (valveOf t)
  | .limpFirmness => p.judgeLimpFirmness arg (cornerAt t)
  | .limpRamp => p.judgeLimpRamp arg (cornerAt t)
  | .silenceLimit => p.judgeSilenceLimit arg (cornerAt t)
  | .watermarks => p.judgeWatermarks arg (cornerAt t)
  | .settleTimeout => p.judgeSettleTimeout arg (valveOf t)
  | .searchReach => p.judgeSearchReach arg (valveOf t)
  | .warmLevel => p.judgeWarmLevel arg (valveOf t)
  | .hotLevel => p.judgeHotLevel arg (valveOf t)
  | .warmCeiling => p.judgeWarmCeiling arg (valveOf t)
  | .hotCeiling => p.judgeHotCeiling arg (valveOf t)
  | .armTrace => p.judgeArmTrace (valveOf t)
  | .dryRun => p.judgeDryRun arg (cornerAt t)
  | .axlePairing => p.judgeAxlePairing arg
  | .readyMode => p.judgeReadyMode arg
  | .attnThreshold => p.judgeAttnThreshold arg
  | .restart => (p.restart order, none)

/-- A target judged: an argument its kind does not admit is refused RANGE before any other condition (R136). -/
def Part.judgeTarget (p : Part) (k : Kind) (arg : Nat) (order : List Nat) (t : Nat) : Judged :=
  if k.admits arg then p.judgeOwner k arg order t else (p, some .range)

/-- The targets of a command judged one after another. -/
def Part.judgeAll (p : Part) (k : Kind) (arg : Nat) (order : List Nat) : List Nat → Part × List Judgement
  | [] => (p, [])
  | t :: rest =>
    let j := p.judgeTarget k arg order t
    let after := j.1.judgeAll k arg order rest
    (after.1, { target := t, refusal := j.2 } :: after.2)

/-- The refused targets in the mask's own bit positions; a global command names none (log 27). -/
def refusedMask (k : Kind) (js : List Judgement) : BitVec 8 :=
  if k.cls = .global then 0
  else js.foldl (fun m j => if j.refusal.isSome then m ||| BitVec.ofNat 8 (2 ^ j.target) else m) 0

/-- The reason of the lowest-numbered refused target. -/
def lowestReason (js : List Judgement) : Option ReplyReason :=
  [0, 1, 2, 3, 4, 5, 6, 7].findSome? fun t => (js.find? fun j => j.target == t).bind fun j => j.refusal

/-- The result of a command's judgements. -/
def resultOf (js : List Judgement) : ReplyResult :=
  if js.all fun j => j.refusal.isNone then .done
  else if js.any fun j => j.refusal.isNone then .partly
  else .refused

/-- The reply's contents fixed (R137): no target is outstanding, the decoder becomes REPLYING and offers it. -/
def Part.fixReply (p : Part) (js : List Judgement) (r : Reply) : Part :=
  (p.setSetup { p.setup with state := .replying, judgements := js, outstanding := [], reply := some r }).offerReply

/-- A command refused as a whole (R133). -/
def Part.refuseCommand (p : Part) (cmd : Command) (reason : ReplyReason) : Part :=
  p.fixReply []
    { kind := cmd.kind, tag := cmd.tag, result := .refused, refusedMask := 0, reason := some reason }

/-- The judgements that have come back to the decoder (R135, R137): once no target is outstanding the reply is fixed from
them; until then the decoder stays JUDGING. -/
def Part.gather (p : Part) (k : Kind) (cmd : Command) (js : List Judgement) (outstanding : List Nat) : Part :=
  match outstanding with
  | [] =>
    p.fixReply js
      { kind := cmd.kind
        tag := cmd.tag
        result := resultOf js
        refusedMask := refusedMask k js
        reason := lowestReason js }
  | t :: rest => p.setSetup { p.setup with judgements := js, outstanding := t :: rest }

/-- How many of a command's targets reach their owners within the write's own step (R135, log 28): all but the `later`
last. RESTART is taken at once (R139), and the decoder judges READY MODE and ATTN THRESHOLD itself (R138). -/
def Kind.atOnce (k : Kind) (targets later : Nat) : Nat :=
  if k = .restart ∨ k = .readyMode ∨ k = .attnThreshold then targets else targets - later

/-- A dispatched command (R135): its first targets in the order given are judged; the others stay outstanding. -/
def Part.dispatch (p : Part) (k : Kind) (cmd : Command) (order : List Nat) (later : Nat) : Part :=
  let ts := arrange order (k.targets cmd.mask)
  let j := p.judgeAll k cmd.arg.toNat order (ts.take (k.atOnce ts.length later))
  j.1.gather k cmd j.2 (ts.drop (k.atOnce ts.length later))

/-- The next outstanding target reaches its owner (R135): it is judged against the owner's state as it stands now, and
the judgement joins those before it. Nothing happens while no target is outstanding. -/
def Part.judgeNext (p : Part) : Part :=
  match p.setup.state, p.setup.inHand, p.setup.outstanding with
  | .judging, some cmd, t :: rest =>
    match Kind.ofCode cmd.kind.toNat with
    | some k =>
      let j := p.judgeTarget k cmd.arg.toNat [] t
      j.1.gather k cmd (p.setup.judgements ++ [{ target := t, refusal := j.2 }]) rest
    | none => p
  | _, _, _ => p

/-- The next `n` outstanding targets reach their owners. -/
def Part.judgeOutstanding : Nat → Part → Part
  | 0, p => p
  | n + 1, p => p.judgeNext.judgeOutstanding n

/-- The targets of PROMOTE MAP take their place at the Map Store in the order of the command write's grant (R83, R145):
those still outstanding reach it before a write that it captures. -/
def Part.promotionsFirst (p : Part) : Part :=
  match p.setup.inHand with
  | some cmd =>
    if Kind.ofCode cmd.kind.toNat = some .promoteMap then p.judgeOutstanding p.setup.outstanding.length else p
  | none => p

/-- A write to a point word at the Map Store (R75, R145); with no lane enabled nothing is captured. -/
def Part.writePoint (p : Part) (v : ValveId) (w : Nat) (b : Beat) (bad : Lanes) : Part :=
  if b.lanes = 0 then p else p.promotionsFirst.stageMap v w b bad

/-- A full write to word 0 of a Map Block at the Map Store (R76, R145). -/
def Part.writeHeader (p : Part) (v : ValveId) (cw : ClosingWord) : Part := p.promotionsFirst.closeMap v cw

/-- A received command judged as a whole (R133) and dispatched. -/
def Part.judgeCommand (p : Part) (cmd : Command) (lanes bad : Lanes) (order : List Nat) (later : Nat) : Part :=
  let p1 := p.setSetup { p.setup with state := .judging, inHand := some cmd }
  if lanes ≠ 15 then p1.refuseCommand cmd .partialWrite
  else if bad ≠ 0 then p1.refuseCommand cmd .parity
  else
    match Kind.ofCode cmd.kind.toNat with
    | none => p1.refuseCommand cmd .unknownKind
    | some k => if k.targetsOk cmd.mask then p1.dispatch k cmd order later else p1.refuseCommand cmd .target

/-- A command write that is not received (R132). -/
def Part.overrun (p : Part) (cmd : Command) : Part :=
  match p.setup.inHand with
  | some h => p.hand (.setupOverrun cmd.kind cmd.tag h.kind h.tag) p.timer.frame
  | none => p.hand (.setupOverrun cmd.kind cmd.tag 0 0) p.timer.frame

/-- A write to word 0 of the Setup Block (R131, R132). -/
def Part.receiveCommand (p : Part) (b : Beat) (bad : Lanes) (order : List Nat) (later : Nat) : Part :=
  if b.lanes = 0 then p
  else if p.setup.state = .free then p.judgeCommand (commandOf (seenWord b)) b.lanes bad order later
  else p.overrun (commandOf (seenWord b))

/-! ## The journal read index (R141, R142, R158) -/

/-- A taken read index: the entries from R up to it are consumed, an alarm among them is cleared, ATTN is evaluated. -/
def Journal.consume (j : Journal) (x : BitVec 7) : Journal :=
  Journal.driveAttn
    { j with
      read := x
      alarm := match j.alarm with
        | some a => if (a - j.read).toNat < (x - j.read).toNat then none else some a
        | none => none }

/-- Whether a proposed read index lies on the unconsumed span. -/
def Journal.onSpan (j : Journal) (x : Nat) : Bool :=
  decide (x ≤ 127) && decide ((BitVec.ofNat 7 x - j.read).toNat ≤ j.unconsumed)

/-- A read index write that is not taken (R142, log 18). -/
def Part.badReadIndex (p : Part) (cause : IndexFailure) (value : Word) : Part :=
  p.hand (.badReadIndex cause value p.journal.read p.journal.write) p.timer.frame

/-- A write to word 2 of the Setup Block (R141, R142). -/
def Part.readIndexWrite (p : Part) (b : Beat) (bad : Lanes) : Part :=
  if b.lanes = 0 then p
  else if b.lanes ≠ 15 then p.badReadIndex .partialWrite (seenWord b)
  else if bad ≠ 0 then p.badReadIndex .parity (seenWord b)
  else if p.journal.onSpan (field (seenWord b) 0 8) then p.setJournal (p.journal.consume (BitVec.ofNat 7 (field (seenWord b) 0 8)))
  else p.badReadIndex .outOfSpan (seenWord b)

end Sys2Proof.Machine
end

