-- ==== Sys2Proof/Machine/Path.lean ====
section
/-! DEFINITION. The Path Bridge: forwarded writes and reads, the captures of a write by its address, the Status Window
reads, and the commands that are processor accesses of slots, Map Blocks, the read index and plain memory (chapter 10). -/

namespace Sys2Proof.Machine

/-! ## Parity reports (R146, R147) -/

/-- The address of a word as the journal gives it: address lines 23 to 2, with 0 below. -/
def journalAddress (addr : BitVec 22) : BitVec 24 := addr ++ (0 : BitVec 2)

/-- The class of a word address. -/
def Part.classAt (p : Part) (addr : BitVec 22) : AccessClass := p.bridge.classOf addr

/-- A write with bad lanes: the P-side summary and PARITY P (log 17). -/
def Part.reportP (p : Part) (addr : BitVec 22) (bad : Lanes) : Part :=
  if bad = 0 then p
  else
    (p.setBridge { p.bridge with stickyP := true }).hand (.parityP (journalAddress addr) bad (p.classAt addr))
      p.timer.frame

/-- Memory data with bad lanes: the M-side summary and PARITY M (log 17). -/
def Part.reportM (p : Part) (addr : BitVec 22) (bad : Lanes) : Part :=
  if bad = 0 then p
  else
    (p.setBridge { p.bridge with stickyM := true }).hand (.parityM (journalAddress addr) bad (p.classAt addr))
      p.timer.frame

/-! ## Forwarded writes (R144, R145, R146) -/

/-- The state at which a forwarded write reaches its captor: granted, in memory, its parity reported. -/
def State.forwarded (s : State) (addr : BitVec 22) (b : Beat) : State :=
  let g := s.grantAccess
  { g with
    mem := g.mem.writeBeat (byteAddress addr) b
    part := g.part.reportP addr (beatBadLanes g.part.bridge.psense b) }

/-- A forwarded write at a word address, handed with its bad lanes to what captures it. -/
def State.forwardWrite (s : State) (addr : BitVec 22) (b : Beat) (capture : Lanes → Part → Part) : State :=
  let f := s.forwarded addr b
  { f with part := capture (beatBadLanes f.part.bridge.psense b) f.part }

/-- A forwarded write at an offset of the Control Region. -/
def State.regionWrite (s : State) (offset : Nat) (b : Beat) (capture : Lanes → Part → Part) : State :=
  s.forwardWrite (s.part.bridge.wordAddress offset) b capture

/-- The closing word a full write captures. -/
def closingOf (b : Beat) (bad : Lanes) : ClosingWord := { data := b.data, poisoned := bad }

/-- What Slot Capture does with a write to word w of demand slot i (R4 to R8). -/
def Part.captureDemand (p : Part) (i : SlotId) (w : Nat) (b : Beat) (bad : Lanes) : Part :=
  if w < 3 then p.stageDemand i w b bad
  else if w = 3 ∧ b.lanes = 15 then p.closeDemand i (closingOf b bad)
  else p

/-- What Slot Capture does with a write to word w of urgent slot c (R44, R45, R51, R52). -/
def Part.captureUrgent (p : Part) (c : CornerId) (w : Nat) (b : Beat) (bad : Lanes) : Part :=
  if w < 3 then p.stageUrgent c w b bad
  else if w = 3 ∧ b.lanes = 15 then p.closeUrgent c (closingOf b bad)
  else p

/-- What the Map Store does with a write to word w of a Map Block (R75, R76, R145). -/
def Part.captureMap (p : Part) (v : ValveId) (w : Nat) (b : Beat) (bad : Lanes) : Part :=
  if w = 0 then (if b.lanes = 15 then p.writeHeader v (closingOf b bad) else p)
  else if 2 ≤ w ∧ w ≤ 17 then p.writePoint v (w - 2) b bad
  else p

/-- What the Setup Decoder does with a write to word w of the Setup Block (R131, R141); a command's targets reach their
owners in numerical order within the write's step (log 25). -/
def Part.captureSetup (p : Part) (w : Nat) (b : Beat) (bad : Lanes) : Part :=
  if w = 0 then p.receiveCommand b bad [] 0 else if w = 2 then p.readIndexWrite b bad else p

/-- The urgent slot, demand slot and valve whose words stand at an offset. The urgent slots begin at 32 × 8, the demand
slots at 32 × 32, the Map Blocks at 128 × 24. -/
def urgentAt (o : Nat) : CornerId := cornerAt (o / 32)

def demandAt (o : Nat) : SlotId := ⟨(o / 32 + 32) % 64, Nat.mod_lt _ (by decide)⟩

def mapAt (o : Nat) : ValveId := valveOf (o / 128)

/-- What a write at an offset of the Control Region is captured as (R144). -/
def Part.captureAt (p : Part) (o : Nat) (b : Beat) (bad : Lanes) : Part :=
  match classOfOffset o with
  | .setupBlock => p.captureSetup (o / 4) b bad
  | .urgentSlot => p.captureUrgent (urgentAt o) (o / 4 % 8) b bad
  | .demandSlot => p.captureDemand (demandAt o) (o / 4 % 8) b bad
  | .mapBlock => p.captureMap (mapAt o) (o / 4 % 32) b bad
  | .plain => p
  | .statusWindow => p
  | .journalRing => p
  | .traceArea => p

/-- What a write at a word address is captured as. -/
def Part.captureWord (p : Part) (addr : BitVec 22) (b : Beat) (bad : Lanes) : Part :=
  match p.bridge.offset addr with
  | some o => p.captureAt o b bad
  | none => p

/-- A setup command as its row gives it: a write of word 0 of the Setup Block with the kind's code (R131). -/
def State.setupCommand (s : State) (kind : BitVec 8) (w : CommandWrite) : State :=
  s.regionWrite (setupOffset 0) (commandBeat kind w) fun bad p =>
    p.receiveCommand (commandBeat kind w) bad w.order w.later

/-! ## Reads (R147, R148) -/

/-- A forwarded read: memory's word and parity returned unchanged, all four lanes checked. -/
def State.forwardRead (s : State) (addr : BitVec 22) : State :=
  let s1 := s.grantAccess
  let data := s1.mem.word (byteAddress addr)
  let parity := s1.mem.lanesParity (byteAddress addr)
  { s1 with
    part := (s1.part.reportM addr (badLanes s1.part.bridge.psense data parity)).setPort
      { data := data, parity := parity } }

/-- A read of a word of the Status Window: the word as it stands, with good parity; a read of the line word clears
both sticky summaries. -/
def Part.readWindow (p : Part) (w : Fin 64) : Part :=
  let p1 := p.setPort { data := p.statusWord w, parity := goodParity p.bridge.psense (p.statusWord w) }
  let p2 := if w.val = 1 then p1.setBridge { p.bridge with stickyP := false, stickyM := false } else p1
  { p2 with fresh := p.fresh + 1 }

/-- The word of the Status Window at an address. -/
def Part.windowWord (p : Part) (addr : BitVec 22) : Option (Fin 64) :=
  match p.bridge.offset addr with
  | some o =>
    if classOfOffset o = .statusWindow then some ⟨o / 4 % 64, Nat.mod_lt _ (by decide)⟩ else none
  | none => none

/-! ## The commands of the family -/

/-- DEMAND_SLOT_WRITE (R4, R5). -/
def execDemandSlotWrite (i : SlotId) (w : Fin 3) (b : Beat) (s : State) : Host.Outcome State Fault Refusal :=
  .next (s.regionWrite (demandOffset i w.val) b fun bad p => p.stageDemand i w.val b bad)

/-- A full write. -/
def fullBeat (data : Word) (parity : Lanes) : Beat := { lanes := 15, data := data, parity := parity }

/-- DEMAND_CLOSING_WRITE (R7, R8). -/
def execDemandClosingWrite (i : SlotId) (data : Word) (parity : Lanes) (s : State) :
    Host.Outcome State Fault Refusal :=
  .next (s.regionWrite (demandOffset i 3) (fullBeat data parity) fun bad p =>
    p.closeDemand i (closingOf (fullBeat data parity) bad))

/-- URGENT_SLOT_WRITE (R44). -/
def execUrgentSlotWrite (c : CornerId) (w : Fin 3) (b : Beat) (s : State) : Host.Outcome State Fault Refusal :=
  .next (s.regionWrite (urgentOffset c w.val) b fun bad p => p.stageUrgent c w.val b bad)

/-- URGENT_CLOSING_WRITE (R45, R51, R52). -/
def execUrgentClosingWrite (c : CornerId) (data : Word) (parity : Lanes) (s : State) :
    Host.Outcome State Fault Refusal :=
  .next (s.regionWrite (urgentOffset c 3) (fullBeat data parity) fun bad p =>
    p.closeUrgent c (closingOf (fullBeat data parity) bad))

/-- MAP_POINT_WRITE (R75, R83). -/
def execMapPointWrite (v : ValveId) (point : Fin 16) (b : Beat) (s : State) : Host.Outcome State Fault Refusal :=
  .next (s.regionWrite (mapOffset v (point.val + 2)) b fun bad p => p.writePoint v point.val b bad)

/-- MAP_CLOSING_WRITE (R76, R83). -/
def execMapClosingWrite (v : ValveId) (data : Word) (parity : Lanes) (s : State) : Host.Outcome State Fault Refusal :=
  .next (s.regionWrite (mapOffset v 0) (fullBeat data parity) fun bad p =>
    p.writeHeader v (closingOf (fullBeat data parity) bad))

/-- JOURNAL_READ_INDEX (R141, R142). -/
def execJournalReadIndex (b : Beat) (s : State) : Host.Outcome State Fault Refusal :=
  .next (s.regionWrite (setupOffset 2) b fun bad p => p.readIndexWrite b bad)

/-- STATUS_WINDOW_READ (R148): it does not use the M-port. -/
def execStatusWindowRead (w : Fin 64) (s : State) : Host.Outcome State Fault Refusal :=
  .next { s with part := s.part.readWindow w }

/-- FORWARDED_READ (R147): an address of the Status Window is answered by the window (R144, log 25). -/
def execForwardedRead (addr : BitVec 22) (s : State) : Host.Outcome State Fault Refusal :=
  match s.part.windowWord addr with
  | some w => .next { s with part := s.part.readWindow w }
  | none => .next (s.forwardRead addr)

/-- PLAIN_WRITE (R144): a write at a captured word is captured as that word's own command gives it (log 25). -/
def execPlainWrite (addr : BitVec 22) (b : Beat) (s : State) : Host.Outcome State Fault Refusal :=
  .next (s.forwardWrite addr b fun bad p => p.captureWord addr b bad)

end Sys2Proof.Machine
end

