-- ==== Sys2Proof/Machine/Commands.lean ====
section
/-! DEFINITION. The setup commands as rows of the table: each is a write of word 0 of the Setup Block with its kind's
code (10.8). -/

namespace Sys2Proof.Machine

/-- UNKNOWN_KIND_COMMAND (R133): a kind field that names no kind. -/
def execUnknownKindCommand (kind : BitVec 8) (w : CommandWrite) (s : State) : Host.Outcome State Fault Refusal :=
  .next (s.setupCommand kind w)

/-- FRAME_PERIOD (R21). -/
def execFramePeriod (w : CommandWrite) (s : State) : Host.Outcome State Fault Refusal := .next (s.setupCommand 1 w)

/-- START_FRAMES (R21). -/
def execStartFrames (w : CommandWrite) (s : State) : Host.Outcome State Fault Refusal := .next (s.setupCommand 2 w)

/-- RUN_CORNERS (R58). -/
def execRunCorners (w : CommandWrite) (s : State) : Host.Outcome State Fault Refusal := .next (s.setupCommand 3 w)

/-- IDLE_CORNERS (R59). -/
def execIdleCorners (w : CommandWrite) (s : State) : Host.Outcome State Fault Refusal := .next (s.setupCommand 4 w)

/-- ENABLE_VALVES (R88). -/
def execEnableValves (w : CommandWrite) (s : State) : Host.Outcome State Fault Refusal := .next (s.setupCommand 5 w)

/-- DISABLE_VALVES (R99). -/
def execDisableValves (w : CommandWrite) (s : State) : Host.Outcome State Fault Refusal := .next (s.setupCommand 6 w)

/-- CLEAR_FAULT (R103). -/
def execClearFault (w : CommandWrite) (s : State) : Host.Outcome State Fault Refusal := .next (s.setupCommand 7 w)

/-- RETUNE (R93). -/
def execRetune (w : CommandWrite) (s : State) : Host.Outcome State Fault Refusal := .next (s.setupCommand 8 w)

/-- PROMOTE_MAP (R82). -/
def execPromoteMap (w : CommandWrite) (s : State) : Host.Outcome State Fault Refusal := .next (s.setupCommand 9 w)

/-- LIMP_FIRMNESS (R62). -/
def execLimpFirmness (w : CommandWrite) (s : State) : Host.Outcome State Fault Refusal := .next (s.setupCommand 10 w)

/-- LIMP_RAMP (R62). -/
def execLimpRamp (w : CommandWrite) (s : State) : Host.Outcome State Fault Refusal := .next (s.setupCommand 11 w)

/-- SILENCE_LIMIT (R63). -/
def execSilenceLimit (w : CommandWrite) (s : State) : Host.Outcome State Fault Refusal := .next (s.setupCommand 12 w)

/-- WATERMARKS (R32). -/
def execWatermarks (w : CommandWrite) (s : State) : Host.Outcome State Fault Refusal := .next (s.setupCommand 13 w)

/-- SETTLE_TIMEOUT (R98). -/
def execSettleTimeout (w : CommandWrite) (s : State) : Host.Outcome State Fault Refusal := .next (s.setupCommand 14 w)

/-- SEARCH_REACH (R112). -/
def execSearchReach (w : CommandWrite) (s : State) : Host.Outcome State Fault Refusal := .next (s.setupCommand 15 w)

/-- WARM_LEVEL (R126). -/
def execWarmLevel (w : CommandWrite) (s : State) : Host.Outcome State Fault Refusal := .next (s.setupCommand 16 w)

/-- HOT_LEVEL (R126). -/
def execHotLevel (w : CommandWrite) (s : State) : Host.Outcome State Fault Refusal := .next (s.setupCommand 17 w)

/-- WARM_CEILING (R127). -/
def execWarmCeiling (w : CommandWrite) (s : State) : Host.Outcome State Fault Refusal := .next (s.setupCommand 18 w)

/-- HOT_CEILING (R127). -/
def execHotCeiling (w : CommandWrite) (s : State) : Host.Outcome State Fault Refusal := .next (s.setupCommand 19 w)

/-- ARM_TRACE (R115). -/
def execArmTrace (w : CommandWrite) (s : State) : Host.Outcome State Fault Refusal := .next (s.setupCommand 20 w)

/-- DRY_RUN (R70). -/
def execDryRun (w : CommandWrite) (s : State) : Host.Outcome State Fault Refusal := .next (s.setupCommand 21 w)

/-- AXLE_PAIRING (R67). -/
def execAxlePairing (w : CommandWrite) (s : State) : Host.Outcome State Fault Refusal := .next (s.setupCommand 22 w)

/-- READY_MODE (R138). -/
def execReadyMode (w : CommandWrite) (s : State) : Host.Outcome State Fault Refusal := .next (s.setupCommand 23 w)

/-- ATTN_THRESHOLD (R138). -/
def execAttnThreshold (w : CommandWrite) (s : State) : Host.Outcome State Fault Refusal := .next (s.setupCommand 24 w)

/-- RESTART (R139). -/
def execRestart (w : CommandWrite) (s : State) : Host.Outcome State Fault Refusal := .next (s.setupCommand 25 w)

end Sys2Proof.Machine
end

