-- ==== Sys2Proof/Machine/LineEvents.lean ====
section
/-! DEFINITION. RESETN and the SAFE line (R57, R68, R69, R143, R161). -/

namespace Sys2Proof.Machine

/-- The part at RESETN release: every block at its RESETN values, the straps latched, the first line samples taken
without an event, and every corner in SAFE when SAFE is asserted. The free-value counter is the model's own. -/
def Part.released (region : BitVec 4) (psense : ParitySense) (safe : Bool) (dflt : BitVec 8) (fresh : Nat) : Part :=
  { Part.reset with
    bridge := { Bridge.reset with region := region, psense := psense }
    corners := Vector.replicate 4 (Corner.restarted safe)
    lines := { Lines.reset with safe := safe, dflt := Vector.ofFn fun v : Fin 8 => dflt.getLsbD v.val }
    fresh := fresh }

/-- RESETN (R143): memory keeps what it holds. -/
def execResetn (region : BitVec 4) (psense : ParitySense) (safe : Bool) (dflt : BitVec 8) (s : State) :
    Host.Outcome State Fault Refusal :=
  .next { s with part := .released region psense safe dflt s.part.fresh }

/-- The SAFE assertion at a channel: PREPARE, TUNE and TRACK go OFF (R68, R100, R104). -/
def Part.safeChannel (p : Part) (v : ValveId) : Part :=
  if (p.channel v).state.isOffOrFault then p
  else (p.stopChannel v .off).handChange v (p.channel v).state.name .safe

/-- A block that a SAFE assertion reaches. -/
def Part.safeBlock (p : Part) : CornerId ⊕ ValveId → Part
  | .inl c => p.enterSafe c
  | .inr v => p.safeChannel v

/-- The blocks a SAFE assertion reaches: every Corner Controller and every Valve Channel (R161). -/
def safeBlocks : List (CornerId ⊕ ValveId) := allCorners.map Sum.inl ++ allValves.map Sum.inr

/-- The sampled SAFE level set. -/
def Part.setSafe (p : Part) (asserted : Bool) : Part := p.setLines { p.lines with safe := asserted }

/-- SAFE_ASSERTION (R68): the level and every block's response, as one event; the order among the blocks is open
(log 4). -/
def execSafeAssertion (order : List Nat) (s : State) : Host.Outcome State Fault Refusal :=
  .next { s with
    part :=
      if s.part.lines.safe then s.part
      else (arrange order safeBlocks).foldl Part.safeBlock (s.part.setSafe true) }

/-- SAFE_RELEASE (R69). -/
def execSafeRelease (order : List Nat) (s : State) : Host.Outcome State Fault Refusal :=
  .next { s with
    part :=
      if s.part.lines.safe then (arrange order allCorners).foldl Part.exitSafe (s.part.setSafe false) else s.part }

end Sys2Proof.Machine
end

