-- ==== Sys2Proof/Machine/Dispatch.lean ====
section
/-! DEFINITION. One arm for each command: its meaning, called directly. -/

namespace Sys2Proof.Machine

/-- A command's effect on everything but the queue. -/
def exec (i : Instr) (s : State) : Host.Outcome State Fault Refusal :=
  match i with
  | .resetn region psense safe dflt => Sys2Proof.Machine.execResetn region psense safe dflt s
  | .safeAssertion order => Sys2Proof.Machine.execSafeAssertion order s
  | .safeRelease order => Sys2Proof.Machine.execSafeRelease order s
  | .driverLine v asserted => Sys2Proof.Machine.execDriverLine v asserted s
  | .demandSlotWrite slot word beat => Sys2Proof.Machine.execDemandSlotWrite slot word beat s
  | .demandClosingWrite slot data parity => Sys2Proof.Machine.execDemandClosingWrite slot data parity s
  | .urgentSlotWrite c word beat => Sys2Proof.Machine.execUrgentSlotWrite c word beat s
  | .urgentClosingWrite c data parity => Sys2Proof.Machine.execUrgentClosingWrite c data parity s
  | .mapPointWrite v point beat => Sys2Proof.Machine.execMapPointWrite v point beat s
  | .mapClosingWrite v data parity => Sys2Proof.Machine.execMapClosingWrite v data parity s
  | .unknownKindCommand kind w => Sys2Proof.Machine.execUnknownKindCommand kind w s
  | .framePeriod w => Sys2Proof.Machine.execFramePeriod w s
  | .startFrames w => Sys2Proof.Machine.execStartFrames w s
  | .runCorners w => Sys2Proof.Machine.execRunCorners w s
  | .idleCorners w => Sys2Proof.Machine.execIdleCorners w s
  | .enableValves w => Sys2Proof.Machine.execEnableValves w s
  | .disableValves w => Sys2Proof.Machine.execDisableValves w s
  | .clearFault w => Sys2Proof.Machine.execClearFault w s
  | .retune w => Sys2Proof.Machine.execRetune w s
  | .promoteMap w => Sys2Proof.Machine.execPromoteMap w s
  | .limpFirmness w => Sys2Proof.Machine.execLimpFirmness w s
  | .limpRamp w => Sys2Proof.Machine.execLimpRamp w s
  | .silenceLimit w => Sys2Proof.Machine.execSilenceLimit w s
  | .watermarks w => Sys2Proof.Machine.execWatermarks w s
  | .settleTimeout w => Sys2Proof.Machine.execSettleTimeout w s
  | .searchReach w => Sys2Proof.Machine.execSearchReach w s
  | .warmLevel w => Sys2Proof.Machine.execWarmLevel w s
  | .hotLevel w => Sys2Proof.Machine.execHotLevel w s
  | .warmCeiling w => Sys2Proof.Machine.execWarmCeiling w s
  | .hotCeiling w => Sys2Proof.Machine.execHotCeiling w s
  | .armTrace w => Sys2Proof.Machine.execArmTrace w s
  | .dryRun w => Sys2Proof.Machine.execDryRun w s
  | .axlePairing w => Sys2Proof.Machine.execAxlePairing w s
  | .readyMode w => Sys2Proof.Machine.execReadyMode w s
  | .attnThreshold w => Sys2Proof.Machine.execAttnThreshold w s
  | .restart w => Sys2Proof.Machine.execRestart w s
  | .journalReadIndex beat => Sys2Proof.Machine.execJournalReadIndex beat s
  | .statusWindowRead word => Sys2Proof.Machine.execStatusWindowRead word s
  | .forwardedRead addr => Sys2Proof.Machine.execForwardedRead addr s
  | .plainWrite addr beat => Sys2Proof.Machine.execPlainWrite addr beat s
  | .frameBoundary => Sys2Proof.Machine.execFrameBoundary s
  | .cornerFrameBoundary c => Sys2Proof.Machine.execCornerFrameBoundary c s
  | .silenceExpiry c => Sys2Proof.Machine.execSilenceExpiry c s
  | .holdExpiry c => Sys2Proof.Machine.execHoldExpiry c s
  | .partnerNotice c => Sys2Proof.Machine.execPartnerNotice c s
  | .channelFrameBoundary v => Sys2Proof.Machine.execChannelFrameBoundary v s
  | .setpointRampEnd v => Sys2Proof.Machine.execSetpointRampEnd v s
  | .releaseEnd v => Sys2Proof.Machine.execReleaseEnd v s
  | .rampRequest v => Sys2Proof.Machine.execRampRequest v s
  | .overrideEnd v => Sys2Proof.Machine.execOverrideEnd v s
  | .testCurrentReach v x => Sys2Proof.Machine.execTestCurrentReach v x s
  | .prepareTimeout v => Sys2Proof.Machine.execPrepareTimeout v s
  | .resistanceMeasurementEnd v x => Sys2Proof.Machine.execResistanceMeasurementEnd v x s
  | .prepareEnd v => Sys2Proof.Machine.execPrepareEnd v s
  | .settleSuccess v x => Sys2Proof.Machine.execSettleSuccess v x s
  | .settleMiss v => Sys2Proof.Machine.execSettleMiss v s
  | .heatUpdate v => Sys2Proof.Machine.execHeatUpdate v s
  | .queueLook => Sys2Proof.Machine.execQueueLook s
  | .preDriveEnd => Sys2Proof.Machine.execPreDriveEnd s
  | .trialEnd x => Sys2Proof.Machine.execTrialEnd x s
  | .captureEnd x => Sys2Proof.Machine.execCaptureEnd x s
  | .engineItemChoice => Sys2Proof.Machine.execEngineItemChoice s
  | .engineWordWrite => Sys2Proof.Machine.execEngineWordWrite s
  | .coilCurrentSample v x => Sys2Proof.Machine.execCoilCurrentSample v x s

end Sys2Proof.Machine
end

