-- ==== Sys2Proof/Machine/Step.lean ====
section
/-! DEFINITION. A step: the command at the front of the queue is taken and performed; on an empty queue the next
outstanding target of the setup command in hand reaches its owner. -/

namespace Sys2Proof.Machine

/-- A step. On an empty queue the next outstanding target of the command in hand is judged at its owner (R135, log 28);
with none outstanding the block idles and stays as it is (log 1). -/
def step (s : State) : Host.Outcome State Fault Refusal :=
  match s.pending with
  | [] => .next { s with part := s.part.judgeNext }
  | c :: rest => exec c { s with pending := rest }

/-- The command a word spells put at the front of the queue; no word spells one (log 24). -/
def State.withFetchWord (s : State) (nbits w : Nat) : State :=
  match decodeTableWord nbits w with
  | some c => { s with pending := c :: s.pending }
  | none => s

end Sys2Proof.Machine
end

