-- ==== Sys2Proof/Safety.lean ====
section
/-! DEFINITION. The words the statements are made of: which command writes what where, how a setup command meets the
decoder and is answered, what entry to LIMP and to FAULT leave, and the properties that every step keeps. -/

namespace Sys2Proof

/-! ## Target masks -/

/-- The mask names valve v alone (R134). -/
def CommandWrite.namesValve (w : CommandWrite) (v : ValveId) : Prop := ∀ u : ValveId, w.mask.getLsbD u.val = (u == v)

/-- The low four bits of the mask name corner c alone (R134). -/
def CommandWrite.namesCorner (w : CommandWrite) (c : CornerId) : Prop :=
  ∀ d : CornerId, w.mask.getLsbD d.val = (d == c)

end Sys2Proof

namespace Sys2Proof.Machine

/-! ## Commands as writes -/

/-- The kind code and the write of a setup command's row; none for the other rows (10.8). -/
def setupRow : Instr → Option (BitVec 8 × CommandWrite)
  | .unknownKindCommand kind w => some (kind, w)
  | .framePeriod w => some (1, w)
  | .startFrames w => some (2, w)
  | .runCorners w => some (3, w)
  | .idleCorners w => some (4, w)
  | .enableValves w => some (5, w)
  | .disableValves w => some (6, w)
  | .clearFault w => some (7, w)
  | .retune w => some (8, w)
  | .promoteMap w => some (9, w)
  | .limpFirmness w => some (10, w)
  | .limpRamp w => some (11, w)
  | .silenceLimit w => some (12, w)
  | .watermarks w => some (13, w)
  | .settleTimeout w => some (14, w)
  | .searchReach w => some (15, w)
  | .warmLevel w => some (16, w)
  | .hotLevel w => some (17, w)
  | .warmCeiling w => some (18, w)
  | .hotCeiling w => some (19, w)
  | .armTrace w => some (20, w)
  | .dryRun w => some (21, w)
  | .axlePairing w => some (22, w)
  | .readyMode w => some (23, w)
  | .attnThreshold w => some (24, w)
  | .restart w => some (25, w)
  | _ => none

/-- The word address and the beat of a command that is a processor write; none for the other commands. -/
def writeOf (b : Bridge) : Instr → Option (BitVec 22 × Beat)
  | .demandSlotWrite i w beat => some (b.wordAddress (demandOffset i w.val), beat)
  | .demandClosingWrite i data parity => some (b.wordAddress (demandOffset i 3), fullBeat data parity)
  | .urgentSlotWrite c w beat => some (b.wordAddress (urgentOffset c w.val), beat)
  | .urgentClosingWrite c data parity => some (b.wordAddress (urgentOffset c 3), fullBeat data parity)
  | .mapPointWrite v point beat => some (b.wordAddress (mapOffset v (point.val + 2)), beat)
  | .mapClosingWrite v data parity => some (b.wordAddress (mapOffset v 0), fullBeat data parity)
  | .journalReadIndex beat => some (b.wordAddress (setupOffset 2), beat)
  | .plainWrite addr beat => some (addr, beat)
  | c => (setupRow c).map fun r => (b.wordAddress (setupOffset 0), commandBeat r.1 r.2)

/-- A write at an offset of the Control Region, as it stands in memory with its parity reported, before its captor
acts on it. -/
def State.arrived (s : State) (offset : Nat) (b : Beat) : State := s.forwarded (s.part.bridge.wordAddress offset) b

/-- The bad lanes of a beat, under the latched PSENSE. -/
def State.badOf (s : State) (b : Beat) : Lanes := beatBadLanes s.part.bridge.psense b

/-- The commands of a list performed one after another lead from `s` to `t`. -/
def performs : List Instr → State → State → Prop
  | [], s, t => t = s
  | c :: cs, s, t => ∃ u, exec c s = .next u ∧ performs cs u t

/-! ## Setup commands -/

/-- The state at which a command word reaches the Setup Decoder. -/
def State.commandArrived (s : State) (code : BitVec 8) (w : CommandWrite) : State :=
  s.arrived (setupOffset 0) (commandBeat code w)

/-- The decoder hears this command word whole and finds its lanes good (R131, R133). -/
def State.hears (s : State) (code : BitVec 8) (w : CommandWrite) : Prop :=
  w.lanes = 15 ∧ s.badOf (commandBeat code w) = 0 ∧ (s.commandArrived code w).part.setup.state = .free

/-- The decoder hears this command word, and every target reaches its owner within the write's own step (R135, log 28). -/
def State.receives (s : State) (code : BitVec 8) (w : CommandWrite) : Prop := s.hears code w ∧ w.later = 0

/-- The part that the targets of a received command meet: the command is in hand, being judged (R131). -/
def State.met (s : State) (code : BitVec 8) (w : CommandWrite) : Part :=
  let p := (s.commandArrived code w).part
  { p with
    setup := { p.setup with state := .judging, inHand := some { kind := code, mask := w.mask, tag := w.tag, arg := w.arg } } }

/-- A part whose decoder owes a reply: it is REPLYING, and the reply stands in the engine's reply class (R135, R137). -/
def Part.owing (p : Part) (js : List Judgement) (r : Reply) : Part :=
  { p with
    setup := { p.setup with state := .replying, judgements := js, outstanding := [], reply := some r }
    engine := { p.engine with reply := true } }

/-- The reply that a command's judgements fix (R137). -/
structure Answers (k : Kind) (cmd : Command) (js : List Judgement) (r : Reply) : Prop where
  kind : r.kind = cmd.kind
  tag : r.tag = cmd.tag
  result : r.result =
    if ∀ j ∈ js, j.refusal = none then .done else if ∃ j ∈ js, j.refusal = none then .partly else .refused
  mask : ∀ t, t < 8 → (r.refusedMask.getLsbD t = true ↔ k.cls ≠ .global ∧ ∃ j ∈ js, j.target = t ∧ j.refusal ≠ none)
  noReason : (∀ j ∈ js, j.refusal = none) → r.reason = none
  reason : ∀ j ∈ js, j.refusal ≠ none → (∀ i ∈ js, i.refusal ≠ none → j.target ≤ i.target) → r.reason = j.refusal

/-- `q` is what the decoder makes of the part `p` once the judgements `js` have come back and the targets `rest` are
outstanding (R135, R137): JUDGING goes on while there are any, and then the reply that the judgements fix is owed. -/
def Gathered (k : Kind) (cmd : Command) (js : List Judgement) (rest : List Nat) (p q : Part) : Prop :=
  (rest ≠ [] → q = { p with setup := { p.setup with judgements := js, outstanding := rest } }) ∧
  (rest = [] → ∃ r, Answers k cmd js r ∧ q = p.owing js r)

/-- A received command with the one target `t` taken, whose effects have made the part `p`: the reply is DONE. -/
def State.taken (s : State) (code : BitVec 8) (w : CommandWrite) (t : Nat) (p : Part) : State :=
  { s.commandArrived code w with
    part := p.owing [{ target := t, refusal := none }]
      { kind := code, tag := w.tag, result := .done, refusedMask := 0, reason := none } }

/-- A received command with the one target `t` refused: nothing else changes, and the reply is REFUSED with the reason
and the mask. -/
def State.turnedAway (s : State) (code : BitVec 8) (w : CommandWrite) (t : Nat) (mask : BitVec 8)
    (reason : ReplyReason) : State :=
  { s.commandArrived code w with
    part := (s.met code w).owing [{ target := t, refusal := some reason }]
      { kind := code, tag := w.tag, result := .refused, refusedMask := mask, reason := some reason } }

/-- The outcome of a received command at its one target: turned away when there is a reason, else taken, its effects
having made the part `p`. -/
def State.judged (s : State) (code : BitVec 8) (w : CommandWrite) (t : Nat) (mask : BitVec 8)
    (reason : Option ReplyReason) (p : Part) : State :=
  match reason with
  | some x => s.turnedAway code w t mask x
  | none => s.taken code w t p

/-- The bit of a target in a mask. -/
def targetBit (t : Nat) : BitVec 8 := BitVec.ofNat 8 (2 ^ t)

/-! ## Entry to LIMP and to FAULT -/

/-- The pending entries' slots of a corner flushed with a cause, in a table of slots (R28). -/
def flushedSlots (l : List Entry) (cause : FlushCause) (f : Frame) (t : SlotId → DemandSlot) (i : SlotId) : DemandSlot :=
  if l.any (fun e => e.slot == i) then { t i with state := .retiring, final := some (.flushed cause f) } else t i

/-- What a flush leaves of an urgent slot whose corner has the given hold (R53): the emptied cancel bytes hold 0 (log
15). -/
def flushedUrgent (h : Option Hold) (cause : FlushCause) (f : Frame) (u : UrgentSlot) : UrgentSlot :=
  match h with
  | some _ => { u with state := .owed, final := some (.flushed cause f), cancel := Vector.replicate 12 .clear }
  | none => u

/-- A channel with new values, at which R94 then recomputes the target, R96 the settle timer and R117 the analyzer. -/
def Part.redriven (p : Part) (v : ValveId) (ch : Channel) : Part := (p.setChannel v ch).recompute v

/-- An override drop at a valve (R53): NONE as phase, and no override end on its way any more (log 9). -/
def Part.phaseDropped (p : Part) (v : ValveId) : Part :=
  p.redriven v { p.channel v with phase := .none, ends := [] }

/-- An override drop at both valves of corner c (R60). -/
def Part.dropped (p : Part) (c : CornerId) : Part :=
  (p.phaseDropped (compressionValve c)).phaseDropped (reboundValve c)

/-- A valve sent the limp ramp of corner c for frame f (R36, R39, R61): a request on its way at a RUNNING timer, a step
at a STOPPED one. -/
def Part.valveRamped (p : Part) (c : CornerId) (f : Frame) (v : ValveId) : Part :=
  if p.timer.running = true then
    p.setChannel v
      { p.channel v with
        requests := (p.channel v).requests ++
          [{ target := (p.corner c).limpFirmness, length := (p.corner c).limpRamp, frame := f }] }
  else p.redriven v { p.channel v with setpoint := (p.corner c).limpFirmness, ramp := none, waiting := none }

/-- Both valves of corner c sent its limp ramp for frame f. -/
def Part.limpRamped (p : Part) (c : CornerId) (f : Frame) : Part :=
  (p.valveRamped c f (compressionValve c)).valveRamped c f (reboundValve c)

/-- `q` has the Valve Channels and the Tune Analyzer of `p`. -/
def SameLoops (p q : Part) : Prop := q.channels = p.channels ∧ q.analyzer = p.analyzer

/-- `q` is `p` after corner c left its work with a flush of the given cause (R28, R53, R60): the list and the hold are
flushed, their slots owe the finals, and everything outside the named units, the corners, the Valve Channels, the
analyzer, the Line Monitor and the Journal Unit stands. -/
structure WorkLeft (p q : Part) (c : CornerId) (cause : FlushCause) : Prop where
  slots : ∀ i, q.demandSlot i = flushedSlots (p.corner c).list cause (p.corner c).frame p.demandSlot i
  urgent : ∀ d, q.urgentSlot d =
    if d = c then flushedUrgent (p.corner c).hold cause (p.corner c).frame (p.urgentSlot c) else p.urgentSlot d
  owed : q.engine =
    { p.engine with
      demand := (p.corner c).list.foldl (fun l e => offered l e.slot) p.engine.demand
      urgent := if (p.corner c).hold.isSome = true then offered p.engine.urgent c else p.engine.urgent }
  elsewhere : q.bridge = p.bridge ∧ q.port = p.port ∧ q.timer = p.timer ∧ q.pairing = p.pairing ∧ q.maps = p.maps ∧
    q.setup = p.setup ∧ q.waitCount = p.waitCount ∧ q.fresh = p.fresh

/-- The Line Monitor after corner c reported that it is not ready (R71, R162). -/
def Part.unready (p : Part) (c : CornerId) : Lines :=
  { p.lines with
    reported := p.lines.reported.set c false, ready := readyOutput p.lines.mode (p.lines.reported.set c false) }

/-- `q` is `p` after corner c entered LIMP with the given cause and detail, its limp ramp being for frame f (R60, R61,
R64 to R66, R71, R72): the overrides of both valves dropped (log 9), then the limp ramp sent to both. -/
structure LimpEntered (p q : Part) (c : CornerId) (d : LimpDetail) (f : Frame) : Prop where
  work : WorkLeft p q c .limp
  corner : q.corner c =
    { p.corner c with state := .limp, limpCause := d.cause, list := [], hold := none, ready := false }
  loops : SameLoops ((p.dropped c).limpRamped c f) q
  journal : q.journal = p.journal.hand (.cornerLimp c d) (p.corner c).frame
  partner : q.corner (partnerOf c) =
    if p.pairing = true ∧ d.cause ≠ .partner then
      { p.corner (partnerOf c) with notices := (p.corner (partnerOf c)).notices ++ [{ sender := c, frame := f }] }
    else p.corner (partnerOf c)
  otherCorners : ∀ e, e ≠ c → e ≠ partnerOf c → q.corner e = p.corner e
  lines : q.lines = p.unready c

/-- Valve v is in hand at the analyzer: SEARCHING in the search in hand, or captured in TRACK. -/
abbrev Part.analyzed (p : Part) (v : ValveId) : Prop :=
  ((p.channel v).state = .tune .searching ∧ p.analyzer.state.searchesFor v = true) ∨
    ((p.channel v).state = .track ∧ p.analyzer.state = .capturing v)

/-- The analyzer's trace aborted (R118): a trace being captured is marked ABORTED and WRITING; any other stands. -/
def Analyzer.traceAborted (a : Analyzer) : Analyzer :=
  if a.trace = .capturing then
    { a with trace := .writing, hand := a.hand.map fun t => { t with mark := some .aborted } }
  else a

/-- The analyzer once channel v has left its state (R108, R114, R118): a WAITING valve leaves the Tune Queue; a search in
hand is given up, with its samples; a capture in TRACK ends. -/
def Part.analyzerLeft (p : Part) (v : ValveId) : Analyzer :=
  if (p.channel v).state = .tune .waiting then { p.analyzer with queue := p.analyzer.queue.filter (· ≠ v) }
  else if (p.channel v).state = .tune .searching ∧ p.analyzer.state.searchesFor v = true then
    { p.analyzer with state := .idle, buffer := [] }.traceAborted
  else if (p.channel v).state = .track ∧ p.analyzer.state = .capturing v then
    { p.analyzer with
      state := .writing, trace := .writing, hand := p.analyzer.hand.map fun t => { t with mark := some .aborted } }
  else p.analyzer

/-- `q` is `p` after channel v left its state for another that is not TRACK (R98, R100, R102, R105): the target is 0, the
settle timer stopped, the miss count 0; the corner has evaluated its readiness; the analyzer has let go of the valve, and
a trace it aborted is owed (R119). -/
structure ChannelStopped (p q : Part) (v : ValveId) (entered : ChannelState) : Prop where
  channel : q.channel v = { p.channel v with state := entered, target := 0, settle := none, misses := 0 }
  otherChannels : ∀ u, u ≠ v → q.channel u = p.channel u
  corner : q.corner (cornerOf v) = { p.corner (cornerOf v) with ready := false }
  otherCorners : ∀ c, c ≠ cornerOf v → q.corner c = p.corner c
  lines : q.lines = p.unready (cornerOf v)
  analyzer : q.analyzer = p.analyzerLeft v
  owed : q.engine =
    if p.analyzed v ∧ (p.analyzer.trace = .capturing ∨ (p.channel v).state = .track) then { p.engine with trace := true }
    else p.engine
  elsewhere : q.bridge = p.bridge ∧ q.port = p.port ∧ q.demand = p.demand ∧ q.urgent = p.urgent ∧ q.timer = p.timer ∧
    q.pairing = p.pairing ∧ q.maps = p.maps ∧ q.setup = p.setup ∧ q.waitCount = p.waitCount ∧
    q.journal = p.journal ∧ q.fresh = p.fresh

/-- `q` is `p` after channel v left its state for OFF or FAULT with the given event, and its corner, when it is in RUN,
entered LIMP for the next frame with the given detail (R65, R100, R104, R105). -/
def ChannelLost (p q : Part) (v : ValveId) (entered : ChannelState) (e : Event) (d : LimpDetail) : Prop :=
  ∃ q1, ChannelStopped p q1 v entered ∧
    let q2 : Part := { q1 with journal := q1.journal.hand e (p.channel v).frame }
    if (p.corner (cornerOf v)).state = .run then
      LimpEntered q2 q (cornerOf v) d ((p.corner (cornerOf v)).frame + 1)
    else q = q2

/-- Entry to FAULT: VALVE FAULT handed, then the corner's limp (R102, R105). -/
def FaultEntered (p q : Part) (v : ValveId) (cause : FaultCause) (figure : Nat) : Prop :=
  ChannelLost p q v (.fault cause) (.valveFault v cause (p.channel v).state.name figure) (.valveFault v cause)

/-! ## What every step keeps -/

/-- ATTN and READY are driven as R160 and R162 say, from readiness as R71 says; the Line Monitor and the Journal Unit
hold what the decoder last handed them. -/
structure OutputsDriven (p : Part) : Prop where
  attn : p.journal.attn = p.journal.attnCondition
  ready : ∀ c, (p.corner c).ready = p.readyCondition c
  reported : ∀ c : CornerId, p.lines.reported[c] = (p.corner c).ready
  output : p.lines.ready = readyOutput p.lines.mode p.lines.reported
  mode : p.setup.readyMode = p.lines.mode
  threshold : p.setup.attnThreshold = p.journal.threshold

/-- The target current that a channel state calls for (R87): in TRACK the lesser of the map at the drive firmness and
the ceiling in force; in SEARCHING the trial current of the search in hand. -/
def Part.targetRule (p : Part) (v : ValveId) : Prop :=
  match (p.channel v).state with
  | .off => (p.channel v).target = 0
  | .fault _ => (p.channel v).target = 0
  | .prepare _ => (p.channel v).target = 250
  | .tune .waiting => (p.channel v).target = 0
  | .tune .searching =>
    match p.analyzer.state with
    | .searching { valve := _, gain := _, phase := .preDrive _, best := _ } => (p.channel v).target = 200
    | .searching { valve := _, gain := _, phase := .step, best := _ } => (p.channel v).target = 800
    | .idle => False
    | .capturing _ => False
    | .writing => False
  | .track => (p.channel v).target = p.currentAt v (p.channel v).drive

/-- The current loops and the analyzer agree (R81, R87, R91, R92, R97, R98, R107, R108). -/
structure LoopCoherent (p : Part) : Prop where
  target : ∀ v, p.targetRule v
  queueOnce : p.analyzer.queue.Nodup
  queued : ∀ v, v ∈ p.analyzer.queue ↔ (p.channel v).state = .tune .waiting
  searching : ∀ v, (p.channel v).state = .tune .searching ↔ p.analyzer.state.searchesFor v = true
  settling : ∀ v, (p.channel v).settle.isSome = true → (p.channel v).state = .track
  mapped : ∀ v, (p.channel v).state.isOffOrFault = false → (p.map v).active.isSome = true
  tuned : ∀ v, (p.channel v).state = .track → (p.channel v).tunedGain.isSome = true

/-- While SAFE is asserted every corner is in SAFE and no channel is in PREPARE, TUNE or TRACK; no corner is in SAFE
otherwise (R68, R69). -/
structure SafeHeld (p : Part) : Prop where
  corners : ∀ c, (p.corner c).state = .safe ↔ p.lines.safe = true
  channels : p.lines.safe = true → ∀ v, (p.channel v).state.isOffOrFault = true

/-- Pending Lists, holds and limp causes stand with the corner states (R24 to R26, R39, R46, R56, R60). -/
structure CornersOrdered (p : Part) : Prop where
  idleEmpty : ∀ c, (p.corner c).state ≠ .run → (p.corner c).list = [] ∧ (p.corner c).hold = none
  runsOnFrames : ∀ c, (p.corner c).state = .run → p.timer.running = true
  limpCause : ∀ c, (p.corner c).limpCause = .none ↔ (p.corner c).state ≠ .limp
  atMostEight : ∀ c, (p.corner c).list.length ≤ 8
  inWindow : ∀ c, ∀ e ∈ (p.corner c).list, 1 ≤ ahead e.target (p.corner c).frame ∧ ahead e.target (p.corner c).frame ≤ 64
  sorted : ∀ c, (p.corner c).list.Pairwise fun a b => ahead a.target (p.corner c).frame ≤ ahead b.target (p.corner c).frame
  distinct : ∀ c, ((p.corner c).list.map fun e => e.sequence).Nodup
  hold : ∀ c, (p.urgentSlot c).state = .active ↔ (p.corner c).hold.isSome = true

/-- The slots of all Pending Lists, corner by corner. -/
def Part.listedSlots (p : Part) : List SlotId := allCorners.flatMap fun c => (p.corner c).list.map fun e => e.slot

/-- Each HELD slot is named by exactly one Pending List entry, and only HELD slots are named (R18). -/
structure SlotsListed (p : Part) : Prop where
  once : p.listedSlots.Nodup
  held : ∀ i, i ∈ p.listedSlots ↔ (p.demandSlot i).state = .held

/-- Final dispositions stand with the slot states that owe them (R3, R14, R43, R54), and a final's polled word is the last
of the item in hand and still owed (R151, R153). -/
structure FinalsOwed (p : Part) : Prop where
  demand : ∀ i, (p.demandSlot i).final.isSome = true ↔
    (p.demandSlot i).state = .retiring ∨ (p.demandSlot i).state = .refusing
  urgent : ∀ c, (p.urgentSlot c).final.isSome = true ↔ (p.urgentSlot c).state = .owed
  demandInHand : ∀ it l w r i, p.engine.hand = some it → it.words = l ++ w :: r → w.notice = some (.demandFinal i) →
    r = [] ∧ (p.demandSlot i).final.isSome = true
  urgentInHand : ∀ it l w r c, p.engine.hand = some it → it.words = l ++ w :: r → w.notice = some (.urgentFinal c) →
    r = [] ∧ (p.urgentSlot c).final.isSome = true

/-- The Setup Decoder holds what its state calls for (R130, R131, R135, R137): a command in hand unless it is FREE; in
JUDGING outstanding targets, which are with the judged ones those that the command names; in REPLYING the reply, which
waits in the engine's reply class or as the last word of the item in hand. -/
structure DecoderOrdered (p : Part) : Prop where
  free : p.setup.state = .free ↔ p.setup.inHand = none
  judging : p.setup.state = .judging ↔ p.setup.outstanding ≠ []
  replying : p.setup.state = .replying ↔ p.setup.reply.isSome = true
  named : p.setup.state = .judging → ∃ cmd k, p.setup.inHand = some cmd ∧ Kind.ofCode cmd.kind.toNat = some k ∧
    (p.setup.judgements.map (fun j => j.target) ++ p.setup.outstanding).Perm (k.targets cmd.mask)
  owed : p.setup.state = .replying →
    p.engine.reply = true ∨ ∃ it w, p.engine.hand = some it ∧ w ∈ it.words ∧ w.notice = some .reply
  offered : p.engine.reply = true →
    p.setup.state = .replying ∧ ∀ it w, p.engine.hand = some it → w ∈ it.words → w.notice ≠ some .reply
  inHand : ∀ it l w r, p.engine.hand = some it → it.words = l ++ w :: r → w.notice = some .reply →
    r = [] ∧ p.setup.state = .replying

/-- The settings keep the orders that R32 and R121 state, and every active map is well formed (R84). -/
structure SettingsOrdered (p : Part) : Prop where
  watermarks : ∀ c, (p.corner c).lowMark < (p.corner c).highMark ∧ (p.corner c).highMark ≤ 8
  levels : ∀ v, (p.channel v).heat.warmLevel < (p.channel v).heat.hotLevel ∧ (p.channel v).heat.hotLevel ≤ 65520
  ceilings : ∀ v, (p.channel v).heat.hotCeiling ≤ (p.channel v).heat.warmCeiling ∧ (p.channel v).heat.warmCeiling ≤ 2000
  active : ∀ v pts, (p.map v).active = some pts →
    2 ≤ pts.length ∧ pts.length ≤ 16 ∧ wellShaped pts = true ∧ ∀ q ∈ pts, q.current ≤ 2000
  pending : ∀ v, (p.map v).state = .valid →
    2 ≤ (p.map v).pendingPoints.length ∧ (p.map v).pendingPoints.length ≤ 16 ∧
      wellShaped (p.map v).pendingPoints = true ∧ ∀ q ∈ (p.map v).pendingPoints, q.current ≤ 2000

end Sys2Proof.Machine
end

