-- ==== Sys2Proof/WellFormed.lean ====
section
/-! DEFINITION. Which commands the senders can send: the limits that the operand types do not already carry. Every
meaning is total, so an ill-formed command runs as well; a statement that needs one of these limits names it. -/

namespace Sys2Proof

/-- Codes 1 to 25 name the command kinds (10.8). -/
def namesKind (code : BitVec 8) : Bool :=
  decide (1 ≤ code.toNat ∧ code.toNat ≤ 25)

/-- The current sense carries 0 to 2500 mA and the voltage sense 0 to 25 V (11.6). -/
def Sample.wellFormed (x : Sample) : Bool :=
  decide (x.current.toNat ≤ 2500) && decide (x.voltage.toNat ≤ 25000)

/-- A command is well-formed when an unknown kind is no known one, and a sample lies in the sensed range. -/
def Instr.wellFormed : Instr → Bool
  | .unknownKindCommand kind _ => !namesKind kind
  | .testCurrentReach _ x => x.wellFormed
  | .resistanceMeasurementEnd _ x => x.wellFormed
  | .settleSuccess _ x => x.wellFormed
  | .trialEnd x => x.wellFormed
  | .captureEnd x => x.wellFormed
  | .coilCurrentSample _ x => x.wellFormed
  | .resetn _ _ _ _ | .safeAssertion _ | .safeRelease _ | .driverLine _ _ => true
  | .demandSlotWrite _ _ _ | .demandClosingWrite _ _ _ | .urgentSlotWrite _ _ _ | .urgentClosingWrite _ _ _ => true
  | .mapPointWrite _ _ _ | .mapClosingWrite _ _ _ => true
  | .framePeriod _ | .startFrames _ | .runCorners _ | .idleCorners _ | .enableValves _ | .disableValves _ => true
  | .clearFault _ | .retune _ | .promoteMap _ | .limpFirmness _ | .limpRamp _ | .silenceLimit _ | .watermarks _ => true
  | .settleTimeout _ | .searchReach _ | .warmLevel _ | .hotLevel _ | .warmCeiling _ | .hotCeiling _ => true
  | .armTrace _ | .dryRun _ | .axlePairing _ | .readyMode _ | .attnThreshold _ | .restart _ => true
  | .journalReadIndex _ | .statusWindowRead _ | .forwardedRead _ | .plainWrite _ _ => true
  | .frameBoundary | .cornerFrameBoundary _ | .silenceExpiry _ | .holdExpiry _ | .partnerNotice _ => true
  | .channelFrameBoundary _ | .setpointRampEnd _ | .releaseEnd _ | .rampRequest _ | .overrideEnd _ => true
  | .prepareTimeout _ | .prepareEnd _ | .settleMiss _ | .heatUpdate _ => true
  | .queueLook | .preDriveEnd | .engineItemChoice | .engineWordWrite => true

end Sys2Proof
end

