-- ==== Sys2Proof/Certificates/Slice0/Obligations.lean ====
section
/-! DEFINITION. The statements. A statement that writes `s.arrived offset b` speaks of the state in which a processor's
write has been granted, stands in memory and has had its parity reported; ForwardedWrite says what that is. -/

open Sys2Proof Sys2Proof.Machine

/-! ## A step -/

/-- A step takes the command at the front of the queue and is that command's effect on the state with the queue's rest; on
an empty queue the next outstanding target of the setup command in hand is judged (R135, log 28), and with none
outstanding the block idles; what an empty queue does is the model's choice (log 1). -/
def Obligations.StepPerformsTheFrontCommand : Prop :=
  (∀ (c : Instr) (rest : List Instr) (s : State), s.pending = c :: rest → step s = exec c { s with pending := rest }) ∧
  (∀ s : State, s.pending = [] → step s = .next { s with part := s.part.judgeNext }) ∧
  (∀ s : State, s.pending = [] → s.part.setup.state ≠ .judging ∨ s.part.setup.outstanding = [] → step s = .next s)

/-- Every command has an effect, whatever the state and the operands, and leaves the queue as it is. -/
def Obligations.EveryCommandAnswers : Prop :=
  ∀ (c : Instr) (s : State), ∃ t, exec c s = .next t ∧ t.pending = s.pending

/-! ## Reset -/

/-- The state right after reset, block by block (R3, R20, R24, R35, R43, R46, R48, R57, R74, R86, R98, R107, R112,
R121, R130, R149, R153, R155, R160, R162). The empty listing of memory (log 13), the 0 of the measured currents and of
the staged bytes (log 15) and the empty queue (log 24) are the model's choices. -/
def Obligations.ResetState : Prop :=
  State.reset.pending = [] ∧ State.reset.mem = ⟨[], []⟩ ∧
  (∀ i, State.reset.part.demandSlot i = ⟨.free, Vector.replicate 12 ⟨0, false, false⟩, none, none, none⟩) ∧
  (∀ c, State.reset.part.urgentSlot c =
    ⟨.free, Vector.replicate 12 ⟨0, false, false⟩, none, Vector.replicate 12 ⟨0, false, false⟩, none, none⟩) ∧
  State.reset.part.timer = ⟨false, 0, 2⟩ ∧
  (∀ c, State.reset.part.corner c = ⟨.idle, .none, 0, none, [], none, 600, 20, 50, 1, 7, false, false, 0, []⟩) ∧
  State.reset.part.pairing = true ∧
  (∀ v, State.reset.part.channel v =
    ⟨600, 600, none, none, .none, [], [], 0, .off, none, 0, 0, none, 0, 5, 3, ⟨0, .cool, 16384, 32768, 1200, 700⟩⟩) ∧
  (∀ v, State.reset.part.map v = ⟨none, .empty, Vector.replicate 64 ⟨0, false, false⟩, none, none⟩) ∧
  State.reset.part.analyzer = ⟨.idle, [], [], .idle, none⟩ ∧
  State.reset.part.setup = ⟨.free, none, [], [], none, .all, 1⟩ ∧
  State.reset.part.engine = ⟨[], [], [], false, false, none⟩ ∧
  State.reset.part.waitCount = 0 ∧
  State.reset.part.journal = ⟨[], 0, 0, 0, 0, none, 1, false⟩ ∧
  State.reset.part.lines.mode = .all ∧ State.reset.part.lines.ready = false ∧
  (∀ c : CornerId, State.reset.part.lines.reported[c] = false)

/-- RESETN: memory and the queue keep what they hold; the straps and the first line samples are taken; every corner is
IDLE, or SAFE when SAFE is asserted; everything else stands as in the reset state (R57, R143, R161). That the measured
currents and the data last read become 0 with it is the model's choice (log 15). -/
def Obligations.ResetnReleasesThePart : Prop :=
  ∀ (region : BitVec 4) (psense : ParitySense) (safe : Bool) (dflt : BitVec 8) (s : State),
    ∃ t, exec (.resetn region psense safe dflt) s = .next t ∧ t.mem = s.mem ∧ t.pending = s.pending ∧
      t.part.bridge = ⟨region, psense, false, false⟩ ∧
      (∀ c, t.part.corner c =
        { State.reset.part.corner c with state := if safe = true then .safe else .idle }) ∧
      t.part.lines = { State.reset.part.lines with safe := safe, dflt := t.part.lines.dflt } ∧
      (∀ v, t.part.driverFault v = dflt.getLsbD v.val) ∧
      { t.part with
        bridge := State.reset.part.bridge, corners := State.reset.part.corners, lines := State.reset.part.lines
        fresh := State.reset.part.fresh } = State.reset.part

/-! ## The memory path -/

/-- Every command that is a processor write stores its enabled lanes, data and parity unchanged, at its word; every other
byte of memory reads as it did once the access was granted (R144 to R146). Memory is in its canonical form, which every
step keeps (EveryStepKeepsMemoryCanonical). When the write has reached memory the part stands as the grant left it, with
the P-side summary set and one PARITY P event handed when an enabled lane is bad (the frame of the event is the model's
choice, log 17). -/
def Obligations.ForwardedWrite : Prop :=
  (∀ (c : Instr) (s : State) (addr : BitVec 22) (b : Beat), s.mem.wf = true → writeOf s.part.bridge c = some (addr, b) →
     ∃ t, exec c s = .next t ∧
       (∀ a, t.mem.byte a =
         if 4 * addr.toNat ≤ a ∧ a < 4 * addr.toNat + 4 ∧ b.lanes.getLsbD (a - 4 * addr.toNat) = true then
           laneByte b.data (a - 4 * addr.toNat)
         else s.grantAccess.mem.byte a) ∧
       (∀ a, t.mem.parityBit a =
         if 4 * addr.toNat ≤ a ∧ a < 4 * addr.toNat + 4 ∧ b.lanes.getLsbD (a - 4 * addr.toNat) = true then
           b.parity.getLsbD (a - 4 * addr.toNat)
         else s.grantAccess.mem.parityBit a)) ∧
  (∀ (s : State) (addr : BitVec 22) (b : Beat),
     (s.forwarded addr b).pending = s.pending ∧
     (s.forwarded addr b).part =
       (let g := s.grantAccess.part
        if s.badOf b = 0 then g
        else
         { g with
           bridge := { g.bridge with stickyP := true }
           journal := g.journal.hand (.parityP (addr ++ (0 : BitVec 2)) (s.badOf b) (g.bridge.classOf addr))
             g.timer.frame }))

/-- A lane is good when its nine bits hold an odd number of ones under ODD, an even number under EVEN; the bad lanes of
a write are the enabled lanes that are not good; and the parity that the part supplies is good on every lane (R146,
R147). -/
def Obligations.LaneParity : Prop :=
  (∀ (sense : ParitySense) (b : Byte) (q : Bool),
    laneGood sense b q = decide (((List.range 8).countP (fun k => b.getLsbD k) + q.toNat) % 2 =
      (match sense with | .odd => 1 | .even => 0))) ∧
  (∀ (sense : ParitySense) (b : Beat) (k : Nat), k < 4 →
    (beatBadLanes sense b).getLsbD k =
      (b.lanes.getLsbD k && !laneGood sense (laneByte b.data k) (b.parity.getLsbD k))) ∧
  (∀ (sense : ParitySense) (data : Word), badLanes sense data (goodParity sense data) = 0)

/-- The grant of a processor access (R153): with no engine word it changes nothing; an engine word that waits lets the
access by and raises the count, until the count is 8, when the engine's word is written first, the engine chooses its
next item where that word ended one (R150), and the word it then presents, if any, has waited out this access. That the
forced word is written inside the access's own command is the model's reading (log 16). -/
def Obligations.AccessGrant : Prop :=
  ∀ s : State,
    (s.part.engine.hand = none → s.grantAccess = s) ∧
    (s.part.engine.hand.isSome = true → s.part.waitCount < 8 →
      s.grantAccess = { s with part := { s.part with waitCount := s.part.waitCount + 1 } }) ∧
    (s.part.engine.hand.isSome = true → 8 ≤ s.part.waitCount →
      ∃ t u, exec .engineWordWrite s = .next t ∧ exec .engineItemChoice t = .next u ∧
        s.grantAccess =
          if u.part.engine.hand.isSome = true then
            { u with part := { u.part with waitCount := u.part.waitCount + 1 } }
          else u)

/-- The Control Region: it is the first 16 KiB from REGION × 1 MiB, and an address in it has its distance from there as
its offset (R143); where the words of each slot, block, window, ring entry and of the Trace Area stand (10.7), and which
class they have (R144). -/
def Obligations.RegionLayout : Prop :=
  (∀ w, setupOffset w = 4 * w) ∧
  (∀ (c : CornerId) w, urgentOffset c w = 0x100 + 32 * c.val + 4 * w) ∧
  (∀ (i : SlotId) w, demandOffset i w = 0x400 + 32 * i.val + 4 * w) ∧
  (∀ (v : ValveId) w, mapOffset v w = 0xC00 + 128 * v.val + 4 * w) ∧
  (∀ w, windowOffset w = 0x1000 + 4 * w) ∧
  (∀ (i : BitVec 7) w, ringOffset i w = 0x1800 + 16 * i.toNat + 4 * w) ∧
  (∀ k, sampleOffset k = 0x2000 + 4 * k) ∧ traceHeaderOffset = 0x2100 ∧
  (∀ w, w < 64 → classOfOffset (setupOffset w) = .setupBlock) ∧
  (∀ c w, w < 8 → classOfOffset (urgentOffset c w) = .urgentSlot) ∧
  (∀ i w, w < 8 → classOfOffset (demandOffset i w) = .demandSlot) ∧
  (∀ v w, w < 32 → classOfOffset (mapOffset v w) = .mapBlock) ∧
  (∀ w, w < 64 → classOfOffset (windowOffset w) = .statusWindow) ∧
  (∀ i w, w < 4 → classOfOffset (ringOffset i w) = .journalRing) ∧
  (∀ k, k < 64 → classOfOffset (sampleOffset k) = .traceArea) ∧
  classOfOffset traceHeaderOffset = .traceArea ∧
  (∀ o, (0x180 ≤ o ∧ o < 0x400) ∨ (0x1100 ≤ o ∧ o < 0x1800) ∨ 0x2104 ≤ o → classOfOffset o = .plain) ∧
  ∀ (b : Bridge),
    (∀ o, o < 16384 → 4 ∣ o →
      b.offset (b.wordAddress o) = some o ∧ 4 * (b.wordAddress o).toNat = b.region.toNat * 2 ^ 20 + o) ∧
    (∀ addr : BitVec 22,
      b.offset addr =
        if b.region.toNat * 2 ^ 20 ≤ 4 * addr.toNat ∧ 4 * addr.toNat < b.region.toNat * 2 ^ 20 + 16384 then
          some (4 * addr.toNat - b.region.toNat * 2 ^ 20)
        else none)

/-- A write that no block captures is forwarded and does nothing else (R1, R41, R73, R130, R144, R148): outside the Control
Region; in the Status Window, the Journal Ring, the Trace Area and the plain offsets; at words 4 to 7 of a slot; at words
1 and 18 to 31 of a Map Block; at the words of the Setup Block other than 0 and 2. A write at a captured word is captured
as the command of that word gives it (the model's reading, log 25). -/
def Obligations.WritesByAddress : Prop :=
  (∀ (addr : BitVec 22) (b : Beat) (s : State),
     (match s.part.bridge.offset addr with
       | none => True
       | some o =>
         match classOfOffset o with
         | .plain => True
         | .statusWindow => True
         | .journalRing => True
         | .traceArea => True
         | .setupBlock => o / 4 ≠ 0 ∧ o / 4 ≠ 2
         | .urgentSlot => 4 ≤ o / 4 % 8
         | .demandSlot => 4 ≤ o / 4 % 8
         | .mapBlock => o / 4 % 32 = 1 ∨ 18 ≤ o / 4 % 32) →
     exec (.plainWrite addr b) s = .next (s.forwarded addr b)) ∧
  (∀ (s : State) (b : Beat),
     (∀ i (w : Fin 3),
       exec (.plainWrite (s.part.bridge.wordAddress (demandOffset i w.val)) b) s = exec (.demandSlotWrite i w b) s) ∧
     (∀ i, b.lanes = 15 →
       exec (.plainWrite (s.part.bridge.wordAddress (demandOffset i 3)) b) s =
         exec (.demandClosingWrite i b.data b.parity) s) ∧
     (∀ c (w : Fin 3),
       exec (.plainWrite (s.part.bridge.wordAddress (urgentOffset c w.val)) b) s = exec (.urgentSlotWrite c w b) s) ∧
     (∀ c, b.lanes = 15 →
       exec (.plainWrite (s.part.bridge.wordAddress (urgentOffset c 3)) b) s =
         exec (.urgentClosingWrite c b.data b.parity) s) ∧
     (∀ c, b.lanes ≠ 15 →
       exec (.plainWrite (s.part.bridge.wordAddress (urgentOffset c 3)) b) s =
         .next (s.arrived (urgentOffset c 3) b)) ∧
     (∀ v (q : Fin 16),
       exec (.plainWrite (s.part.bridge.wordAddress (mapOffset v (q.val + 2))) b) s = exec (.mapPointWrite v q b) s) ∧
     (∀ v, b.lanes = 15 →
       exec (.plainWrite (s.part.bridge.wordAddress (mapOffset v 0)) b) s = exec (.mapClosingWrite v b.data b.parity) s) ∧
     (∀ v, b.lanes ≠ 15 →
       exec (.plainWrite (s.part.bridge.wordAddress (mapOffset v 0)) b) s = .next (s.arrived (mapOffset v 0) b)) ∧
     exec (.plainWrite (s.part.bridge.wordAddress (setupOffset 2)) b) s = exec (.journalReadIndex b) s ∧
     (∀ c code w, setupRow c = some (code, w) → w.order = [] → w.later = 0 →
       exec (.plainWrite (s.part.bridge.wordAddress (setupOffset 0)) (commandBeat code w)) s = exec c s))

/-- A forwarded read returns memory's word and parity unchanged; a bad lane sets the M-side summary and hands PARITY M;
nothing else changes beside the grant (R147; the frame of the event is the model's choice, log 17). A read of the Status
Window returns the word as it stands, with good parity; the line word's read clears both sticky summaries, and no read
changes anything else of the part (R148; the counter of free values is the model's, log 20). A read given by the
window's address is the same read (log 25). -/
def Obligations.ProcessorReads : Prop :=
  (∀ (addr : BitVec 22) (s : State), s.part.bridge.classOf addr ≠ .statusWindow →
     ∃ t, exec (.forwardedRead addr) s = .next t ∧ t.mem = s.grantAccess.mem ∧ t.pending = s.pending ∧
       (let g := s.grantAccess.part
        let data := s.grantAccess.mem.word (byteAddress addr)
        let parity := s.grantAccess.mem.lanesParity (byteAddress addr)
        let bad := badLanes s.part.bridge.psense data parity
        (∀ k, k < 4 → laneByte data k = s.grantAccess.mem.byte (4 * addr.toNat + k) ∧
          parity.getLsbD k = s.grantAccess.mem.parityBit (4 * addr.toNat + k)) ∧
        t.part =
         if bad = 0 then { g with port := ⟨data, parity⟩ }
         else
           { g with
             port := ⟨data, parity⟩
             bridge := { g.bridge with stickyM := true }
             journal := g.journal.hand (.parityM (addr ++ (0 : BitVec 2)) bad (g.bridge.classOf addr)) g.timer.frame })) ∧
  (∀ (w : Fin 64) (s : State),
     exec (.statusWindowRead w) s =
       .next { s with
         part :=
           { s.part with
             port := ⟨s.part.statusWord w, goodParity s.part.bridge.psense (s.part.statusWord w)⟩
             bridge := if w.val = 1 then { s.part.bridge with stickyP := false, stickyM := false } else s.part.bridge
             fresh := s.part.fresh + 1 } } ∧
     exec (.forwardedRead (s.part.bridge.wordAddress (windowOffset w.val))) s = exec (.statusWindowRead w) s)

/-! ## Layouts -/

/-- The words of the part, bit for bit (10.8): each word's number is the sum of its fields at their places, and bits and
words that the layout does not use are 0. First the Status Window, whose analyzer valves, sequence and tuned gain hold
their item where there is one (a field with nothing to show is free, log 20); then what the part publishes: dispositions,
map results, replies, journal entries, traces; then the codes of 10.8, each in the order of its table from its first
number; then the names and the fault cause of the channel states, which the valve words and the entries show; then the kind,
subject and details of every journal entry, where a detail that an entry does not use is 0 (the model's choice, log
19). -/
def Obligations.PartWordLayouts : Prop :=
  (∀ p : Part,
     (p.statusWord 0).toNat = p.timer.frame.toNat + bitOf p.timer.running * 2 ^ 16 + p.timer.period % 16 * 2 ^ 20 ∧
     (p.statusWord 1).toNat =
       bitOf p.lines.safe + (allValves.map fun v => bitOf (p.driverFault v) * 2 ^ (8 + v.val)).sum +
         bitOf p.bridge.stickyP * 2 ^ 16 + bitOf p.bridge.stickyM * 2 ^ 17 ∧
     (p.statusWord 2).toNat =
       p.journal.write.toNat + p.journal.read.toNat * 2 ^ 8 + p.journal.lost % 256 * 2 ^ 16 +
         bitOf p.journal.alarm.isSome * 2 ^ 24 ∧
     (∃ x y, x < 8 ∧ y < 8 ∧
       (p.statusWord 3).toNat =
         (match p.analyzer.state with | .idle => 0 | .searching _ => 1 | .capturing _ => 2 | .writing => 3) + x * 2 ^ 2 +
           (match p.analyzer.trace with | .idle => 0 | .armed _ => 1 | .capturing => 2 | .writing => 3) * 2 ^ 8 +
           y * 2 ^ 10 + p.analyzer.queue.length % 16 * 2 ^ 16 ∧
       (∀ h, p.analyzer.state = .searching h → x = h.valve.val) ∧
       (∀ v, p.analyzer.state = .capturing v → x = v.val) ∧
       (∀ v, p.analyzer.trace = .armed v → y = v.val) ∧
       (∀ t, p.analyzer.trace = .capturing ∨ p.analyzer.trace = .writing → p.analyzer.hand = some t → y = t.valve.val)) ∧
     (p.statusWord 4).toNat =
       ([0, 1, 2, 3, 4, 5, 6, 7].map fun k =>
         (match p.analyzer.queue[k]? with | some v => v.val | none => 15) * 2 ^ (4 * k)).sum ∧
     (∀ (c : CornerId) (w : Fin 64), w.val = 8 + 2 * c.val →
       (p.statusWord w).toNat =
         (p.corner c).state.code + (p.corner c).limpCause.code * 2 ^ 4 + (p.corner c).list.length % 16 * 2 ^ 8 +
           bitOf (p.corner c).dryRun * 2 ^ 12 + (p.corner c).silence % 256 * 2 ^ 16) ∧
     (∀ (c : CornerId) (w : Fin 64), w.val = 9 + 2 * c.val →
       ∃ x, x < 65536 ∧ (∀ q, (p.corner c).lastTaken = some q → x = q.toNat) ∧
         (p.statusWord w).toNat =
           x + bitOf (p.corner c).lastTaken.isNone * 2 ^ 16 + (p.urgentSlot c).state.code * 2 ^ 20 +
             (match (p.corner c).hold with | some h => h.left | none => 0) % 256 * 2 ^ 24) ∧
     (∀ (v : ValveId) (w : Fin 64), w.val = 16 + 4 * v.val →
       ∃ x, x < 16 ∧ (∀ g, (p.channel v).tunedGain = some g → x = g.val) ∧
         (p.statusWord w).toNat =
           (p.channel v).state.name.code + codeOr0 FaultCause.code (p.channel v).state.faultCause * 2 ^ 4 + x * 2 ^ 8 +
             bitOf (p.channel v).tunedGain.isNone * 2 ^ 12 + (p.channel v).drive % 2048 * 2 ^ 16) ∧
     (∀ (v : ValveId) (w : Fin 64), w.val = 17 + 4 * v.val →
       (p.statusWord w).toNat = (p.channel v).target % 4096 + (p.channel v).measured % 4096 * 2 ^ 16) ∧
     (∀ (v : ValveId) (w : Fin 64), w.val = 18 + 4 * v.val →
       (p.statusWord w).toNat = (p.channel v).heat.index % 65536 + (p.channel v).heat.level.code * 2 ^ 16) ∧
     (∀ (v : ValveId) (w : Fin 64), w.val = 19 + 4 * v.val →
       (p.statusWord w).toNat =
         (match (p.map v).active with | some l => l.length | none => 0) % 32 + (p.map v).state.code * 2 ^ 8) ∧
     (∀ w : Fin 64, (4 < w.val ∧ w.val < 8) ∨ 48 ≤ w.val → p.statusWord w = 0)) ∧
  ((∀ f : Frame, (frameWord f).toNat = f.toNat) ∧
   (∀ i j, (currentsWord i j).toNat = i % 65536 + j % 65536 * 2 ^ 16) ∧
   (∀ code reason, (dispositionWord code reason).toNat = code % 16 + reason % 16 * 2 ^ 8) ∧
   (∀ r : MapResult,
     r.word.toNat =
       (if r.reason = none then 1 else 2) + codeOr0 MapReason.code r.reason * 2 ^ 8 + r.count % 32 * 2 ^ 16) ∧
   (∀ r : Reply,
     r.word.toNat =
       r.kind.toNat + r.refusedMask.toNat * 2 ^ 8 + r.tag.toNat * 2 ^ 16 + r.result.code * 2 ^ 20 +
         codeOr0 ReplyReason.code r.reason * 2 ^ 24) ∧
   (∀ e : JournalEntry,
     e.word0.toNat =
       e.event.kind % 256 + e.sequence.toNat * 2 ^ 8 + e.lostBefore % 256 * 2 ^ 16 + e.event.subject % 256 * 2 ^ 24 ∧
     e.word1.toNat = e.frame.toNat + e.event.detailA % 65536 * 2 ^ 16) ∧
   (∀ t : TraceSample, t.word.toNat = t.measured % 4096 + t.target % 4096 * 2 ^ 16) ∧
   (∀ t : Trace,
     t.header.toNat =
       codeOr0 TraceMark.code t.mark + t.valve.val * 2 ^ 2 + t.gain % 16 * 2 ^ 5 + t.samples.length % 128 * 2 ^ 9 +
         t.frame.toNat * 2 ^ 16)) ∧
  ([.incomplete, .poisoned, .check, .slotMismatch, .range, .cornerIdle, .cornerLimp, .cornerSafe, .sequence, .stale,
      .tooEarly, .queueFull].map RefusalReason.code = List.range' 1 12 ∧
   [.limp, .idle, .safe, .restart].map FlushCause.code = List.range' 1 4 ∧
   [.idle, .run, .limp, .safe].map CornerState.code = List.range 4 ∧
   [.none, .silence, .valveFault, .valveLost, .partner].map LimpCause.code = List.range 5 ∧
   [.off, .prepare, .tune, .track, .fault].map ChannelName.code = List.range 5 ∧
   [.openCircuit, .shortCircuit, .driver, .settle, .untunable].map FaultCause.code = List.range' 1 5 ∧
   [.cool, .warm, .hot].map ThermalLevel.code = List.range 3 ∧
   [.free, .filling, .held, .retiring, .refusing].map DemandState.code = List.range 5 ∧
   [.free, .filling, .active, .owed].map UrgentState.code = List.range 4 ∧
   (∀ r, [.empty, .filling, .valid, .invalid r].map PendingState.code = List.range 4) ∧
   [.incomplete, .poisoned, .count, .check, .shape, .range].map MapReason.code = List.range' 1 6 ∧
   [.partialWrite, .parity, .unknownKind, .target, .range, .framesRunning, .framesStopped, .safe, .wrongState,
      .faultPresent, .dryRun, .driverLine, .noMap, .notQuiescent, .hot, .noPendingMap, .busy].map ReplyReason.code =
    List.range' 1 17 ∧
   [.done, .partly, .refused].map ReplyResult.code = List.range' 1 3 ∧
   [.incomplete, .poisoned, .check, .slotMismatch, .notCancel, .sequence].map CancelFailure.code = List.range' 1 6 ∧
   [.partialWrite, .parity, .outOfSpan].map IndexFailure.code = List.range' 1 3 ∧
   [.plain, .setupBlock, .urgentSlot, .demandSlot, .mapBlock, .statusWindow, .journalRing, .traceArea].map
      AccessClass.code = List.range 8 ∧
   [.complete, .aborted].map TraceMark.code = List.range' 1 2 ∧
   (∀ r g x, [.enable, .prepareDone r, .searchDone g, .retune, .disable, .safe, .clearFault x].map ChangeCause.code =
     List.range' 1 7) ∧
   bitOf false = 0 ∧ bitOf true = 1 ∧
   (∀ f : FaultCause → Nat, codeOr0 f none = 0 ∧ ∀ x, codeOr0 f (some x) = f x)) ∧
  ((∀ q sub x, [.off, .prepare q, .tune sub, .track, .fault x].map ChannelState.name =
     [.off, .prepare, .tune, .track, .fault]) ∧
   (∀ q sub x, [.off, .prepare q, .tune sub, .track, .fault x].map ChannelState.faultCause =
     [none, none, none, none, some x]) ∧
   (∀ st : ChannelState, (st.isFault = true ↔ st.name = .fault) ∧
     (st.isOffOrFault = true ↔ st.name = .off ∨ st.name = .fault))) ∧
  (let row := fun (e : Event) (kind subject a b c : Nat) =>
     e.kind = kind ∧ e.subject = subject ∧ e.detailA = a ∧ e.detailB.toNat = b % 2 ^ 32 ∧ e.detailC.toNat = c % 2 ^ 32
   (∀ slot r, row (.recordRefused slot r) 1 slot r.code 0 0) ∧
   (∀ i st, row (.slotBusy i st) 2 i.val st.code 0 0) ∧
   (∀ c st f, row (.urgentBusy c st f) 3 (64 + c.val) st.code (codeOr0 CancelFailure.code f) 0) ∧
   (∀ c n m, row (.queueLow c n m) 4 c.val n m 0 ∧ row (.queueHigh c n m) 5 c.val n m 0) ∧
   (∀ c n, row (.cornerLimp c (.silence n)) 6 c.val 1 n 0) ∧
   (∀ c v x, row (.cornerLimp c (.valveFault v x)) 6 c.val 2 v.val x.code) ∧
   (∀ c v, row (.cornerLimp c (.valveLost v)) 6 c.val 3 v.val 0) ∧
   (∀ c d, row (.cornerLimp c (.partner d)) 6 c.val 4 d.val 0) ∧
   (∀ c st, row (.cornerRun c st) 7 c.val st.code 0 0 ∧ row (.cornerIdle c st) 8 c.val st.code 0 0 ∧
     row (.safeEnter c st) 9 c.val st.code 0 0 ∧ row (.safeExit c) 10 c.val 0 0 0) ∧
   (∀ v l e r g x,
     let changed := fun (cause : ChangeCause) (code figure : Nat) =>
       row (.channelState v l e cause) 11 v.val (l.code + e.code * 2 ^ 4 + code * 2 ^ 8) figure 0
     changed .enable 1 0 ∧ changed (.prepareDone r) 2 r ∧ changed (.searchDone g) 3 g ∧ changed .retune 4 0 ∧
       changed .disable 5 0 ∧ changed .safe 6 0 ∧ changed (.clearFault x) 7 x.code) ∧
   (∀ v x l n, row (.valveFault v x l n) 12 v.val (x.code + l.code * 2 ^ 4) n 0) ∧
   (∀ v b st, row (.driverLine v b st) 13 v.val (bitOf b) st.code 0) ∧
   (∀ v l e h c, row (.thermal v l e h c) 14 v.val (l.code + e.code * 2 ^ 4) h c) ∧
   (∀ v n (best : BestTrial),
     row (.tuned v n best) 15 v.val (n * 2 ^ 8) best.gain (best.score % (2 ^ 32 : ℤ)).toNat) ∧
   (∀ v n, row (.untunable v n) 15 v.val (1 + n * 2 ^ 8) 0 0) ∧
   (∀ v m n g, row (.traceDone v m n g) 16 v.val (codeOr0 TraceMark.code m + n * 2 ^ 8) g 0) ∧
   (∀ (addr : BitVec 24) l k,
     row (.parityP addr l k) 17 0 (l.toNat + k.code * 2 ^ 4 + 2 ^ 8) addr.toNat 0 ∧
       row (.parityM addr l k) 18 1 (l.toNat + k.code * 2 ^ 4) addr.toNat 0) ∧
   (∀ k t k' t', row (.setupOverrun k t k' t') 19 255 (k.toNat + t.toNat * 2 ^ 8) (k'.toNat + t'.toNat * 2 ^ 8) 0) ∧
   (∀ x value r w, row (.badReadIndex x value r w) 20 255 x.code value.toNat (r.toNat + w.toNat * 2 ^ 16)) ∧
   (∀ v r, row (.mapResult v r) 21 v.val
     ((if r.reason = none then 1 else 2) + codeOr0 MapReason.code r.reason * 2 ^ 8) r.count 0) ∧
   row .restart 22 255 0 0 0)

/-- The fields of the words the processor writes, bit for bit (10.8): demand and urgent records, Map Block headers and
points, and the command word: kind in bits 0 to 7, mask in bits 8 to 15, tag in bits 16 to 19, argument in bits 20 to 31;
its bytes of lanes not enabled are taken as 0 (R131). Word w of a staging has byte 4w + k
in lane k, lane 0 least significant (R4, Conventions); a record is read from words 0 to 2 of its staging and from the
closing word. -/
def Obligations.ReceivedWordLayouts : Prop :=
  (∀ w0 w1 w2 w3 : Word,
    let r := demandRecord w0 w1 w2 w3
    r.corner.val = w0.toNat % 4 ∧ r.select = selectOfCode (w0.toNat / 2 ^ 2 % 4) ∧
      r.timing = (if w0.toNat / 2 ^ 4 % 2 = 1 then .nextFrame else .atFrame) ∧ r.ramp = w0.toNat / 2 ^ 8 % 64 ∧
      r.sequence.toNat = w0.toNat / 2 ^ 16 ∧ r.target.toNat = w1.toNat % 65536 ∧ r.compression = w2.toNat % 2048 ∧
      r.rebound = w2.toNat / 2 ^ 16 % 2048 ∧ r.check.toNat = w3.toNat % 65536 ∧ r.echo = w3.toNat / 2 ^ 16 % 128) ∧
  (∀ w0 w1 w2 w3 : Word,
    let r := urgentRecord w0 w1 w2 w3
    r.select = selectOfCode (w0.toNat % 4) ∧ r.cancel = decide (w0.toNat / 2 ^ 2 % 2 = 1) ∧
      r.release = w0.toNat / 2 ^ 8 % 64 ∧ r.sequence.toNat = w0.toNat / 2 ^ 16 ∧ r.hold = w1.toNat % 256 ∧
      r.compression = w2.toNat % 2048 ∧ r.rebound = w2.toNat / 2 ^ 16 % 2048 ∧ r.check.toNat = w3.toNat % 65536 ∧
      r.echo = w3.toNat / 2 ^ 16 % 128) ∧
  (∀ n, selectOfCode n =
    if n = 0 then some .compression else if n = 1 then some .rebound else if n = 2 then some .both else none) ∧
  (∀ h : Word, headerCount h = h.toNat % 32 ∧ (headerCheck h).toNat = h.toNat / 2 ^ 16) ∧
  (∀ w : Word, mapPoint w = ⟨w.toNat % 2048, w.toNat / 2 ^ 16 % 4096⟩) ∧
  (∀ (code : BitVec 8) (w : CommandWrite),
    (commandBeat code w).lanes = w.lanes ∧ (commandBeat code w).parity = w.parity ∧
      (commandBeat code w).data.toNat =
        code.toNat + w.mask.toNat * 2 ^ 8 + w.tag.toNat * 2 ^ 16 + w.arg.toNat * 2 ^ 20) ∧
  (∀ x : Word,
    (commandOf x).kind.toNat = x.toNat % 2 ^ 8 ∧ (commandOf x).mask.toNat = x.toNat / 2 ^ 8 % 2 ^ 8 ∧
      (commandOf x).tag.toNat = x.toNat / 2 ^ 16 % 2 ^ 4 ∧ (commandOf x).arg.toNat = x.toNat / 2 ^ 20) ∧
  (∀ (b : Beat) (k : Nat), k < 4 →
    (laneByte b.data k).toNat = b.data.toNat / 2 ^ (8 * k) % 2 ^ 8 ∧
      (seenWord b).toNat / 2 ^ (8 * k) % 2 ^ 8 = if b.lanes.getLsbD k = true then (laneByte b.data k).toNat else 0) ∧
  (∀ (code : BitVec 8) (w : CommandWrite),
    commandOf (seenWord (commandBeat code w)) =
      { kind := if w.lanes.getLsbD 0 = true then code else 0
        mask := if w.lanes.getLsbD 1 = true then w.mask else 0
        tag := if w.lanes.getLsbD 2 = true then w.tag else 0
        arg := (if w.lanes.getLsbD 3 = true then w.arg.extractLsb' 4 8 else 0) ++
          (if w.lanes.getLsbD 2 = true then w.arg.extractLsb' 0 4 else 0) }) ∧
  (∀ (l : List StagedByte) (w k : Nat) (b : StagedByte), k < 4 → l[4 * w + k]? = some b →
    (stagedWord l w).toNat / 2 ^ (8 * k) % 256 = b.value.toNat) ∧
  (∀ (d : DemandSlot) (data : Word),
    d.record data =
      demandRecord (stagedWord d.staging.toList 0) (stagedWord d.staging.toList 1) (stagedWord d.staging.toList 2)
        data) ∧
  (∀ (staging : List StagedByte) (data : Word),
    urgentRecordOf staging data =
      urgentRecord (stagedWord staging 0) (stagedWord staging 1) (stagedWord staging 2) data)

/-! ## Demand slots -/

/-- A write to words 0 to 2 of a slot, or to a point word of a Map Block, stages its enabled lanes, each with its value, its
staged mark and its poisoned mark; nothing else of the part changes. A demand slot stages in FREE, which becomes FILLING
when a byte is staged, and in FILLING (R4, R5); an urgent slot likewise, and in ACTIVE into the cancel staging (R44); a
Map Block always, a VALID or INVALID pending map being discarded first, and its active map and owed result standing
(R75); the outstanding targets of a PROMOTE MAP come before it (R83, R145; promotionsFirst of CommandBroadcast). The value 0 of a byte that is discarded is the model's choice (log 15). -/
def Obligations.Staging : Prop :=
  (∀ (i : SlotId) (w : Fin 3) (b : Beat) (s : State),
     let f := s.arrived (demandOffset i w.val) b
     let d := f.part.demandSlot i
     (d.state = .free ∨ d.state = .filling →
       ∃ d', exec (.demandSlotWrite i w b) s = .next { f with part := f.part.setDemand i d' } ∧
         d'.state = (if b.lanes = 0 then d.state else .filling) ∧
         (∀ k : Fin 12, d'.staging[k] =
           if k.val / 4 = w.val ∧ b.lanes.getLsbD (k.val % 4) = true then
             ⟨laneByte b.data (k.val % 4), true, (s.badOf b).getLsbD (k.val % 4)⟩
           else d.staging[k]) ∧
         d'.closing = d.closing ∧ d'.take = d.take ∧ d'.final = d.final) ∧
     (d.state ≠ .free → d.state ≠ .filling → exec (.demandSlotWrite i w b) s = .next f)) ∧
  (∀ (c : CornerId) (w : Fin 3) (b : Beat) (s : State),
     let f := s.arrived (urgentOffset c w.val) b
     let d := f.part.urgentSlot c
     let staged := fun (old new : Vector StagedByte 12) => ∀ k : Fin 12, new[k] =
       if k.val / 4 = w.val ∧ b.lanes.getLsbD (k.val % 4) = true then
         ⟨laneByte b.data (k.val % 4), true, (s.badOf b).getLsbD (k.val % 4)⟩
       else old[k]
     (d.state = .free ∨ d.state = .filling →
       ∃ new, staged d.staging new ∧
         exec (.urgentSlotWrite c w b) s =
           .next { f with
             part := f.part.setUrgent c
               { d with state := if b.lanes = 0 then d.state else .filling, staging := new } }) ∧
     (d.state = .active →
       ∃ new, staged d.cancel new ∧
         exec (.urgentSlotWrite c w b) s = .next { f with part := f.part.setUrgent c { d with cancel := new } }) ∧
     (d.state = .owed → exec (.urgentSlotWrite c w b) s = .next f)) ∧
  (∀ (v : ValveId) (q : Fin 16) (b : Beat) (s : State),
     let f := s.arrived (mapOffset v (q.val + 2)) b
     let p := f.part.promotionsFirst
     let m := p.map v
     (b.lanes = 0 → exec (.mapPointWrite v q b) s = .next f) ∧
     (b.lanes ≠ 0 →
       ∃ new : Vector StagedByte 64,
         (∀ k : Fin 64, new[k] =
           if k.val / 4 = q.val ∧ b.lanes.getLsbD (k.val % 4) = true then
             ⟨laneByte b.data (k.val % 4), true, (s.badOf b).getLsbD (k.val % 4)⟩
           else if m.state = .empty ∨ m.state = .filling then m.staging[k]
           else ⟨0, false, false⟩) ∧
         exec (.mapPointWrite v q b) s =
           .next { f with
             part := p.setMap v
               { m with
                 state := .filling, staging := new
                 header := if m.state = .empty ∨ m.state = .filling then m.header else none } }))

/-- A partial-lane write to word 3 of a slot is forwarded and is not captured, whatever the slot's state; a write to
word 3 counts as a closing write when all four lanes are enabled (R6). That such a write, given by its address, is the
closing-write command is the model's reading (log 25). -/
def Obligations.PartialClosingWriteIsNotCaptured : Prop :=
  ∀ (i : SlotId) (b : Beat) (s : State),
    let f := s.arrived (demandOffset i 3) b
    (b.lanes ≠ 15 → exec (.plainWrite (s.part.bridge.wordAddress (demandOffset i 3)) b) s = .next f) ∧
    (b.lanes = 15 →
      exec (.plainWrite (s.part.bridge.wordAddress (demandOffset i 3)) b) s =
        exec (.demandClosingWrite i b.data b.parity) s)

/-- A closing write that is not taken is forwarded and changes nothing but the journal. At a demand slot in HELD, RETIRING or
REFUSING it hands SLOT BUSY with the slot's state, at the Frame Timer's frame (R8); at an urgent slot that is OWED, or
ACTIVE where a condition of a cancel is missed, it hands URGENT BUSY at the corner's frame (R51, R52). -/
def Obligations.ClosingWriteToBusySlot : Prop :=
  (∀ (i : SlotId) (data : Word) (parity : Lanes) (s : State),
     let f := s.arrived (demandOffset i 3) (fullBeat data parity)
     (f.part.demandSlot i).state ≠ .free → (f.part.demandSlot i).state ≠ .filling →
       exec (.demandClosingWrite i data parity) s =
         .next { f with
           part :=
             { f.part with
               journal := f.part.journal.hand (.slotBusy i (f.part.demandSlot i).state) f.part.timer.frame } }) ∧
  (∀ (c : CornerId) (data : Word) (parity : Lanes) (s : State),
     let f := s.arrived (urgentOffset c 3) (fullBeat data parity)
     let d := f.part.urgentSlot c
     let cw : ClosingWord := ⟨data, s.badOf (fullBeat data parity)⟩
     let busy := fun (state : UrgentState) (failure : Option CancelFailure) =>
       exec (.urgentClosingWrite c data parity) s =
         .next { f with
           part :=
             { f.part with
               journal := f.part.journal.hand (.urgentBusy c state failure) (f.part.corner c).frame } }
     (∀ h x, d.state = .active → (f.part.corner c).hold = some h → cancelFailure d.cancel.toList cw c h = some x →
       busy .active (some x)) ∧
     (d.state = .owed → busy .owed none))

/-- The checks of a record, in their order (R10, R11, R27, R45, R51): on its own bytes INCOMPLETE, POISONED, CHECK, SLOT
MISMATCH, and the range of valve select with the firmnesses it examines; at its corner the corner's state, SEQUENCE,
STALE, TOO EARLY, QUEUE FULL; and for a cancel the first four, the cancel mark and the sequence of the hold. The check
code (R9) is the remainder of 16 bits that starts as 0xFFFF and takes the bytes in order, each most significant bit first,
with the polynomial 0x1021; of the nine digits it is 0x29B1. A flaw of the record's own bytes is the refusal reason of the
same name (R10). -/
def Obligations.RecordChecksInOrder : Prop :=
  (∀ (staging : List StagedByte) (cw : ClosingWord) (n : Nat),
     let incomplete := ∃ b ∈ staging, b.staged = false
     let poisoned := (∃ b ∈ staging, b.poisoned = true) ∨ cw.poisoned ≠ 0
     let wrongCheck := (checkCode (staging.map fun b => b.value)).toNat ≠ cw.data.toNat % 65536
     let wrongEcho := cw.data.toNat / 2 ^ 16 % 128 ≠ n
     (recordFlaw staging cw n = some .incomplete ↔ incomplete) ∧
     (recordFlaw staging cw n = some .poisoned ↔ ¬incomplete ∧ poisoned) ∧
     (recordFlaw staging cw n = some .check ↔ ¬incomplete ∧ ¬poisoned ∧ wrongCheck) ∧
     (recordFlaw staging cw n = some .slotMismatch ↔ ¬incomplete ∧ ¬poisoned ∧ ¬wrongCheck ∧ wrongEcho) ∧
     (recordFlaw staging cw n = none ↔ ¬incomplete ∧ ¬poisoned ∧ ¬wrongCheck ∧ ¬wrongEcho) ∧
     (∀ (sel : Option ValveSelect) (compression rebound : Nat),
       firmnessInRange sel compression rebound = true ↔
         (sel = some .compression ∧ compression ≤ 1000) ∨ (sel = some .rebound ∧ rebound ≤ 1000) ∨
           (sel = some .both ∧ compression ≤ 1000 ∧ rebound ≤ 1000))) ∧
  (∀ (k : Corner) (r : DemandRecord),
     let d := (r.target - k.frame).toNat
     let sequence := (∃ l, k.lastTaken = some l ∧ ((r.sequence - l).toNat = 0 ∨ 32768 ≤ (r.sequence - l).toNat)) ∨
       ∃ e ∈ k.list, e.sequence = r.sequence
     let stale := r.timing = .atFrame ∧ (d = 0 ∨ 32768 ≤ d)
     let early := r.timing = .atFrame ∧ 65 ≤ d ∧ d < 32768
     let full := 8 ≤ k.list.length
     k.refusal r =
       if k.state = .idle then some .cornerIdle
       else if k.state = .limp then some .cornerLimp
       else if k.state = .safe then some .cornerSafe
       else if sequence then some .sequence
       else if stale then some .stale
       else if early then some .tooEarly
       else if full then some .queueFull
       else none) ∧
  (∀ (staging : List StagedByte) (cw : ClosingWord) (c : CornerId) (h : Hold),
     cancelFailure staging cw c h =
       match recordFlaw staging cw (64 + c.val) with
       | some .incomplete => some .incomplete
       | some .poisoned => some .poisoned
       | some .check => some .check
       | some .slotMismatch => some .slotMismatch
       | none =>
         if (urgentRecordOf staging cw.data).cancel = false then some .notCancel
         else if (urgentRecordOf staging cw.data).sequence ≠ h.sequence then some .sequence
         else none) ∧
  ([RecordFlaw.incomplete, .poisoned, .check, .slotMismatch].map RecordFlaw.refusal =
    [.incomplete, .poisoned, .check, .slotMismatch]) ∧
  (let bit := fun (r : BitVec 16) (b : Bool) => if (r.getLsbD 15 ^^ b) = true then (r <<< 1) ^^^ 0x1021 else r <<< 1
   checkCode [] = 0xFFFF ∧
   (∀ (l : List Byte) (b : Byte),
     checkCode (l ++ [b]) =
       [b.getLsbD 7, b.getLsbD 6, b.getLsbD 5, b.getLsbD 4, b.getLsbD 3, b.getLsbD 2, b.getLsbD 1, b.getLsbD 0].foldl bit
         (checkCode l)) ∧
   checkCode [0x31, 0x32, 0x33, 0x34, 0x35, 0x36, 0x37, 0x38, 0x39] = 0x29B1)

/-- A closing write to a slot in FREE or FILLING whose record fails a check is refused (R7, R10, R11, R13): the slot is
REFUSING with the refusal owed and offered, and RECORD REFUSED is handed, at the Frame Timer's frame for the checks on
the record's own bytes and at the corner's frame for the corner's. The corner is not touched. -/
def Obligations.DemandRefused : Prop :=
  ∀ (i : SlotId) (data : Word) (parity : Lanes) (s : State) (reason : RefusalReason) (frame : Frame),
    let f := s.arrived (demandOffset i 3) (fullBeat data parity)
    let d := f.part.demandSlot i
    let cw : ClosingWord := ⟨data, s.badOf (fullBeat data parity)⟩
    let r := d.record data
    let k := f.part.corner r.corner
    d.state = .free ∨ d.state = .filling →
    (∃ flaw, recordFlaw d.staging.toList cw i.val = some flaw ∧ reason = flaw.refusal ∧ frame = f.part.timer.frame) ∨
      (recordFlaw d.staging.toList cw i.val = none ∧ firmnessInRange r.select r.compression r.rebound = false ∧
        reason = .range ∧ frame = f.part.timer.frame) ∨
      (recordFlaw d.staging.toList cw i.val = none ∧ firmnessInRange r.select r.compression r.rebound = true ∧
        k.refusal r = some reason ∧ frame = k.frame) →
      exec (.demandClosingWrite i data parity) s =
        .next { f with
          part :=
            { f.part with
              demand := f.part.demand.set i
                { d with state := .refusing, closing := some cw, final := some (.refused reason frame) }
              engine := { f.part.engine with demand := offered f.part.engine.demand i }
              journal := f.part.journal.hand (.recordRefused i.val reason) frame } }

/-- A closing write to a slot in FREE or FILLING whose record passes every check is taken at the corner's frame (R7,
R12, R24, R34): the entry joins the Pending List, the last taken sequence and the silence count follow, the slot is
HELD with the take owed and offered, and QUEUE HIGH is handed when the count crosses the high watermark. -/
def Obligations.DemandTaken : Prop :=
  ∀ (i : SlotId) (data : Word) (parity : Lanes) (s : State) (sel : ValveSelect),
    let f := s.arrived (demandOffset i 3) (fullBeat data parity)
    let d := f.part.demandSlot i
    let cw : ClosingWord := ⟨data, s.badOf (fullBeat data parity)⟩
    let r := d.record data
    let k := f.part.corner r.corner
    let e : Entry :=
      { slot := i, select := sel, timing := r.timing, sequence := r.sequence
        target := if r.timing = .nextFrame then k.frame + 1 else r.target
        ramp := r.ramp, compression := r.compression, rebound := r.rebound, takenAt := k.frame }
    d.state = .free ∨ d.state = .filling → recordFlaw d.staging.toList cw i.val = none → r.select = some sel →
    firmnessInRange r.select r.compression r.rebound = true → k.refusal r = none →
      exec (.demandClosingWrite i data parity) s =
        .next { f with
          part :=
            { f.part with
              demand := f.part.demand.set i { d with state := .held, closing := some cw, take := some ⟨k.frame⟩ }
              engine := { f.part.engine with demand := offered f.part.engine.demand i }
              corners := f.part.corners.set r.corner
                { k with list := insertEntry k.frame e k.list, lastTaken := some r.sequence, silence := 0 }
              journal :=
                if k.list.length < k.highMark ∧ k.highMark ≤ k.list.length + 1 then
                  f.part.journal.hand (.queueHigh r.corner (k.list.length + 1) k.highMark) k.frame
                else f.part.journal } }

/-- The place of a new entry in a list ordered by distance: after every entry whose distance is less or equal, before
every entry whose distance is greater (R25). -/
def Obligations.NewEntryPlace : Prop :=
  ∀ (n : Frame) (e : Entry) (l : List Entry), l.Pairwise (fun a b => ahead a.target n ≤ ahead b.target n) →
    insertEntry n e l =
      l.filter (fun x => decide (ahead x.target n ≤ ahead e.target n)) ++
        e :: l.filter (fun x => decide (ahead e.target n < ahead x.target n))

/-! ## Urgent slots -/

/-- An urgent record that fails a check is refused (R47): the slot is OWED with the REFUSED final owed, at the frame
current at the corner, and RECORD REFUSED is handed with that frame; the corner, its silence count and every valve are
unchanged. -/
def Obligations.UrgentRefused : Prop :=
  ∀ (c : CornerId) (data : Word) (parity : Lanes) (s : State) (reason : RefusalReason),
    let f := s.arrived (urgentOffset c 3) (fullBeat data parity)
    let d := f.part.urgentSlot c
    let k := f.part.corner c
    let cw : ClosingWord := ⟨data, s.badOf (fullBeat data parity)⟩
    let r := urgentRecordOf d.staging.toList data
    let flaw := recordFlaw d.staging.toList cw (64 + c.val)
    let outOfRange := r.cancel = true ∨ r.hold = 0 ∨ 250 < r.hold ∨
      firmnessInRange r.select r.compression r.rebound = false
    d.state = .free ∨ d.state = .filling →
    (∃ x, flaw = some x ∧ reason = x.refusal) ∨ (flaw = none ∧ outOfRange ∧ reason = .range) ∨
      (flaw = none ∧ ¬outOfRange ∧
        ((k.state = .idle ∧ reason = .cornerIdle) ∨ (k.state = .limp ∧ reason = .cornerLimp) ∨
          (k.state = .safe ∧ reason = .cornerSafe))) →
      exec (.urgentClosingWrite c data parity) s =
        .next { f with
          part :=
            { f.part with
              urgent := f.part.urgent.set c
                { d with state := .owed, closing := some cw, final := some (.refused reason k.frame) }
              engine := { f.part.engine with urgent := offered f.part.engine.urgent c }
              journal := f.part.journal.hand (.recordRefused (64 + c.val) reason) k.frame } }

/-- An urgent record that passes every check is taken (R46, R48): the hold is recorded, the silence count is 0, the slot
is ACTIVE with the take owed and offered, and each selected valve is in OVERRIDE with its target recomputed. That an
override end sent before the start does not outlive it (log 9) and the 0 of the emptied cancel bytes (log 15) are the
model's choices. -/
def Obligations.UrgentTaken : Prop :=
  ∀ (c : CornerId) (data : Word) (parity : Lanes) (s : State) (sel : ValveSelect),
    let f := s.arrived (urgentOffset c 3) (fullBeat data parity)
    let d := f.part.urgentSlot c
    let k := f.part.corner c
    let cw : ClosingWord := ⟨data, s.badOf (fullBeat data parity)⟩
    let r := urgentRecordOf d.staging.toList data
    let compression := compressionValve c
    let rebound := reboundValve c
    let take : UrgentTake :=
      { frame := k.frame
        compression := if sel.hasCompression = true then f.part.currentAt compression r.compression else 0
        rebound := if sel.hasRebound = true then f.part.currentAt rebound r.rebound else 0 }
    let p1 : Part :=
      { f.part with
        corners := f.part.corners.set c { k with hold := some ⟨r.sequence, sel, r.hold, r.release⟩, silence := 0 }
        urgent := f.part.urgent.set c
          { d with
            state := .active, closing := some cw, take := some take
            cancel := Vector.replicate 12 ⟨0, false, false⟩ }
        engine := { f.part.engine with urgent := offered f.part.engine.urgent c } }
    let p2 : Part :=
      if sel.hasCompression = true then
        (p1.setChannel compression
          { p1.channel compression with phase := .override r.compression, ends := [] }).recompute compression
      else p1
    let p3 : Part :=
      if sel.hasRebound = true then
        (p2.setChannel rebound { p2.channel rebound with phase := .override r.rebound, ends := [] }).recompute rebound
      else p2
    d.state = .free ∨ d.state = .filling → recordFlaw d.staging.toList cw (64 + c.val) = none → r.select = some sel →
    r.cancel = false → 1 ≤ r.hold → r.hold ≤ 250 → firmnessInRange r.select r.compression r.rebound = true →
    k.state = .run →
      exec (.urgentClosingWrite c data parity) s = .next { f with part := p3 }

/-- A closing write to an ACTIVE urgent slot that meets every condition ends the hold (R51): the slot is OWED with the
CANCELLED final owed, and each valve the hold selected is sent an override end for the next frame with the cancel
record's own release. Nothing else changes; the silence count stands. That the cancel's own closing word is not kept is
the model's choice (log 26), and so is the 0 of the emptied cancel bytes (log 15). -/
def Obligations.UrgentCancelled : Prop :=
  ∀ (c : CornerId) (data : Word) (parity : Lanes) (s : State) (h : Hold),
    let f := s.arrived (urgentOffset c 3) (fullBeat data parity)
    let d := f.part.urgentSlot c
    let k := f.part.corner c
    let cw : ClosingWord := ⟨data, s.badOf (fullBeat data parity)⟩
    let ended : OverrideEnd := ⟨(urgentRecordOf d.cancel.toList data).release, k.frame + 1⟩
    let compression := compressionValve c
    let rebound := reboundValve c
    let p1 : Part :=
      { f.part with
        corners := f.part.corners.set c { k with hold := none }
        urgent := f.part.urgent.set c
          { d with
            state := .owed, final := some (.cancelled k.frame)
            cancel := Vector.replicate 12 ⟨0, false, false⟩ }
        engine := { f.part.engine with urgent := offered f.part.engine.urgent c } }
    let p2 : Part :=
      if h.select.hasCompression = true then
        p1.setChannel compression
          { f.part.channel compression with ends := (f.part.channel compression).ends ++ [ended] }
      else p1
    let p3 : Part :=
      if h.select.hasRebound = true then
        p2.setChannel rebound { f.part.channel rebound with ends := (f.part.channel rebound).ends ++ [ended] }
      else p2
    d.state = .active → k.hold = some h → cancelFailure d.cancel.toList cw c h = none →
      exec (.urgentClosingWrite c data parity) s = .next { f with part := p3 }

/-! ## Map Blocks -/

/-- The checks of a pending map, in their order (R77). -/
def Obligations.MapChecksInOrder : Prop :=
  ∀ (staging : List StagedByte) (cw : ClosingWord), staging.length = 64 →
    let p := headerCount cw.data
    let counted := staging.take (4 * min p 16)
    let points := (List.range p).map fun k => mapPoint (stagedWord staging k)
    let incomplete := ∃ b ∈ counted, b.staged = false
    let poisoned := (∃ b ∈ counted, b.poisoned = true) ∨ cw.poisoned ≠ 0
    let wrongCount := p < 2 ∨ 16 < p
    let wrongCheck := checkCode (counted.map fun b => b.value) ≠ headerCheck cw.data
    let shaped := (∃ a, points.head? = some a ∧ a.firmness = 0) ∧ (∃ z, points.getLast? = some z ∧ z.firmness = 1000) ∧
      points.IsChain fun a b => a.firmness < b.firmness
    let outOfRange := ∃ q ∈ points, 2000 < q.current
    (mapFlaw staging cw = some .incomplete ↔ incomplete) ∧
    (mapFlaw staging cw = some .poisoned ↔ ¬incomplete ∧ poisoned) ∧
    (mapFlaw staging cw = some .count ↔ ¬incomplete ∧ ¬poisoned ∧ wrongCount) ∧
    (mapFlaw staging cw = some .check ↔ ¬incomplete ∧ ¬poisoned ∧ ¬wrongCount ∧ wrongCheck) ∧
    (mapFlaw staging cw = some .shape ↔ ¬incomplete ∧ ¬poisoned ∧ ¬wrongCount ∧ ¬wrongCheck ∧ ¬shaped) ∧
    (mapFlaw staging cw = some .range ↔
      ¬incomplete ∧ ¬poisoned ∧ ¬wrongCount ∧ ¬wrongCheck ∧ shaped ∧ outOfRange) ∧
    (mapFlaw staging cw = none ↔ ¬incomplete ∧ ¬poisoned ∧ ¬wrongCount ∧ ¬wrongCheck ∧ shaped ∧ ¬outOfRange)

/-- A full write to word 0 of a Map Block validates the pending map in every state (R76, R78, R79): VALID or INVALID with
its reason, the header captured, the result owed (a result already owed is replaced and keeps its place), and MAP
RESULT handed at the Frame Timer's frame. The staging, the active map, the channel and the corner stand. The outstanding
targets of a PROMOTE MAP come before it (R83, R145; promotionsFirst of CommandBroadcast). -/
def Obligations.MapValidated : Prop :=
  ∀ (v : ValveId) (data : Word) (parity : Lanes) (s : State),
    let f := s.arrived (mapOffset v 0) (fullBeat data parity)
    let p := f.part.promotionsFirst
    let m := p.map v
    let cw : ClosingWord := ⟨data, s.badOf (fullBeat data parity)⟩
    let reason := mapFlaw m.staging.toList cw
    let result : MapResult := ⟨reason, headerCount data⟩
    exec (.mapClosingWrite v data parity) s =
      .next { f with
        part :=
          { p with
            maps := p.maps.set v
              { m with
                state := (match reason with | none => .valid | some r => .invalid r)
                header := some cw, result := some result }
            engine :=
              if m.result = none then { p.engine with map := offered p.engine.map v } else p.engine
            journal := p.journal.hand (.mapResult v result) p.timer.frame } }

/-- A well-shaped map gives at each of its points that point's current, and between two neighbouring points the exact
value on the line between them rounded to the nearest mA, halves up; every firmness from 0 to 1000 is one of the two;
and the current lies between the neighbours' (R80). -/
def Obligations.MapInterpolation : Prop :=
  ∀ (pts : List MapPoint) (f : Nat), wellShaped pts = true → f ≤ 1000 →
    (∀ q ∈ pts, q.firmness = f → interpolate pts f = q.current) ∧
    (∀ (l : List MapPoint) (a b : MapPoint) (r : List MapPoint), pts = l ++ a :: b :: r →
      a.firmness < f → f < b.firmness →
        (interpolate pts f : ℤ) =
          ⌊(a.current : ℚ) + ((b.current : ℚ) - a.current) * ((f : ℚ) - a.firmness) / ((b.firmness : ℚ) - a.firmness) +
            1 / 2⌋ ∧
        min a.current b.current ≤ interpolate pts f ∧ interpolate pts f ≤ max a.current b.current) ∧
    ((∃ q ∈ pts, q.firmness = f) ∨
      ∃ l a b r, pts = l ++ a :: b :: r ∧ a.firmness < f ∧ f < b.firmness) ∧
    ((∀ q ∈ pts, q.current ≤ 2000) → interpolate pts f ≤ 2000)

/-- The target current of a channel (R31, R40, R48, R50, R81, R87, R94, R96, R117, R121): what the map and the ceiling give
for a firmness; which firmness drives; how far a ramp's or release's step has come; and what a recomputation does. Only a
channel in TRACK whose current has changed takes it; a change by more than the settle band of the old target starts the
settle timer afresh, at 20 samples for each millisecond of the settle timeout (the model's reading, log 5), and at an armed
valve with an IDLE analyzer that has no channel to take (the model's reading, log 12) starts a track capture, with the
sample buffer empty (log 34). The coil is not driven in OFF, FAULT and WAITING; else its output is regulated to the target,
at the tuned gain, or gain 0 in PREPARE before there is one, and in SEARCHING at the gain of the trial. -/
def Obligations.TargetRecomputed : Prop :=
  (∀ (p : Part) (v : ValveId) (f : Nat),
    let h := (p.channel v).heat
    let ceiling := match h.level with | .cool => 2000 | .warm => h.warmCeiling | .hot => h.hotCeiling
    p.currentAt v f = match (p.map v).active with | some pts => min (interpolate pts f) ceiling | none => 0) ∧
  (∀ ch : Channel,
    (ch.phase = .none → ch.drive = ch.setpoint) ∧ (∀ u, ch.phase = .override u → ch.drive = u) ∧
    (∀ u l first, ch.phase = .release u l 0 first → ch.drive = u) ∧
    (∀ u l k first, ch.phase = .release u l k first → 1 ≤ k → ch.drive = blend u ch.setpoint k l)) ∧
  (∀ s t k r : Nat, 1 ≤ r → k ≤ r → (blend s t k r : ℤ) = s + Int.tdiv (((t : ℤ) - s) * k) r) ∧
  (∀ (p : Part) (v : ValveId),
    let ch := p.channel v
    let new := p.currentAt v ch.drive
    let qualifying := max 20 (3 * ch.target / 100) < (new - ch.target) + (ch.target - new)
    let started : Part := p.setChannel v { ch with target := new, settle := some ⟨20 * ch.settleTimeout, 0⟩ }
    let triggered := p.analyzer.trace = .armed v ∧ p.analyzer.state = .idle ∧
      ∀ u ∈ p.analyzer.queue, (p.channel u).heat.level = .hot
    (ch.state ≠ .track ∨ new = ch.target → p.recompute v = p) ∧
    (ch.state = .track → new ≠ ch.target →
      (¬qualifying → p.recompute v = p.setChannel v { ch with target := new }) ∧
      (qualifying → ¬triggered → p.recompute v = started) ∧
      (∀ g, qualifying → triggered → ch.tunedGain = some g →
        p.recompute v =
          { started with
            analyzer :=
              { p.analyzer with
                state := .capturing v, buffer := [], trace := .capturing
                hand := some ⟨v, g.val, ch.frame, [], none⟩ } }))) ∧
  (∀ (p : Part) (v : ValveId),
    let ch := p.channel v
    (ch.state = .off ∨ (∃ x, ch.state = .fault x) ∨ ch.state = .tune .waiting → p.coilOutput v = none) ∧
    (∀ x, ch.state = .prepare x → ch.tunedGain = none → p.coilOutput v = some (ch.target, 0)) ∧
    (∀ g : Fin 16, (∃ x, ch.state = .prepare x) ∨ ch.state = .track → ch.tunedGain = some g →
      p.coilOutput v = some (ch.target, g.val)) ∧
    (∀ h, ch.state = .tune .searching → p.analyzer.state = .searching h → p.coilOutput v = some (ch.target, h.gain)))

/-! ## Setup commands -/

/-- A command write that is not dispatched. With no lane enabled it is forwarded only; while a command is in hand it hands
SETUP OVERRUN with both kinds and tags, at the Frame Timer's frame (R131, R132). A received command is refused as a whole
for a partial-lane write, a lane parity error, an unknown kind, or a mask that does not name the targets its kind needs;
nothing but the decoder and its reply changes (R133, R134, R137). The known kinds are the codes 1 to 25. -/
def Obligations.CommandRefusedWhole : Prop :=
  (∀ code : BitVec 8, namesKind code = true ↔ 1 ≤ code.toNat ∧ code.toNat ≤ 25) ∧
  (∀ (c : Instr) (code : BitVec 8) (w : CommandWrite) (s : State), setupRow c = some (code, w) →
     let f := s.commandArrived code w
     let seen := commandOf (seenWord (commandBeat code w))
     (w.lanes = 0 → exec c s = .next f) ∧
     (∀ h, w.lanes ≠ 0 → f.part.setup.state ≠ .free → f.part.setup.inHand = some h →
       exec c s =
         .next { f with
           part :=
             { f.part with
               journal := f.part.journal.hand (.setupOverrun seen.kind seen.tag h.kind h.tag) f.part.timer.frame } })) ∧
  (∀ (c : Instr) (code : BitVec 8) (w : CommandWrite) (s : State) (reason : ReplyReason),
     setupRow c = some (code, w) → w.lanes ≠ 0 →
     let f := s.commandArrived code w
     let seen := commandOf (seenWord (commandBeat code w))
     let n := code.toNat
     let bad := s.badOf (commandBeat code w) ≠ 0
     let targetless :=
       if n = 1 ∨ n = 2 ∨ 22 ≤ n then False
       else if n = 3 ∨ n = 4 ∨ (10 ≤ n ∧ n ≤ 13) ∨ n = 21 then w.mask.toNat % 16 = 0
       else if n = 20 then ¬∃ v, w.namesValve v
       else w.mask = 0
     f.part.setup.state = .free →
     (w.lanes ≠ 15 ∧ reason = .partialWrite) ∨ (w.lanes = 15 ∧ bad ∧ reason = .parity) ∨
       (w.lanes = 15 ∧ ¬bad ∧ namesKind code = false ∧ reason = .unknownKind) ∨
       (w.lanes = 15 ∧ ¬bad ∧ namesKind code = true ∧ targetless ∧ reason = .target) →
       exec c s =
         .next { f with
           part :=
             ({ f.part with setup := { f.part.setup with state := .judging, inHand := some seen } } : Part).owing []
               ⟨seen.kind, seen.tag, .refused, 0, some reason⟩ })

/-- A received command that is dispatched (R83, R131, R134, R135, R137 to R139, R145): each target its mask names is judged once, in an
open order (log 4), by the state as the target finds it; then the reply is DONE, PARTLY or REFUSED, with the refused
targets' bits and the lowest refused target's reason. All but the `later` last targets are judged within the write's own
step, and of RESTART, READY MODE and ATTN THRESHOLD the one they have; the others one by one afterwards. Until then every
command but RESETN leaves the decoder as it is, save that those of PROMOTE MAP all come before a map write which the Map
Store captures after the command (promotionsFirst; Staging, MapValidated). Which targets are later is open (the form is the model's choice, log 28); that a refused global
command's mask names no target is the model's reading (log 27). Each kind's class is the one of R134: corner for 3, 4, 10
to 13 and 21; global for 1, 2 and 22 to 25; valve for the others. -/
def Obligations.CommandBroadcast : Prop :=
  (∀ (n : Nat) (k : Kind), Kind.ofCode n = some k →
    k.cls =
      if n = 1 ∨ n = 2 ∨ 22 ≤ n then .global
      else if n = 3 ∨ n = 4 ∨ (10 ≤ n ∧ n ≤ 13) ∨ n = 21 then .corner
      else .valve) ∧
  (∀ (c : Instr) (code : BitVec 8) (w : CommandWrite) (s : State) (k : Kind),
    setupRow c = some (code, w) → s.hears code w → Kind.ofCode code.toNat = some k → k.targetsOk w.mask = true →
    let judge := fun (p : Part) (t : Nat) => p.judgeTarget k w.arg.toNat w.order t
    let named :=
      match k.cls with
      | .valve => (List.range 8).filter fun t => w.mask.getLsbD t
      | .corner => (List.range 4).filter fun t => w.mask.getLsbD t
      | .global => [0]
    ∃ (js : List Judgement) (rest : List Nat) (q : Part),
      exec c s = .next { s.commandArrived code w with part := q } ∧
      Gathered k ⟨code, w.mask, w.tag, w.arg⟩ js rest (js.foldl (fun p j => (judge p j.target).1) (s.met code w)) q ∧
      ((js.map fun j => j.target) ++ rest).Perm named ∧
      rest.length = (if code = 23 ∨ code = 24 ∨ code = 25 then 0 else min w.later named.length) ∧
      (∀ l j r, js = l ++ j :: r →
        j.refusal = (judge (l.foldl (fun p j => (judge p j.target).1) (s.met code w)) j.target).2)) ∧
  (∀ (p : Part) (cmd : Command) (k : Kind) (t : Nat) (rest : List Nat), DecoderOrdered p →
    p.setup.inHand = some cmd → Kind.ofCode cmd.kind.toNat = some k → p.setup.outstanding = t :: rest →
    let j := p.judgeTarget k cmd.arg.toNat [] t
    Gathered k cmd (p.setup.judgements ++ [⟨t, j.2⟩]) rest j.1 p.judgeNext) ∧
  (∀ (c : Instr) (s t : State), DecoderOrdered s.part → s.part.setup.state = .judging →
    (∀ region psense safe dflt, c ≠ .resetn region psense safe dflt) →
    (∀ cmd addr b o, s.part.setup.inHand = some cmd → cmd.kind = 9 → writeOf s.part.bridge c = some (addr, b) →
      s.part.bridge.offset addr = some o → classOfOffset o ≠ .mapBlock) →
    exec c s = .next t → t.part.setup = s.part.setup) ∧
  (∀ p : Part, p.setup.state ≠ .judging ∨ p.setup.outstanding = [] ∨ (∀ cmd, p.setup.inHand = some cmd → cmd.kind ≠ 9) →
    p.promotionsFirst = p) ∧
  (∀ (p : Part) (cmd : Command), p.setup.state = .judging → p.setup.inHand = some cmd → cmd.kind = 9 →
    p.setup.outstanding ≠ [] → p.promotionsFirst = p.judgeNext.promotionsFirst)

/-- The commands that set the part as a whole (R21, R67, R136, R138, R160, R162): FRAME PERIOD, START FRAMES, AXLE PAIRING,
READY MODE, ATTN THRESHOLD. A refused one names no target in its refused mask (the model's reading, log 27). -/
def Obligations.PartSettings : Prop :=
  ∀ (w : CommandWrite) (s : State),
    let a := w.arg.toNat
    (s.receives 1 w →
      let p := s.met 1 w
      exec (.framePeriod w) s =
        .next (s.judged 1 w 0 0
          (if 14 < a then some .range else if p.timer.running = true then some .framesRunning else none)
          { p with timer := { p.timer with period := a } })) ∧
    (s.receives 2 w →
      let p := s.met 2 w
      exec (.startFrames w) s =
        .next (s.judged 2 w 0 0 (if p.timer.running = true then some .framesRunning else none)
          { p with timer := { p.timer with running := true } })) ∧
    (s.receives 22 w →
      exec (.axlePairing w) s =
        .next (s.judged 22 w 0 0 (if 1 < a then some .range else none)
          { s.met 22 w with pairing := decide (a = 1) })) ∧
    (s.hears 23 w →
      let p := s.met 23 w
      let mode : ReadyMode := if a = 0 then .all else if a = 1 then .any else if a = 2 then .front else .rear
      let r := p.lines.reported
      exec (.readyMode w) s =
        .next (s.judged 23 w 0 0 (if 3 < a then some .range else none)
          { p with
            setup := { p.setup with readyMode := mode }
            lines :=
              { p.lines with
                mode := mode
                ready :=
                  if a = 0 then r[0] && r[1] && r[2] && r[3]
                  else if a = 1 then r[0] || r[1] || r[2] || r[3]
                  else if a = 2 then r[0] && r[1]
                  else r[2] && r[3] } })) ∧
    (s.hears 24 w →
      let p := s.met 24 w
      exec (.attnThreshold w) s =
        .next (s.judged 24 w 0 0 (if a = 0 ∨ 127 < a then some .range else none)
          { p with
            setup := { p.setup with attnThreshold := a }
            journal :=
              { p.journal with
                threshold := a
                attn := decide (a ≤ (p.journal.write - p.journal.read).toNat) || p.journal.alarm.isSome } }))

/-- RUN CORNERS and IDLE CORNERS at one corner (R58 to R61, R71, R72). The override drops of IDLE CORNERS also end what was
on its way of an override end (the model's reading, log 9). -/
def Obligations.RunAndIdleCorners : Prop :=
  ∀ (w : CommandWrite) (s : State) (c : CornerId), w.namesCorner c →
    (s.receives 3 w →
      let p := s.met 3 w
      let k := p.corner c
      let left := (p.channel (compressionValve c)).state
      let right := (p.channel (reboundValve c)).state
      let ready := !k.dryRun && decide (left = .track) && decide (right = .track)
      exec (.runCorners w) s =
        .next (s.judged 3 w c.val (targetBit c.val)
          (if p.timer.running = false then some .framesStopped
           else if p.lines.safe = true then some .safe
           else if k.state = .run ∨ k.state = .safe then some .wrongState
           else if left.isFault = true ∨ right.isFault = true then some .faultPresent
           else none)
          { p with
            corners := p.corners.set c
              { k with state := .run, silence := 0, lastTaken := none, limpCause := .none, ready := ready }
            lines :=
              { p.lines with
                reported := p.lines.reported.set c ready
                ready := readyOutput p.lines.mode (p.lines.reported.set c ready) }
            journal := p.journal.hand (.cornerRun c k.state) k.frame })) ∧
    (s.receives 4 w →
      let p := s.met 4 w
      let k := p.corner c
      (k.state = .idle ∨ k.state = .safe →
        exec (.idleCorners w) s = .next (s.turnedAway 4 w c.val (targetBit c.val) .wrongState)) ∧
      (k.state = .run ∨ k.state = .limp →
        ∃ q, exec (.idleCorners w) s = .next (s.taken 4 w c.val q) ∧ WorkLeft p q c .idle ∧
          q.corner c = { k with state := .idle, limpCause := .none, list := [], hold := none, ready := false } ∧
          (∀ e, e ≠ c → q.corner e = p.corner e) ∧ SameLoops ((p.dropped c).limpRamped c (k.frame + 1)) q ∧
          q.lines = p.unready c ∧
          q.journal = p.journal.hand (.cornerIdle c k.state) k.frame))

/-- ENABLE VALVES, DISABLE VALVES and CLEAR FAULT at one valve (R88, R99, R100, R103, R104). Where DISABLE VALVES takes the
corner to LIMP, the override drops also end what was on its way of an override end (the model's reading, log 9). That the
lost notice takes the corner to LIMP within the same step (R65, R105), as spec/95 lists LOST_NOTICE within the row, is the
model's reading (log 37). -/
def Obligations.EnableDisableClear : Prop :=
  ∀ (w : CommandWrite) (s : State) (v : ValveId), w.namesValve v →
    (s.receives 5 w →
      let p := s.met 5 w
      let ch := p.channel v
      exec (.enableValves w) s =
        .next (s.judged 5 w v.val (targetBit v.val)
          (if ch.state ≠ .off then some .wrongState
           else if p.lines.safe = true then some .safe
           else if (p.corner (cornerOf v)).dryRun = true then some .dryRun
           else if p.driverFault v = true then some .driverLine
           else if (p.map v).active = none then some .noMap
           else none)
          { p with
            channels := p.channels.set v { ch with state := .prepare ⟨0, .reaching 0⟩, target := 250 }
            journal := p.journal.hand (.channelState v .off .prepare .enable) ch.frame })) ∧
    (s.receives 6 w →
      let p := s.met 6 w
      let ch := p.channel v
      (ch.state = .off ∨ (∃ x, ch.state = .fault x) →
        exec (.disableValves w) s = .next (s.turnedAway 6 w v.val (targetBit v.val) .wrongState)) ∧
      (ch.state ≠ .off → (∀ x, ch.state ≠ .fault x) →
        ∃ q, exec (.disableValves w) s = .next (s.taken 6 w v.val q) ∧
          ChannelLost p q v .off (.channelState v ch.state.name .off .disable) (.valveLost v))) ∧
    (s.receives 7 w →
      let p := s.met 7 w
      let ch := p.channel v
      ((∀ x, ch.state ≠ .fault x) →
        exec (.clearFault w) s = .next (s.turnedAway 7 w v.val (targetBit v.val) .wrongState)) ∧
      (∀ x, ch.state = .fault x →
        exec (.clearFault w) s =
          .next (s.judged 7 w v.val (targetBit v.val) (if p.driverFault v = true then some .driverLine else none)
            { p with
              channels := p.channels.set v { ch with state := .off }
              journal := p.journal.hand (.channelState v .fault .off (.clearFault x)) ch.frame })))

/-- RETUNE and PROMOTE MAP at one valve (R82, R84, R93, R104, R108). A ramp request on its way counts as a waiting request
(the model's reading, log 10); the value 0 of the emptied staging is the model's choice (log 15). That the leaving-TRACK
notice of RETUNE makes the corner not ready within the same step (R71, R105) is the model's reading (log 37). -/
def Obligations.RetuneAndPromote : Prop :=
  ∀ (w : CommandWrite) (s : State) (v : ValveId), w.namesValve v →
    (s.receives 8 w →
      let p := s.met 8 w
      let ch := p.channel v
      (∀ x, x = (if ch.state ≠ .track then some .wrongState
           else if (p.corner (cornerOf v)).state = .run then some .notQuiescent
           else if ch.heat.level = .hot then some .hot
           else none : Option ReplyReason) →
        (∀ r, x = some r → exec (.retune w) s = .next (s.turnedAway 8 w v.val (targetBit v.val) r)) ∧
        (x = none →
          ∃ q, ChannelStopped p q v (.tune .waiting) ∧
            exec (.retune w) s =
              .next (s.taken 8 w v.val
                { q with
                  analyzer := { q.analyzer with queue := q.analyzer.queue ++ [v] }
                  journal := p.journal.hand (.channelState v .track .tune .retune) ch.frame })))) ∧
    (s.receives 9 w →
      let p := s.met 9 w
      let ch := p.channel v
      let k := p.corner (cornerOf v)
      let quiescent := ch.state = .off ∨ (∃ x, ch.state = .fault x) ∨ k.state ≠ .run ∨
        (k.list = [] ∧ k.hold = none ∧ ch.ramp = none ∧ ch.waiting = none ∧ ch.requests = [] ∧ ch.phase = .none)
      ((p.map v).state ≠ .valid →
        exec (.promoteMap w) s = .next (s.turnedAway 9 w v.val (targetBit v.val) .noPendingMap)) ∧
      ((p.map v).state = .valid → ¬quiescent →
        exec (.promoteMap w) s = .next (s.turnedAway 9 w v.val (targetBit v.val) .notQuiescent)) ∧
      (∀ h, (p.map v).state = .valid → quiescent → (p.map v).header = some h →
        exec (.promoteMap w) s =
          .next (s.taken 9 w v.val
            ((p.setMap v
              { p.map v with
                active := some ((List.range (h.data.toNat % 32)).map fun n =>
                  mapPoint (stagedWord (p.map v).staging.toList n))
                state := .empty, staging := Vector.replicate 64 ⟨0, false, false⟩, header := none }).recompute v))))

/-- The commands that set a corner (R32, R62, R63, R70, R136): LIMP FIRMNESS, which an IDLE or LIMP corner follows with a
new limp ramp; LIMP RAMP; SILENCE LIMIT; WATERMARKS; DRY RUN. -/
def Obligations.CornerSettings : Prop :=
  ∀ (w : CommandWrite) (s : State) (c : CornerId), w.namesCorner c →
    let a := w.arg.toNat
    (s.receives 10 w →
      let p := s.met 10 w
      let k := p.corner c
      let p1 : Part := { p with corners := p.corners.set c { k with limpFirmness := a } }
      (1000 < a → exec (.limpFirmness w) s = .next (s.turnedAway 10 w c.val (targetBit c.val) .range)) ∧
      (a ≤ 1000 → k.state = .run ∨ k.state = .safe → exec (.limpFirmness w) s = .next (s.taken 10 w c.val p1)) ∧
      (a ≤ 1000 → k.state = .idle ∨ k.state = .limp →
        exec (.limpFirmness w) s = .next (s.taken 10 w c.val (p1.limpRamped c (k.frame + 1))))) ∧
    (s.receives 11 w →
      exec (.limpRamp w) s =
        .next (s.judged 11 w c.val (targetBit c.val) (if 255 < a then some .range else none)
          ((s.met 11 w).setCorner c { (s.met 11 w).corner c with limpRamp := a }))) ∧
    (s.receives 12 w →
      exec (.silenceLimit w) s =
        .next (s.judged 12 w c.val (targetBit c.val) (if a < 2 ∨ 255 < a then some .range else none)
          ((s.met 12 w).setCorner c { (s.met 12 w).corner c with silenceLimit := a }))) ∧
    (s.receives 13 w →
      exec (.watermarks w) s =
        .next (s.judged 13 w c.val (targetBit c.val)
          (if 255 < a ∨ a / 16 ≤ a % 16 ∨ 8 < a / 16 then some .range else none)
          ((s.met 13 w).setCorner c { (s.met 13 w).corner c with lowMark := a % 16, highMark := a / 16 }))) ∧
    (s.receives 21 w →
      let p := s.met 21 w
      exec (.dryRun w) s =
        .next (s.judged 21 w c.val (targetBit c.val)
          (if 1 < a then some .range
           else if (p.corner c).state = .idle ∧ (p.channel (compressionValve c)).state.isOffOrFault = true ∧
              (p.channel (reboundValve c)).state.isOffOrFault = true then none
           else some .wrongState)
          (p.setCorner c { p.corner c with dryRun := decide (a = 1) })))

/-- The commands that set a valve (R98, R112, R115, R127, R136): SETTLE TIMEOUT, SEARCH REACH, WARM CEILING, HOT CEILING,
ARM TRACE. -/
def Obligations.ValveSettings : Prop :=
  ∀ (w : CommandWrite) (s : State) (v : ValveId), w.namesValve v →
    let a := w.arg.toNat
    let outcome := fun (c : Instr) (code : BitVec 8) (reason : Option ReplyReason) (p : Part) =>
      exec c s = .next (s.judged code w v.val (targetBit v.val) reason p)
    let withHeat := fun (p : Part) (h : Heat) => p.setChannel v { p.channel v with heat := h }
    (s.receives 14 w →
      outcome (.settleTimeout w) 14 (if a = 0 ∨ 15 < a then some .range else none)
        ((s.met 14 w).setChannel v { (s.met 14 w).channel v with settleTimeout := a })) ∧
    (s.receives 15 w →
      outcome (.searchReach w) 15 (if a = 0 ∨ 8 < a then some .range else none)
        ((s.met 15 w).setChannel v { (s.met 15 w).channel v with searchReach := a })) ∧
    (s.receives 18 w →
      let p := s.met 18 w
      let h := (p.channel v).heat
      let p1 := withHeat p { h with warmCeiling := a }
      outcome (.warmCeiling w) 18 (if 2000 < a ∨ a < h.hotCeiling then some .range else none)
        (if h.level = .warm then p1.recompute v else p1)) ∧
    (s.receives 19 w →
      let p := s.met 19 w
      let h := (p.channel v).heat
      let p1 := withHeat p { h with hotCeiling := a }
      outcome (.hotCeiling w) 19 (if 2000 < a ∨ h.warmCeiling < a then some .range else none)
        (if h.level = .hot then p1.recompute v else p1)) ∧
    (s.receives 20 w →
      let p := s.met 20 w
      outcome (.armTrace w) 20 (if p.analyzer.trace = .idle then none else some .busy)
        { p with analyzer := { p.analyzer with trace := .armed v } })

/-- RESTART (R19, R55, R57, R106, R129, R139, R154, R159): pending entries and holds are flushed, each at its corner's
frame; staged records are discarded; every block takes its restart values; owed demand, urgent, map and reply work
stands, and so do maps, tuned gains, heat, faults, the straps, the sticky summaries and memory. The order among the
corners is open (log 4), and what was on its way is dropped (log 11); the value 0 of a discarded byte is the model's
choice (log 15). -/
def Obligations.Restart : Prop :=
  ∀ (w : CommandWrite) (s : State), s.hears 25 w →
    let p := s.met 25 w
    let order := arrange w.order allCorners
    order.Perm allCorners ∧
    ∃ q, exec (.restart w) s = .next (s.taken 25 w 0 q) ∧
      (p.listedSlots.Nodup → ∀ c, ∀ e ∈ (p.corner c).list,
        q.demandSlot e.slot =
          { p.demandSlot e.slot with state := .retiring, final := some (.flushed .restart (p.corner c).frame) }) ∧
      (∀ i, i ∉ p.listedSlots →
        q.demandSlot i =
          if (p.demandSlot i).state = .filling then
            { p.demandSlot i with state := .free, staging := Vector.replicate 12 ⟨0, false, false⟩ }
          else p.demandSlot i) ∧
      (∀ c, (p.corner c).hold.isSome = true →
        q.urgentSlot c = flushedUrgent (p.corner c).hold .restart (p.corner c).frame (p.urgentSlot c)) ∧
      (∀ c, (p.corner c).hold = none →
        q.urgentSlot c =
          if (p.urgentSlot c).state = .filling then
            { p.urgentSlot c with state := .free, staging := Vector.replicate 12 ⟨0, false, false⟩ }
          else p.urgentSlot c) ∧
      q.engine =
        { p.engine with
          demand := order.foldl
            (fun l c => (p.corner c).list.foldl (fun l e => offered l e.slot) l) p.engine.demand
          urgent := order.foldl
            (fun l c => if (p.corner c).hold.isSome = true then offered l c else l) p.engine.urgent
          trace := false
          hand := p.engine.hand.bind fun it => if it.kind = .journal ∨ it.kind = .trace then none else some it } ∧
      (∀ c, q.corner c =
        { State.reset.part.corner c with state := if p.lines.safe = true then .safe else .idle }) ∧
      (∀ v, q.channel v =
        { State.reset.part.channel v with
          state := match (p.channel v).state with
            | .fault x => .fault x
            | .off => .off
            | .prepare _ => .off
            | .tune _ => .off
            | .track => .off
          tunedGain := (p.channel v).tunedGain
          measured := (p.channel v).measured
          heat :=
            { (State.reset.part.channel v).heat with
              index := (p.channel v).heat.index, level := (p.channel v).heat.level } }) ∧
      (∀ c : CornerId, q.lines.reported[c] = false) ∧
      q =
        { p with
          demand := q.demand, urgent := q.urgent, engine := q.engine, corners := q.corners, channels := q.channels
          timer := ⟨false, 0, 2⟩
          pairing := true
          analyzer := ⟨.idle, [], [], .idle, none⟩
          setup := { p.setup with readyMode := .all, attnThreshold := 1 }
          journal := ⟨[⟨.restart, 0, 0, 0⟩], 0, 0, 0, 1, none, 1, false⟩
          lines := { p.lines with reported := q.lines.reported, mode := .all, ready := false } }

/-! ## The journal -/

/-- A write of the journal read index (R141, R142, R158, R160). With no lane enabled it is forwarded only; one that is
partial, has a bad lane, or names an index above 127 or outside the span from R to W hands BAD READ INDEX at the Frame
Timer's frame and changes nothing else; one that is taken moves R, clears an alarm among the entries consumed, and has
ATTN evaluated. The value of a partial write, with 0 in the lanes not enabled, and PARTIAL WRITE as the cause of a write
that is partial and has a bad lane, are the model's choices (log 18). -/
def Obligations.JournalReadIndex : Prop :=
  ∀ (b : Beat) (s : State),
    let f := s.arrived (setupOffset 2) b
    let j := f.part.journal
    let bad := fun (cause : IndexFailure) (value : Word) =>
      exec (.journalReadIndex b) s =
        .next { f with
          part := { f.part with journal := j.hand (.badReadIndex cause value j.read j.write) f.part.timer.frame } }
    let x := b.data.toNat % 256
    let taken := (x + 128 - j.read.toNat) % 128
    let unconsumed := (j.write.toNat + 128 - j.read.toNat) % 128
    (b.lanes = 0 → exec (.journalReadIndex b) s = .next f) ∧
    (b.lanes ≠ 0 → b.lanes ≠ 15 →
      bad .partialWrite ((if b.lanes.getLsbD 3 = true then laneByte b.data 3 else 0) ++
        (if b.lanes.getLsbD 2 = true then laneByte b.data 2 else 0) ++
        (if b.lanes.getLsbD 1 = true then laneByte b.data 1 else 0) ++
        (if b.lanes.getLsbD 0 = true then laneByte b.data 0 else 0))) ∧
    (b.lanes = 15 → s.badOf b ≠ 0 → bad .parity b.data) ∧
    (b.lanes = 15 → s.badOf b = 0 → 127 < x ∨ unconsumed < taken → bad .outOfSpan b.data) ∧
    (b.lanes = 15 → s.badOf b = 0 → x ≤ 127 → taken ≤ unconsumed →
      let alarm := j.alarm.bind fun a => if (a.toNat + 128 - j.read.toNat) % 128 < taken then none else some a
      exec (.journalReadIndex b) s =
        .next { f with
          part :=
            { f.part with
              journal :=
                { j with
                  read := BitVec.ofNat 7 x
                  alarm := alarm
                  attn := decide (j.threshold ≤ unconsumed - taken) || alarm.isSome } } })

/-- An event handed to the Journal Unit (R156): it joins the staging list with the next sequence and the lost count as
its lost-before count, or, when the list holds 16 entries, is counted lost, up to 255. -/
def Obligations.JournalHand : Prop :=
  ∀ (j : Journal) (e : Event) (f : Frame),
    (j.staging.length < 16 →
      j.hand e f = { j with staging := j.staging ++ [⟨e, f, j.next, j.lost⟩], next := j.next + 1, lost := 0 }) ∧
    (16 ≤ j.staging.length → j.hand e f = { j with lost := min 255 (j.lost + 1) })

/-! ## Frames -/

/-- The end of a frame period at a RUNNING timer advances the frame number by one modulo 65536 and changes nothing else;
at a STOPPED timer there is no boundary (R22). A Corner Controller outside RUN takes a boundary without change but for its
frame (R29). A corner that is not at the Frame Timer's frame has one to take, whatever the number outstanding (R23; the
model's choice, log 30), and without one nothing happens (log 2). -/
def Obligations.FrameBoundaries : Prop :=
  (∀ s : State,
    (s.part.timer.running = false → exec .frameBoundary s = .next s) ∧
    (s.part.timer.running = true →
      ∃ n : Frame, n.toNat = (s.part.timer.frame.toNat + 1) % 65536 ∧
        exec .frameBoundary s = .next { s with part := { s.part with timer := { s.part.timer with frame := n } } })) ∧
  (∀ (c : CornerId) (s : State),
    (s.part.timer.running = false ∨ (s.part.corner c).frame = s.part.timer.frame →
      exec (.cornerFrameBoundary c) s = .next s) ∧
    (s.part.timer.running = true → (s.part.corner c).frame ≠ s.part.timer.frame → (s.part.corner c).state ≠ .run →
      exec (.cornerFrameBoundary c) s =
        .next { s with
          part := s.part.setCorner c { s.part.corner c with frame := (s.part.corner c).frame + 1 } }))

/-- A corner in RUN at a boundary below its silence limit (R29 to R33, R49): the silence count rises; the entries due at
the frame leave the list, the one taken last applied with its currents and a ramp request to each valve it selects, the
others superseded; QUEUE LOW is handed when the count falls to the low watermark; then the hold counts down, and at 0 it
ends, with an override end to each valve it selected. HOLD_EXPIRY is that boundary (the model's reading, log 3). The due
entries name distinct slots, as SlotsListed has it. That any number of boundaries may be outstanding (log 30) and the value
0 of the emptied cancel bytes (log 15) are the model's choices. -/
def Obligations.CornerBoundaryInRun : Prop :=
  ∀ (c : CornerId) (s : State),
    let p := s.part
    let k := p.corner c
    let n := k.frame + 1
    let due := k.list.filter fun e => decide (e.target = n)
    let rest := k.list.filter fun e => decide (e.target ≠ n)
    let side := fun (v : ValveId) (sel : ValveSelect) =>
      if v = compressionValve c then sel.hasCompression else if v = reboundValve c then sel.hasRebound else false
    let firmness := fun (v : ValveId) (e : Entry) => if v = compressionValve c then e.compression else e.rebound
    let current := fun (v : ValveId) (e : Entry) =>
      if side v e.select = true then p.currentAt v (firmness v e) else 0
    let ends := ∃ h, k.hold = some h ∧ h.left ≤ 1
    p.timer.running = true → k.frame ≠ p.timer.frame → k.state = .run → k.silence + 1 < k.silenceLimit →
    (due.map fun e => e.slot).Nodup →
      ∃ q, exec (.cornerFrameBoundary c) s = .next { s with part := q } ∧
        (ends → exec (.holdExpiry c) s = .next { s with part := q }) ∧
        (¬ends → exec (.holdExpiry c) s = .next s) ∧
        q.corner c =
          { k with
            frame := n, silence := k.silence + 1, list := rest
            hold := k.hold.bind fun h => if h.left ≤ 1 then none else some { h with left := h.left - 1 } } ∧
        (∀ d, d ≠ c → q.corner d = p.corner d) ∧
        (∀ l e, due = l ++ [e] →
          q.demandSlot e.slot =
            { p.demandSlot e.slot with
              state := .retiring
              final := some (.applied n (current (compressionValve c) e) (current (reboundValve c) e)) } ∧
          (∀ x ∈ l, q.demandSlot x.slot =
            { p.demandSlot x.slot with state := .retiring, final := some (.superseded n) })) ∧
        (∀ i, (∀ e ∈ due, e.slot ≠ i) → q.demandSlot i = p.demandSlot i) ∧
        (ends →
          q.urgentSlot c =
            { p.urgentSlot c with
              state := .owed, final := some (.ended n), cancel := Vector.replicate 12 ⟨0, false, false⟩ }) ∧
        (∀ d, d ≠ c ∨ ¬ends → q.urgentSlot d = p.urgentSlot d) ∧
        (∀ v, q.channel v =
          { p.channel v with
            requests := (p.channel v).requests ++
              (match due.getLast? with
                | some e => if side v e.select = true then [⟨firmness v e, max 1 e.ramp, n⟩] else []
                | none => [])
            ends := (p.channel v).ends ++
              (match k.hold with
                | some h => if h.left ≤ 1 ∧ side v h.select = true then [⟨h.release, n⟩] else []
                | none => []) }) ∧
        q.engine =
          { p.engine with
            demand := due.foldl (fun l e => offered l e.slot) p.engine.demand
            urgent := match k.hold with
              | some h => if h.left ≤ 1 then offered p.engine.urgent c else p.engine.urgent
              | none => p.engine.urgent } ∧
        q =
          { p with
            corners := q.corners, demand := q.demand, urgent := q.urgent, channels := q.channels, engine := q.engine
            journal :=
              if rest.length < k.list.length ∧ rest.length ≤ k.lowMark ∧ k.lowMark < k.list.length then
                p.journal.hand (.queueLow c rest.length k.lowMark) n
              else p.journal }

/-- Silence and partners (R64, R66). At the boundary at which the silence count of a corner in RUN reaches its limit it
enters LIMP with cause SILENCE, its limp ramp for that boundary's frame: that boundary is SILENCE_EXPIRY (the model's
reading, log 3), which otherwise changes nothing. A partner notice that reaches a corner in RUN takes it to LIMP with cause
PARTNER, its limp ramp for the frame the notice names; elsewhere the notice has no effect. The notice taken is the oldest
on its way (the model's reading, log 7), however late (log 29), and with none on its way nothing happens (log 2); any number
of boundaries may be outstanding at the corner (log 30); the override drops of LIMP also end what was on its way of an
override end (log 9). -/
def Obligations.SilenceAndPartner : Prop :=
  ∀ (c : CornerId) (s : State),
    let p := s.part
    let k := p.corner c
    let expires := p.timer.running = true ∧ k.frame ≠ p.timer.frame ∧ k.state = .run ∧ k.silenceLimit ≤ k.silence + 1
    (expires →
      ∃ q, exec (.silenceExpiry c) s = .next { s with part := q } ∧
        exec (.cornerFrameBoundary c) s = .next { s with part := q } ∧
        LimpEntered (p.setCorner c { k with frame := k.frame + 1, silence := k.silence + 1 }) q c
          (.silence (k.silence + 1)) (k.frame + 1)) ∧
    (¬expires → exec (.silenceExpiry c) s = .next s) ∧
    (k.notices = [] → exec (.partnerNotice c) s = .next s) ∧
    (∀ n rest, k.notices = n :: rest →
      let p1 := p.setCorner c { k with notices := rest }
      (k.state = .run →
        ∃ q, exec (.partnerNotice c) s = .next { s with part := q } ∧
          LimpEntered p1 q c (.partner n.sender) n.frame) ∧
      (k.state ≠ .run → exec (.partnerNotice c) s = .next { s with part := p1 }))

/-- A channel at its boundary (R38, R50, R94), of which any number may be outstanding (the model's choice, log 30). Requests
and ends for its current frame or a past one reach it first (the model's reading, log 7), the requests before the ends (log
32), each list up to the first for a later frame (log 36): the model's choices. Then it saves its setpoint, takes the next
step of its ramp or the first of the waiting request's, advances its release, and has its target recomputed.
SETPOINT_RAMP_END and RELEASE_END are the boundaries at which a ramp and a release end (log 3); without a boundary to take
nothing happens (log 2). -/
def Obligations.ChannelBoundary : Prop :=
  ∀ (v : ValveId) (s : State),
    let p := s.part
    let ch := p.channel v
    let n := ch.frame + 1
    let waits := fun (f : Frame) => 1 ≤ ahead f ch.frame ∧ ahead f ch.frame < 32768
    let request := ∃ r rest, ch.requests = r :: rest ∧ ¬waits r.frame
    let ended := ∃ e rest, ch.ends = e :: rest ∧ ¬waits e.frame
    (p.timer.running = false ∨ ch.frame = p.timer.frame →
      exec (.channelFrameBoundary v) s = .next s ∧ exec (.setpointRampEnd v) s = .next s ∧
        exec (.releaseEnd v) s = .next s) ∧
    (p.timer.running = true → ch.frame ≠ p.timer.frame →
      (request → ∃ t, exec (.rampRequest v) s = .next t ∧
        exec (.channelFrameBoundary v) s = exec (.channelFrameBoundary v) t) ∧
      (¬request → ended → ∃ t, exec (.overrideEnd v) s = .next t ∧
        exec (.channelFrameBoundary v) s = exec (.channelFrameBoundary v) t) ∧
      (¬request → ¬ended →
        ∃ (setpoint : Nat) (ramp : Option Ramp) (phase : Phase) (t : State),
          t = { s with
            part := (p.setChannel v
              { ch with
                frame := n, previous := ch.setpoint, setpoint := setpoint, ramp := ramp, waiting := none
                phase := phase }).recompute v } ∧
          exec (.channelFrameBoundary v) s = .next t ∧
          (∀ w, ch.waiting = some w →
            setpoint = blend ch.setpoint w.target 1 w.length ∧
            ramp = if w.length ≤ 1 then none else some ⟨ch.setpoint, w.target, w.length, 1⟩) ∧
          (∀ r, ch.waiting = none → ch.ramp = some r →
            setpoint = blend r.start r.target (r.count + 1) r.length ∧
            ramp = if r.length ≤ r.count + 1 then none else some { r with count := r.count + 1 }) ∧
          (ch.waiting = none → ch.ramp = none → setpoint = ch.setpoint ∧ ramp = none) ∧
          ((∀ u l k first, ch.phase ≠ .release u l k first) → phase = ch.phase) ∧
          (∀ u l first, ch.phase = .release u l 0 first →
            phase =
              if 1 ≤ ahead first n ∧ ahead first n < 32768 then ch.phase
              else if l ≤ 1 then .none else .release u l 1 first) ∧
          (∀ u l k first, ch.phase = .release u l k first → 1 ≤ k →
            phase = if l ≤ k + 1 then .none else .release u l (k + 1) first) ∧
          ((ch.ramp.isSome = true ∨ ch.waiting.isSome = true) ∧ ramp = none → exec (.setpointRampEnd v) s = .next t) ∧
          (¬((ch.ramp.isSome = true ∨ ch.waiting.isSome = true) ∧ ramp = none) →
            exec (.setpointRampEnd v) s = .next s) ∧
          ((∃ u l k first, ch.phase = .release u l k first) ∧ phase = .none → exec (.releaseEnd v) s = .next t) ∧
          (¬((∃ u l k first, ch.phase = .release u l k first) ∧ phase = .none) →
            exec (.releaseEnd v) s = .next s)))

/-- The oldest ramp request, and the oldest override end, on its way to a valve reaches it (R35 to R39, R50): at a STOPPED
timer, or at length 0, the request is a step; for the valve's frame or a past one it starts a ramp from the
previous-frame setpoint; for the next frame it becomes the waiting request. A request further ahead has not reached the
valve yet (the model's reading, log 7), and with nothing on its way nothing happens (log 2). An override end turns an
OVERRIDE into a RELEASE, and is ignored in the other phases. A request or an end for a frame that the valve has passed is
taken as one for its current frame (the model's choice, log 31). Each has the target recomputed. -/
def Obligations.RequestsReachValves : Prop :=
  ∀ (v : ValveId) (s : State),
    let p := s.part
    let ch := p.channel v
    let past := fun (f : Frame) => ahead f ch.frame = 0 ∨ 32768 ≤ ahead f ch.frame
    (ch.requests = [] → exec (.rampRequest v) s = .next s) ∧
    (∀ r rest, ch.requests = r :: rest →
      let received := fun (x : Channel) =>
        exec (.rampRequest v) s = .next { s with part := (p.setChannel v { x with requests := rest }).recompute v }
      (¬past r.frame → ahead r.frame ch.frame ≠ 1 → exec (.rampRequest v) s = .next s) ∧
      (past r.frame ∨ ahead r.frame ch.frame = 1 →
        (p.timer.running = false ∨ r.length = 0 →
          received { ch with setpoint := r.target, ramp := none, waiting := none }) ∧
        (p.timer.running = true → r.length ≠ 0 → past r.frame →
          received
            { ch with
              setpoint := blend ch.previous r.target 1 r.length
              ramp := if r.length ≤ 1 then none else some ⟨ch.previous, r.target, r.length, 1⟩ }) ∧
        (p.timer.running = true → r.length ≠ 0 → ¬past r.frame →
          received { ch with waiting := some ⟨r.target, r.length⟩ }))) ∧
    (ch.ends = [] → exec (.overrideEnd v) s = .next s) ∧
    (∀ e rest, ch.ends = e :: rest →
      let received := fun (x : Phase) =>
        exec (.overrideEnd v) s =
          .next { s with part := (p.setChannel v { ch with phase := x, ends := rest }).recompute v }
      ((∀ u, ch.phase ≠ .override u) → received ch.phase) ∧
      (∀ u, ch.phase = .override u → past e.frame →
        received (if e.release ≤ 1 then .none else .release u e.release 1 e.frame)) ∧
      (∀ u, ch.phase = .override u → ¬past e.frame → received (.release u e.release 0 e.frame)))

/-- A request, an override end, or one of each, for the frame that a boundary starts: the outcome at the valve is the same
in whatever order they and the valve's boundary come (R37, R50). After a request of length 0, a step, which does not change
the previous-frame setpoint (R39), the previous-frame setpoint alone may differ. -/
def Obligations.EitherOrder : Prop :=
  ∀ (v : ValveId) (s t u : State) (l m : List Instr),
    let ch := s.part.channel v
    let firmness := fun (x : State) =>
      let y := x.part.channel v
      ((y.setpoint, y.ramp, y.waiting, y.phase), (y.frame, y.requests, y.ends, y.drive))
    let events := ch.requests.map (fun _ => Instr.rampRequest v) ++ ch.ends.map (fun _ => Instr.overrideEnd v) ++
      [.channelFrameBoundary v]
    s.part.timer.running = true → ch.frame ≠ s.part.timer.frame → ch.requests.length ≤ 1 → ch.ends.length ≤ 1 →
    (∀ r ∈ ch.requests, r.frame = ch.frame + 1) → (∀ e ∈ ch.ends, e.frame = ch.frame + 1) →
    l.Perm events → m.Perm events → performs l s t → performs m s u →
      firmness t = firmness u ∧
        ((∀ r ∈ ch.requests, 1 ≤ r.length) → (t.part.channel v).previous = (u.part.channel v).previous)

/-! ## The current loop -/

/-- A channel in PREPARE (R65, R89, R90, R91, R95, R102, R104, R105). A sample is judged for the reach up to 5 ms, the hundredth sample; the
fourth consecutive one in band is the reach; the next 100 samples give the resistance in hundredths of an ohm, and above
9.0 Ω or below 1.5 Ω the channel faults; a reach not found by 5 ms faults with figure 65535; a passed test ends 20 ms
after entry in TRACK, or in the Tune Queue when there is no tuned gain. Times are counted in 50 µs samples (log 5), the
rows of the reach and of the measurement's end are the samples that are those events (log 3), an expiry or an end before its
time does nothing (log 2), the two limits are compared on the sums of mA and mV as they stand (log 23), and the override
drops of an entry to LIMP also end what was on its way of an override end (log 9): the model's choices. That the channel's
notice reaches the corner within the same step, so that a fault takes it to LIMP there, as spec/95 lists FAULT_NOTICE
within PREPARE_TIMEOUT and RESISTANCE_MEASUREMENT_END, is the model's reading (log 37). -/
def Obligations.PrepareTest : Prop :=
  ∀ (v : ValveId) (x : Sample) (s : State) (e : Nat),
    let p := s.part
    let ch := p.channel v
    let i := x.current.toNat
    let progress := fun (stage : PrepareStage) =>
      .next { s with part := p.setChannel v { ch with measured := i, state := .prepare ⟨e + 1, stage⟩ } }
    (∀ n, ch.state = .prepare ⟨e, .reaching n⟩ →
      let n' := if 230 ≤ i ∧ i ≤ 270 then n + 1 else 0
      (e < 100 → 4 ≤ n' →
        exec (.coilCurrentSample v x) s = progress (.measuring 0 0 0) ∧
          exec (.testCurrentReach v x) s = progress (.measuring 0 0 0)) ∧
      (e < 100 → n' < 4 → exec (.coilCurrentSample v x) s = progress (.reaching n')) ∧
      (100 ≤ e → exec (.coilCurrentSample v x) s = progress (.reaching n)) ∧
      (100 ≤ e ∨ n' < 4 → exec (.testCurrentReach v x) s = .next s) ∧
      (e < 99 → exec (.prepareTimeout v) s = .next s) ∧
      (99 ≤ e → ∃ q, exec (.prepareTimeout v) s = .next { s with part := q } ∧
        FaultEntered p q v .openCircuit 65535)) ∧
    (∀ k total voltage, ch.state = .prepare ⟨e, .measuring k total voltage⟩ →
      let amps := total + i
      let volts := voltage + x.voltage.toNat
      let r := if amps = 0 then 65534 else min 65534 (100 * volts / amps)
      let p1 := p.setChannel v { ch with measured := i }
      (k + 1 < 100 →
        exec (.coilCurrentSample v x) s = progress (.measuring (k + 1) amps volts) ∧
          exec (.resistanceMeasurementEnd v x) s = .next s) ∧
      (100 ≤ k + 1 →
        exec (.resistanceMeasurementEnd v x) s = exec (.coilCurrentSample v x) s ∧
        (amps = 0 ∨ 9 * amps < volts → ∃ q, exec (.coilCurrentSample v x) s = .next { s with part := q } ∧
          FaultEntered p1 q v .openCircuit r) ∧
        (amps ≠ 0 → 2 * volts < 3 * amps → ∃ q, exec (.coilCurrentSample v x) s = .next { s with part := q } ∧
          FaultEntered p1 q v .shortCircuit r) ∧
        (amps ≠ 0 → 3 * amps ≤ 2 * volts → volts ≤ 9 * amps →
          exec (.coilCurrentSample v x) s = progress (.passed r)))) ∧
    (∀ r, ch.state = .prepare ⟨e, .passed r⟩ →
      exec (.coilCurrentSample v x) s = progress (.passed r) ∧
      (e < 399 → exec (.prepareEnd v) s = .next s) ∧
      (399 ≤ e → ch.tunedGain.isSome = true →
        exec (.prepareEnd v) s =
          .next { s with
            part :=
              { (p.setChannel v
                  { ch with
                    state := .track, target := p.currentAt v ch.drive, misses := 0
                    settle := some ⟨20 * ch.settleTimeout, 0⟩ }).evalReady (cornerOf v) with
                journal := p.journal.hand (.channelState v .prepare .track (.prepareDone r)) ch.frame } }) ∧
      (399 ≤ e → ch.tunedGain = none →
        ∃ q, ChannelStopped p q v (.tune .waiting) ∧
          exec (.prepareEnd v) s =
            .next { s with
              part :=
                { q with
                  analyzer := { q.analyzer with queue := q.analyzer.queue ++ [v] }
                  journal := p.journal.hand (.channelState v .prepare .tune (.prepareDone r)) ch.frame } }))

/-- A sample of a channel in TRACK that is not captured (R65, R86, R97, R102, R105): while the settle timer runs, four consecutive samples
within the settle band of the target as it stands end the run in success and clear the miss count; a run that expires is
a miss, the third one a fault with cause SETTLE and the target as figure. A channel that is OFF, in FAULT or WAITING only
takes the measured current. Times are counted in samples (log 5); SETTLE_SUCCESS is the sample that succeeds (log 3); with
no run in progress SETTLE_MISS does nothing (log 2); the override drops of an entry to LIMP also end what was on its way
of an override end (log 9): the model's choices. That the fault notice takes the corner to LIMP within the same step, as
spec/95 lists FAULT_NOTICE at SETTLE_MISS, is the model's reading (log 37). -/
def Obligations.SettleSupervision : Prop :=
  ∀ (v : ValveId) (x : Sample) (s : State),
    let p := s.part
    let ch := p.channel v
    let i := x.current.toNat
    let sampled := fun (y : Channel) => .next { s with part := p.setChannel v { y with measured := i } }
    (ch.state.isOffOrFault = true ∨ ch.state = .tune .waiting → exec (.coilCurrentSample v x) s = sampled ch) ∧
    (ch.state = .track → p.analyzer.state ≠ .capturing v → ch.settle = none →
      exec (.coilCurrentSample v x) s = sampled ch) ∧
    (ch.state ≠ .track ∨ ch.settle = none →
      exec (.settleSuccess v x) s = .next s ∧ exec (.settleMiss v) s = .next s) ∧
    (∀ left n, ch.state = .track → ch.settle = some ⟨left, n⟩ →
      let band := (i - ch.target) + (ch.target - i) ≤ max 20 (3 * ch.target / 100)
      let n' := if band then n + 1 else 0
      (p.analyzer.state ≠ .capturing v →
        (left = 0 → exec (.coilCurrentSample v x) s = sampled ch) ∧
        (0 < left → n' < 4 →
          exec (.coilCurrentSample v x) s = sampled { ch with settle := some ⟨left - 1, n'⟩ }) ∧
        (0 < left → 4 ≤ n' →
          exec (.coilCurrentSample v x) s = sampled { ch with settle := none, misses := 0 } ∧
            exec (.settleSuccess v x) s = sampled { ch with settle := none, misses := 0 })) ∧
      (left = 0 ∨ n' < 4 → exec (.settleSuccess v x) s = .next s) ∧
      (2 ≤ left → exec (.settleMiss v) s = .next s) ∧
      (left ≤ 1 →
        let p1 := p.setChannel v { ch with settle := none, misses := ch.misses + 1 }
        (ch.misses + 1 < 3 → exec (.settleMiss v) s = .next { s with part := p1 }) ∧
        (3 ≤ ch.misses + 1 → ∃ q, exec (.settleMiss v) s = .next { s with part := q } ∧
          FaultEntered p1 q v .settle ch.target)))

/-- A sampled change of a driver fault line (R65, R101, R102, R105): DRIVER LINE handed with the channel's state; an assertion at a
channel in PREPARE, TUNE or TRACK then faults it with cause DRIVER. A level that is no change makes no event (R161), and the
command then does nothing (log 2). The override drops of an entry to LIMP also end what was on its way of an override end (the
model's reading, log 9). That the fault notice takes the corner to LIMP within the same step, as spec/95 lists FAULT_NOTICE
within DRIVER_LINE, is the model's reading (log 37). -/
def Obligations.DriverLine : Prop :=
  ∀ (v : ValveId) (asserted : Bool) (s : State),
    let p := s.part
    let ch := p.channel v
    let p1 : Part :=
      { p with
        lines := { p.lines with dflt := p.lines.dflt.set v asserted }
        journal := p.journal.hand (.driverLine v asserted ch.state.name) ch.frame }
    (p.driverFault v = asserted → exec (.driverLine v asserted) s = .next s) ∧
    (p.driverFault v ≠ asserted → asserted = false ∨ ch.state.isOffOrFault = true →
      exec (.driverLine v asserted) s = .next { s with part := p1 }) ∧
    (p.driverFault v ≠ asserted → asserted = true → ch.state.isOffOrFault = false →
      ∃ q, exec (.driverLine v asserted) s = .next { s with part := q } ∧ FaultEntered p1 q v .driver 0)

/-- The heat index and the thermal level (R122, R123, R124, R126). The evaluation follows the table from the level that
stands before it; a change sets the level, recomputes the target, has an IDLE analyzer look at the Tune Queue for a channel
that is WAITING, and hands THERMAL with the index and the ceiling then in force, at the Frame Timer's frame. A look that an
earlier event has caused is made first (the model's reading, log 12). It is made at each millisecond update, whose rise is the square of the measured
current in mA over 80000, 0 in dry run, and whose decay is a 2048th; and at each taken WARM LEVEL and HOT LEVEL. -/
def Obligations.HeatLevels : Prop :=
  (∀ h : Heat, h.warmLevel < h.hotLevel →
    let i : ℤ := h.index
    let w : ℤ := h.warmLevel
    let t : ℤ := h.hotLevel
    (h.level = .cool → t ≤ i → h.evaluated = .hot) ∧
    (h.level = .cool → w ≤ i → i < t → h.evaluated = .warm) ∧
    (h.level = .cool → i < w → h.evaluated = .cool) ∧
    (h.level = .warm → t ≤ i → h.evaluated = .hot) ∧
    (h.level = .warm → i < w - 2048 → h.evaluated = .cool) ∧
    (h.level = .warm → w - 2048 ≤ i → i < t → h.evaluated = .warm) ∧
    (h.level = .hot → i < t - 2048 → i < w - 2048 → h.evaluated = .cool) ∧
    (h.level = .hot → i < t - 2048 → w - 2048 ≤ i → h.evaluated = .warm) ∧
    (h.level = .hot → t - 2048 ≤ i → h.evaluated = .hot)) ∧
  (∀ (s : State) (v : ValveId),
    let p := s.part
    let ch := p.channel v
    let level := ch.heat.evaluated
    let ceiling := match level with | .cool => 2000 | .warm => ch.heat.warmCeiling | .hot => ch.heat.hotCeiling
    let moved := p.setChannel v { ch with heat := { ch.heat with level := level } }
    let journal := p.journal.hand (.thermal v ch.heat.level level ch.heat.index ceiling) p.timer.frame
    let looks := ch.state = .tune .waiting ∧ p.analyzer.state = .idle
    let allHot := ∀ u ∈ p.analyzer.queue, (p.channel u).heat.level = .hot
    (level = ch.heat.level → p.evaluateLevel v = p) ∧
    (level ≠ ch.heat.level → ¬looks → p.evaluateLevel v = { moved.recompute v with journal := journal }) ∧
    (level ≠ ch.heat.level → looks → allHot →
      ∃ t, exec .queueLook { s with part := moved } = .next t ∧ p.evaluateLevel v = { t.part with journal := journal }) ∧
    (level ≠ ch.heat.level → looks → ¬allHot →
      ∃ t, exec .queueLook s = .next t ∧ p.evaluateLevel v = t.part.evaluateLevel v)) ∧
  (∀ (v : ValveId) (s : State),
    let p := s.part
    let ch := p.channel v
    let rise := if (p.corner (cornerOf v)).dryRun = true then 0 else ch.measured ^ 2 / 80000
    let risen := min 65535 (ch.heat.index + rise)
    exec (.heatUpdate v) s =
      .next { s with
        part := (p.setChannel v { ch with heat := { ch.heat with index := risen - risen / 2048 } }).evaluateLevel v }) ∧
  (∀ (w : CommandWrite) (s : State) (v : ValveId), w.namesValve v →
    let level := 16 * w.arg.toNat
    (s.receives 16 w →
      let p := s.met 16 w
      let ch := p.channel v
      exec (.warmLevel w) s =
        .next (s.judged 16 w v.val (targetBit v.val) (if ch.heat.hotLevel ≤ level then some .range else none)
          ((p.setChannel v { ch with heat := { ch.heat with warmLevel := level } }).evaluateLevel v))) ∧
    (s.receives 17 w →
      let p := s.met 17 w
      let ch := p.channel v
      exec (.hotLevel w) s =
        .next (s.judged 17 w v.val (targetBit v.val) (if level ≤ ch.heat.warmLevel then some .range else none)
          ((p.setChannel v { ch with heat := { ch.heat with hotLevel := level } }).evaluateLevel v))))

/-! ## The SAFE line -/

/-- SAFE asserted (R28, R53, R60, R68): every corner enters SAFE with its work flushed and its limp cause NONE, every
channel in PREPARE, TUNE or TRACK goes OFF with 0 mA, every FAULT and every scheduled setpoint stands, and each corner and
each such channel hands its event; a search or a capture in hand is aborted (R114, R118). The order among the blocks is open
(log 4): where a trace is ARMED for a channel in TRACK whose override is dropped, it decides whether a capture starts
before the channel goes OFF and is aborted with it; a capture starts with the sample buffer empty (the model's choice, log
34). An override drop also ends what was on its way of an override end (the
model's reading, log 9). SAFE released (R69): every corner goes from SAFE to IDLE with a limp ramp for its next frame, in
the order given, and hands SAFE EXIT. A level that is no change makes no event (R161), and the command then does nothing
(log 2). -/
def Obligations.SafeLine : Prop :=
  ∀ (order : List Nat) (s : State),
    let p := s.part
    (p.lines.safe = true → exec (.safeAssertion order) s = .next s) ∧
    (p.lines.safe = false →
      ∃ (q : Part) (es : List (Event × Frame)), exec (.safeAssertion order) s = .next { s with part := q } ∧
        (∀ c, q.corner c =
          { p.corner c with state := .safe, limpCause := .none, list := [], hold := none, ready := false }) ∧
        (∀ v, q.channel v =
          (let ch := { p.channel v with phase := .none, ends := [] }
           if ch.state.isOffOrFault = true then ch
           else { ch with state := .off, target := 0, settle := none, misses := 0 })) ∧
        (∀ i, i ∉ p.listedSlots → q.demandSlot i = p.demandSlot i) ∧
        (p.listedSlots.Nodup → ∀ c, ∀ e ∈ (p.corner c).list,
          q.demandSlot e.slot =
            { p.demandSlot e.slot with state := .retiring, final := some (.flushed .safe (p.corner c).frame) }) ∧
        (∀ c, q.urgentSlot c = flushedUrgent (p.corner c).hold .safe (p.corner c).frame (p.urgentSlot c)) ∧
        (∀ i, i ∈ q.engine.demand ↔ i ∈ p.engine.demand ∨ i ∈ p.listedSlots) ∧
        (∀ c, c ∈ q.engine.urgent ↔ c ∈ p.engine.urgent ∨ (p.corner c).hold.isSome = true) ∧
        q.analyzer.queue = p.analyzer.queue.filter (fun v => decide ((p.channel v).state ≠ .tune .waiting)) ∧
        (let letGo :=
           ((∀ v, ¬p.analyzed v) →
             q.analyzer = { p.analyzer with queue := q.analyzer.queue } ∧ q.engine.trace = p.engine.trace) ∧
           ∀ v, p.analyzed v →
             q.analyzer = { p.analyzerLeft v with queue := q.analyzer.queue } ∧
               q.engine.trace =
                 if p.analyzer.trace = .capturing ∨ (p.channel v).state = .track then true else p.engine.trace
         let canStart := fun (v : ValveId) =>
           let ch := p.channel v
           let new := p.currentAt v ch.setpoint
           p.analyzer.trace = .armed v ∧ ch.state = .track ∧
             max 20 (3 * ch.target / 100) < (new - ch.target) + (ch.target - new) ∧
             (p.analyzer.state = .idle ∨ ∃ h, p.analyzer.state = .searching h)
         ((∀ v, ¬canStart v) → letGo) ∧
         ∀ v, canStart v →
           letGo ∨
             ∃ gain, (∀ g, (p.channel v).tunedGain = some g → gain = g.val) ∧ q.engine.trace = true ∧
               q.analyzer =
                 { state := .writing, queue := q.analyzer.queue, buffer := [], trace := .writing
                   hand := some ⟨v, gain, (p.channel v).frame, [], some .aborted⟩ }) ∧
        es.Perm
          ((allCorners.map fun c => (Event.safeEnter c (p.corner c).state, (p.corner c).frame)) ++
            (allValves.filter fun v => !(p.channel v).state.isOffOrFault).map fun v =>
              (Event.channelState v (p.channel v).state.name .off .safe, (p.channel v).frame)) ∧
        q.journal = es.foldl (fun j e => j.hand e.1 e.2) p.journal ∧
        (∀ c : CornerId, q.lines.reported[c] = false) ∧
        q =
          { p with
            corners := q.corners, channels := q.channels, demand := q.demand, urgent := q.urgent
            analyzer := q.analyzer, journal := q.journal
            engine :=
              { p.engine with demand := q.engine.demand, urgent := q.engine.urgent, trace := q.engine.trace }
            lines :=
              { p.lines with
                safe := true, reported := q.lines.reported
                ready := readyOutput p.lines.mode q.lines.reported } }) ∧
    (p.lines.safe = false → exec (.safeRelease order) s = .next s) ∧
    (p.lines.safe = true → (∀ c, (p.corner c).state = .safe) →
      ∃ (q : Part) (es : List (Event × Frame)), exec (.safeRelease order) s = .next { s with part := q } ∧
        (∀ c, q.corner c = { p.corner c with state := .idle, limpCause := .none, ready := false }) ∧
        SameLoops
          ((arrange order allCorners).foldl (fun r c => r.limpRamped c ((p.corner c).frame + 1)) p) q ∧
        es.Perm (allCorners.map fun c => (Event.safeExit c, (p.corner c).frame)) ∧
        q.journal = es.foldl (fun j e => j.hand e.1 e.2) p.journal ∧
        (∀ c : CornerId, q.lines.reported[c] = false) ∧
        (∀ v, (p.channel v).state.isOffOrFault = true → (q.channel v).state = (p.channel v).state ∧
          (q.channel v).target = (p.channel v).target) ∧
        { q with channels := p.channels, analyzer := p.analyzer } =
          { p with
            corners := q.corners, journal := q.journal
            lines :=
              { p.lines with
                safe := false, reported := q.lines.reported
                ready := readyOutput p.lines.mode q.lines.reported } })

/-! ## The Step Analyzer -/

/-- An IDLE analyzer's look at the Tune Queue takes the first channel that is not HOT, those before it going to the tail,
and starts its first trial at 200 mA with gain 0; with none to take nothing changes (R109, R110). The pre-drive ends after
2 ms, 40 samples (log 5), with the step to 800 mA, which at an armed valve starts a trial capture (R110, R116). A look by
an analyzer that is not IDLE, and the end of a pre-drive where none runs, do nothing (log 2), and the sample buffer is
emptied at the take and at the step (log 34): the model's choices. -/
def Obligations.QueueLookAndPreDrive : Prop :=
  ∀ s : State,
    let p := s.part
    let a := p.analyzer
    let hot := fun (v : ValveId) => (p.channel v).heat.level = .hot
    (a.state ≠ .idle ∨ (∀ v ∈ a.queue, hot v) → exec .queueLook s = .next s) ∧
    (∀ l v r, a.state = .idle → a.queue = l ++ v :: r → (∀ u ∈ l, hot u) → ¬hot v →
      exec .queueLook s =
        .next { s with
          part :=
            { p.setChannel v { p.channel v with state := .tune .searching, target := 200 } with
              analyzer := { a with state := .searching ⟨v, 0, .preDrive 0, none⟩, queue := r ++ l, buffer := [] } } }) ∧
    ((∀ h, a.state ≠ .searching h) → exec .preDriveEnd s = .next s) ∧
    (∀ h, a.state = .searching h →
      (h.phase = .step → exec .preDriveEnd s = .next s) ∧
      (∀ k, h.phase = .preDrive k →
        let armed := a.trace = .armed h.valve
        (k < 40 → exec .preDriveEnd s = .next s) ∧
        (40 ≤ k →
          exec .preDriveEnd s =
            .next { s with
              part :=
                { p.setChannel h.valve { p.channel h.valve with target := 800 } with
                  analyzer :=
                    { a with
                      state := .searching { h with phase := .step }, buffer := []
                      trace := if armed then .capturing else a.trace
                      hand :=
                        if armed then some ⟨h.valve, h.gain, (p.channel h.valve).frame, [], none⟩ else a.hand } } })))

/-- A sample of the channel that is searched (R65, R92, R102, R105, R110 to R114, R116, R118). In the pre-drive it counts time; in the step
it is recorded, and copied to a trial capture; sample 63 completes a capture, scores the trial, and either starts the
next trial, or completes the search: TUNED with the best gain, in TRACK, or UNTUNABLE, in FAULT. TRIAL_END is sample 63
(log 3); the pre-drive's time and the settle timer count samples, 20 for each millisecond (log 5); the analyzer is IDLE
while the result acts (log 33); the sample buffer keeps its samples after sample 63 (log 34); the override drops of an entry
to LIMP also end what was on its way of an override end (log 9): the model's readings and choices. That the channel's
notice reaches the corner within the same step, so that the fault of UNTUNABLE takes it to LIMP there, as spec/95 lists
FAULT_NOTICE within TRIAL_END, is the model's reading (log 37). -/
def Obligations.TrialSamples : Prop :=
  ∀ (v : ValveId) (x : Sample) (s : State) (h : Search),
    let p := s.part
    let ch := p.channel v
    let a := p.analyzer
    let i := x.current.toNat
    ch.state = .tune .searching → a.state = .searching h → h.valve = v →
    let p1 := p.setChannel v { ch with measured := i }
    let copied := if a.trace = .capturing then
      a.hand.map fun t => { t with samples := t.samples ++ [⟨i, 800⟩] } else a.hand
    (∀ k, h.phase = .preDrive k →
      exec (.trialEnd x) s = .next s ∧
      exec (.coilCurrentSample v x) s =
        .next { s with
          part := { p1 with analyzer := { a with state := .searching { h with phase := .preDrive (k + 1) } } } }) ∧
    (h.phase = .step → a.buffer.length < 63 →
      exec (.trialEnd x) s = .next s ∧
      exec (.coilCurrentSample v x) s =
        .next { s with part := { p1 with analyzer := { a with buffer := a.buffer ++ [i], hand := copied } } }) ∧
    (h.phase = .step → 63 ≤ a.buffer.length →
      let score := trialScore (a.buffer ++ [i])
      let best : Option BestTrial :=
        match score, h.best with
        | none, old => old
        | some n, none => some ⟨h.gain, n⟩
        | some n, some old => if old.score < n then some ⟨h.gain, n⟩ else some old
      let stops := (∃ b, best = some b ∧ ch.searchReach ≤ h.gain - b.gain) ∨ 15 ≤ h.gain
      let p2 : Part :=
        { p1 with
          analyzer :=
            { a with
              buffer := a.buffer ++ [i]
              trace := if a.trace = .capturing then .writing else a.trace
              hand :=
                if a.trace = .capturing then copied.map fun t => { t with mark := some .complete } else a.hand }
          engine := if a.trace = .capturing then { p.engine with trace := true } else p.engine }
      let p3 : Part := { p2 with analyzer := { p2.analyzer with state := .idle } }
      exec (.trialEnd x) s = exec (.coilCurrentSample v x) s ∧
      (¬stops →
        exec (.coilCurrentSample v x) s =
          .next { s with
            part :=
              { p2.setChannel v { ch with measured := i, target := 200 } with
                analyzer := { p2.analyzer with state := .searching ⟨v, h.gain + 1, .preDrive 0, best⟩ } } }) ∧
      (∀ b, stops → best = some b →
        exec (.coilCurrentSample v x) s =
          .next { s with
            part :=
              { (p3.setChannel v
                  { ch with
                    measured := i, state := .track, tunedGain := some (Fin.ofNat 16 b.gain)
                    target := p.currentAt v ch.drive, misses := 0
                    settle := some ⟨20 * ch.settleTimeout, 0⟩ }).evalReady (cornerOf v) with
                journal :=
                  (p.journal.hand (.tuned v (h.gain + 1) b) p.timer.frame).hand
                    (.channelState v .tune .track (.searchDone b.gain)) ch.frame } }) ∧
      (stops → best = none →
        ∃ q, exec (.coilCurrentSample v x) s = .next { s with part := q } ∧
          FaultEntered
            { p3 with journal := p.journal.hand (.untunable v (h.gain + 1)) p.timer.frame } q v .untunable 0))

/-- A trial is scored from its 64 step samples (R111): unsettled when sample 63 lies outside 775 to 825 mA; else by the
settle index, the smallest from which all samples lie inside, and the overshoot of the peak beyond 800 mA. -/
def Obligations.TrialScore : Prop :=
  ∀ l : List Nat, l.length = 64 →
    let inside := fun (i : Nat) => 775 ≤ i ∧ i ≤ 825
    let insideFrom := fun (k : Nat) => ∀ n i, k ≤ n → l[n]? = some i → inside i
    (∀ i, l[63]? = some i → ¬inside i → trialScore l = none) ∧
    (∀ i k top, l[63]? = some i → inside i → k ≤ 63 → insideFrom k → (∀ m, m < k → ¬insideFrom m) →
      top ∈ l → (∀ j ∈ l, j ≤ top) →
        trialScore l = some (1280 - 20 * (k : ℤ) - min (max ((top : ℤ) - 800) 0) 300)) ∧
    (∀ n, trialScore l = some n → -280 ≤ n ∧ n ≤ 1280)

/-- A sample of a channel captured in TRACK (R97, R117, R119): the channel's own share is that of a channel that is not
captured, and the measured current and the target as it stands join the trace; at sample 63 the trace is COMPLETE,
analyzer and trace are WRITING, and the trace is owed. CAPTURE_END is sample 63 (log 3), and the sample buffer keeps its
samples after it (log 34): the model's readings. -/
def Obligations.TraceCapture : Prop :=
  ∀ (v : ValveId) (x : Sample) (s : State),
    let p := s.part
    let a := p.analyzer
    let i := x.current.toNat
    (p.channel v).state = .track → a.state = .capturing v → a.trace = .capturing →
    let copied := a.hand.map fun t => { t with samples := t.samples ++ [⟨i, (p.channel v).target⟩] }
    ∃ t, exec (.coilCurrentSample v x) { s with part := { p with analyzer := { a with state := .idle } } } = .next t ∧
      (a.buffer.length < 63 →
        exec (.captureEnd x) s = .next s ∧
        exec (.coilCurrentSample v x) s =
          .next { t with part := { t.part with analyzer := { a with buffer := a.buffer ++ [i], hand := copied } } }) ∧
      (63 ≤ a.buffer.length →
        exec (.captureEnd x) s = exec (.coilCurrentSample v x) s ∧
        exec (.coilCurrentSample v x) s =
          .next { t with
            part :=
              { t.part with
                analyzer :=
                  { a with
                    state := .writing, buffer := a.buffer ++ [i], trace := .writing
                    hand := copied.map fun y => { y with mark := some .complete } }
                engine := { p.engine with trace := true } } })

/-! ## The Write-Back Engine -/

/-- The engine with no item in hand takes the first class that has work: urgent, demand, map, reply, journal, trace; a
journal head waits while 127 entries are unconsumed (R149, R150, and the trace behind it, log 22). With an item in hand, or
with nothing to choose, nothing happens (the model's choice, log 2). The item's words stand
in the order they are written, polled words last (R15, R54, R79, R119, R137, R151, R157); the 0 in the reason field of a
disposition that has neither reason nor cause is the model's choice (log 35). -/
def Obligations.EngineItemChoice : Prop :=
  (∀ s : State,
    let p := s.part
    let e := p.engine
    let chooses := fun (kind : ItemKind) (words : List EngineWord) (e' : Engine) =>
      words ≠ [] → exec .engineItemChoice s =
        .next { s with part := { p with engine := { e' with hand := some ⟨kind, words⟩ } } }
    (e.hand.isSome = true → exec .engineItemChoice s = .next s) ∧
    (e.hand = none →
      (∀ c r, e.urgent = c :: r → chooses (.urgent c) ((p.urgentSlot c).words c) { e with urgent := r }) ∧
      (e.urgent = [] →
        (∀ i r, e.demand = i :: r → chooses (.demand i) ((p.demandSlot i).words i) { e with demand := r }) ∧
        (e.demand = [] →
          (∀ v r, e.map = v :: r →
            chooses (.map v) [⟨mapOffset v 1, .mapResult v, some (.mapResult v)⟩] { e with map := r }) ∧
          (e.map = [] →
            (∀ y, e.reply = true → p.setup.reply = some y →
              chooses .reply [⟨setupOffset 1, .fixed y.word, some .reply⟩] { e with reply := false }) ∧
            (e.reply = false →
              (∀ y r, p.journal.staging = y :: r →
                let w := p.journal.write
                ((w - p.journal.read).toNat < 127 →
                  chooses .journal
                    [⟨ringOffset w 1, .fixed y.word1, none⟩, ⟨ringOffset w 2, .fixed y.event.detailB, none⟩,
                      ⟨ringOffset w 3, .fixed y.event.detailC, none⟩, ⟨ringOffset w 0, .fixed y.word0, some .journal⟩]
                    e) ∧
                (127 ≤ (w - p.journal.read).toNat → exec .engineItemChoice s = .next s)) ∧
              (p.journal.staging = [] →
                (∀ y, e.trace = true → p.analyzer.hand = some y →
                  chooses .trace
                    (y.samples.mapIdx (fun k x => ⟨sampleOffset k, .fixed x.word, none⟩) ++
                      [⟨traceHeaderOffset, .fixed y.header, some .trace⟩])
                    { e with trace := false }) ∧
                (e.trace = false → exec .engineItemChoice s = .next s)))))))) ∧
  (∀ (i : SlotId) (d : DemandSlot),
    let final := fun (frame : Frame) (currents disposition : Word) => d.words i =
      (match d.take with
        | some t =>
          [⟨demandOffset i 5, .fixed (frameWord t.frame), none⟩,
            ⟨demandOffset i 4, .fixed (dispositionWord 1 0), some (.demandTake i)⟩]
        | none => []) ++
      [⟨demandOffset i 6, .fixed (frameWord frame), none⟩, ⟨demandOffset i 7, .fixed currents, none⟩,
        ⟨demandOffset i 4, .fixed disposition, some (.demandFinal i)⟩]
    (∀ t, d.take = some t → d.final = none → d.words i =
      [⟨demandOffset i 5, .fixed (frameWord t.frame), none⟩,
        ⟨demandOffset i 4, .fixed (dispositionWord 1 0), some (.demandTake i)⟩]) ∧
    (∀ f x y, d.final = some (.applied f x y) → final f (currentsWord x y) (dispositionWord 2 0)) ∧
    (∀ f, d.final = some (.superseded f) → final f 0 (dispositionWord 3 0)) ∧
    (∀ c f, d.final = some (.flushed c f) → final f 0 (dispositionWord 4 c.code)) ∧
    (∀ r f, d.final = some (.refused r f) → final f 0 (dispositionWord 5 r.code))) ∧
  (∀ (c : CornerId) (d : UrgentSlot),
    let take := match d.take with
      | some t =>
        [(⟨urgentOffset c 5, .fixed (frameWord t.frame), none⟩ : EngineWord),
          ⟨urgentOffset c 7, .fixed (currentsWord t.compression t.rebound), none⟩,
          ⟨urgentOffset c 4, .fixed (dispositionWord 1 0), some (.urgentTake c)⟩]
      | none => []
    let final := fun (frame : Frame) (disposition : Word) => d.words c =
      take ++ [⟨urgentOffset c 6, .fixed (frameWord frame), none⟩,
        ⟨urgentOffset c 4, .fixed disposition, some (.urgentFinal c)⟩]
    (d.final = none → d.words c = take) ∧
    (∀ f, d.final = some (.ended f) → final f (dispositionWord 6 0)) ∧
    (∀ f, d.final = some (.cancelled f) → final f (dispositionWord 7 0)) ∧
    (∀ x f, d.final = some (.flushed x f) → final f (dispositionWord 4 x.code)) ∧
    (∀ r f, d.final = some (.refused r f) →
      d.words c =
        take ++ [⟨urgentOffset c 6, .fixed (frameWord f), none⟩, ⟨urgentOffset c 7, .fixed 0, none⟩,
          ⟨urgentOffset c 4, .fixed (dispositionWord 5 r.code), some (.urgentFinal c)⟩]))

/-- The engine's word is written whole, with good parity, at its place in the Control Region, and the wait count returns
to 0 (R147, R151, R153); a polled word publishes (R17, R54, R79, R119, R137, R157, R160): the disposition leaves its slot,
a final frees it; a map result, a reply and a trace are no longer owed, the decoder and a WRITING analyzer being free
again, with TRACE DONE handed; a journal entry joins the ring, an alarm-class kind setting the mark, and ATTN is
evaluated. With no word in hand nothing happens (the model's reading, log 2); the value 0 of an emptied staging is the
model's choice (log 15). -/
def Obligations.EngineWordWrite : Prop :=
  ∀ (s : State),
    let p := s.part
    (p.engine.hand = none → exec .engineWordWrite s = .next s) ∧
    (∀ kind w rest, p.engine.hand = some ⟨kind, w :: rest⟩ → s.mem.wf = true →
      let data : Word :=
        match w.source with
        | .fixed d => d
        | .mapResult v => match (p.map v).result with | some r => r.word | none => 0
      let start := 4 * (p.bridge.wordAddress w.offset).toNat
      let p1 : Part :=
        { p with
          engine := { p.engine with hand := if rest = [] then none else some ⟨kind, rest⟩ }
          waitCount := 0 }
      ∃ t, exec .engineWordWrite s = .next t ∧ t.pending = s.pending ∧
        (∀ b, t.mem.byte b =
          if start ≤ b ∧ b < start + 4 then laneByte data (b - start) else s.mem.byte b) ∧
        (∀ b, t.mem.parityBit b =
          if start ≤ b ∧ b < start + 4 then (goodParity p.bridge.psense data).getLsbD (b - start)
          else s.mem.parityBit b) ∧
        (w.notice = none → t.part = p1) ∧
        (∀ i, w.notice = some (.demandTake i) →
          t.part = p1.setDemand i { p.demandSlot i with take := none }) ∧
        (∀ i, w.notice = some (.demandFinal i) →
          t.part = p1.setDemand i
            { p.demandSlot i with
              state := .free, staging := Vector.replicate 12 ⟨0, false, false⟩, closing := none, final := none }) ∧
        (∀ c, w.notice = some (.urgentTake c) →
          t.part = p1.setUrgent c { p.urgentSlot c with take := none }) ∧
        (∀ c, w.notice = some (.urgentFinal c) →
          t.part = p1.setUrgent c
            { p.urgentSlot c with
              state := .free, staging := Vector.replicate 12 ⟨0, false, false⟩, closing := none
              cancel := Vector.replicate 12 ⟨0, false, false⟩, final := none }) ∧
        (∀ v, w.notice = some (.mapResult v) → t.part = p1.setMap v { p.map v with result := none }) ∧
        (w.notice = some .reply →
          t.part =
            { p1 with
              setup := { p.setup with state := .free, inHand := none, judgements := [], outstanding := [], reply := none } }) ∧
        (∀ e r, w.notice = some .journal → p.journal.staging = e :: r →
          let alarm := if e.event.kind ∈ [6, 9, 12, 13] then some p.journal.write else p.journal.alarm
          t.part =
            { p1 with
              journal :=
                { p.journal with
                  staging := r, write := p.journal.write + 1, alarm := alarm
                  attn :=
                    decide (p.journal.threshold ≤ (p.journal.write + 1 - p.journal.read).toNat) ||
                      alarm.isSome } }) ∧
        (∀ y, w.notice = some .trace → p.analyzer.hand = some y →
          t.part =
            { p1 with
              analyzer :=
                { p.analyzer with
                  trace := .idle, hand := none
                  state := if p.analyzer.state = .writing then .idle else p.analyzer.state }
              journal := p.journal.hand (.traceDone y.valve y.mark y.samples.length y.gain) p.timer.frame }))

/-! ## What every step keeps -/

/-- Memory keeps its canonical form: addresses strictly rising, nothing listed that an unlisted address reads as. -/
def Obligations.EveryStepKeepsMemoryCanonical : Prop :=
  ∀ s t : State, s.mem.wf = true → step s = .next t → t.mem.wf = true

/-- ATTN and READY are driven as R160 and R162 say, from readiness as R71 says, after every step; the loops agree with the
Tune Queue, which every step keeps (EveryStepKeepsTheLoop). -/
def Obligations.EveryStepKeepsOutputsDriven : Prop :=
  ∀ s t : State, LoopCoherent s.part → OutputsDriven s.part → step s = .next t → OutputsDriven t.part

/-- Each channel's target is the one its state calls for, the Tune Queue names each WAITING channel once, the analyzer
searches for the SEARCHING channel alone, and under SAFE every corner is in SAFE and no channel drives its coil. -/
def Obligations.EveryStepKeepsTheLoop : Prop :=
  ∀ s t : State, LoopCoherent s.part → SafeHeld s.part → step s = .next t → LoopCoherent t.part ∧ SafeHeld t.part

/-- Pending Lists stay ordered, within the window and no longer than 8, holds stand with ACTIVE urgent slots, every HELD
slot is named by exactly one entry, and finals are owed by the slot states that owe them (R14, R18, R24 to R26, R39, R43,
R46, R54). -/
def Obligations.EveryStepKeepsTheLists : Prop :=
  ∀ s t : State, CornersOrdered s.part → SlotsListed s.part → FinalsOwed s.part → step s = .next t →
    CornersOrdered t.part ∧ SlotsListed t.part ∧ FinalsOwed t.part

/-- The watermarks, thermal levels and ceilings keep their orders, and active maps are well formed (R32, R84, R121); the
Setup Decoder holds what its state calls for, with outstanding targets while it is JUDGING and a reply on its way while
it is REPLYING (R130, R131, R135, R137). -/
def Obligations.EveryStepKeepsTheSettings : Prop :=
  ∀ s t : State, step s = .next t →
    (SettingsOrdered s.part → SettingsOrdered t.part) ∧ (DecoderOrdered s.part → DecoderOrdered t.part)

/-- The state right after reset has every property that the steps keep. -/
def Obligations.ResetHasTheInvariants : Prop :=
  State.reset.mem.wf = true ∧ OutputsDriven State.reset.part ∧ LoopCoherent State.reset.part ∧
    SafeHeld State.reset.part ∧ CornersOrdered State.reset.part ∧ SlotsListed State.reset.part ∧
    FinalsOwed State.reset.part ∧ SettingsOrdered State.reset.part ∧ DecoderOrdered State.reset.part
end

