-- ==== Sys2Proof/Laws/State.lean ====
section
/-! SUPPORT. What each unit of the part is after one unit is replaced: one lemma for each field and each replacement, so
that no proof unfolds a record update. -/

namespace Sys2Proof.Machine

/-! ### bridge -/

@[simp] theorem bridge_setBridge (p : Part) (x : Bridge) : (p.setBridge x).bridge = x := rfl
@[simp] theorem bridge_setPort (p : Part) (x : ReadPort) : (p.setPort x).bridge = p.bridge := rfl
@[simp] theorem bridge_setDemand (p : Part) (i : SlotId) (x : DemandSlot) : (p.setDemand i x).bridge = p.bridge := rfl
@[simp] theorem bridge_setUrgent (p : Part) (c : CornerId) (x : UrgentSlot) : (p.setUrgent c x).bridge = p.bridge := rfl
@[simp] theorem bridge_setTimer (p : Part) (x : Timer) : (p.setTimer x).bridge = p.bridge := rfl
@[simp] theorem bridge_setCorner (p : Part) (c : CornerId) (x : Corner) : (p.setCorner c x).bridge = p.bridge := rfl
@[simp] theorem bridge_setPairing (p : Part) (x : Bool) : (p.setPairing x).bridge = p.bridge := rfl
@[simp] theorem bridge_setChannel (p : Part) (v : ValveId) (x : Channel) : (p.setChannel v x).bridge = p.bridge := rfl
@[simp] theorem bridge_setMap (p : Part) (v : ValveId) (x : MapEntry) : (p.setMap v x).bridge = p.bridge := rfl
@[simp] theorem bridge_setAnalyzer (p : Part) (x : Analyzer) : (p.setAnalyzer x).bridge = p.bridge := rfl
@[simp] theorem bridge_setSetup (p : Part) (x : Setup) : (p.setSetup x).bridge = p.bridge := rfl
@[simp] theorem bridge_setEngine (p : Part) (x : Engine) : (p.setEngine x).bridge = p.bridge := rfl
@[simp] theorem bridge_setWaitCount (p : Part) (x : Nat) : (p.setWaitCount x).bridge = p.bridge := rfl
@[simp] theorem bridge_setJournal (p : Part) (x : Journal) : (p.setJournal x).bridge = p.bridge := rfl
@[simp] theorem bridge_setLines (p : Part) (x : Lines) : (p.setLines x).bridge = p.bridge := rfl

/-! ### port -/

@[simp] theorem port_setBridge (p : Part) (x : Bridge) : (p.setBridge x).port = p.port := rfl
@[simp] theorem port_setPort (p : Part) (x : ReadPort) : (p.setPort x).port = x := rfl
@[simp] theorem port_setDemand (p : Part) (i : SlotId) (x : DemandSlot) : (p.setDemand i x).port = p.port := rfl
@[simp] theorem port_setUrgent (p : Part) (c : CornerId) (x : UrgentSlot) : (p.setUrgent c x).port = p.port := rfl
@[simp] theorem port_setTimer (p : Part) (x : Timer) : (p.setTimer x).port = p.port := rfl
@[simp] theorem port_setCorner (p : Part) (c : CornerId) (x : Corner) : (p.setCorner c x).port = p.port := rfl
@[simp] theorem port_setPairing (p : Part) (x : Bool) : (p.setPairing x).port = p.port := rfl
@[simp] theorem port_setChannel (p : Part) (v : ValveId) (x : Channel) : (p.setChannel v x).port = p.port := rfl
@[simp] theorem port_setMap (p : Part) (v : ValveId) (x : MapEntry) : (p.setMap v x).port = p.port := rfl
@[simp] theorem port_setAnalyzer (p : Part) (x : Analyzer) : (p.setAnalyzer x).port = p.port := rfl
@[simp] theorem port_setSetup (p : Part) (x : Setup) : (p.setSetup x).port = p.port := rfl
@[simp] theorem port_setEngine (p : Part) (x : Engine) : (p.setEngine x).port = p.port := rfl
@[simp] theorem port_setWaitCount (p : Part) (x : Nat) : (p.setWaitCount x).port = p.port := rfl
@[simp] theorem port_setJournal (p : Part) (x : Journal) : (p.setJournal x).port = p.port := rfl
@[simp] theorem port_setLines (p : Part) (x : Lines) : (p.setLines x).port = p.port := rfl

/-! ### demand -/

@[simp] theorem demand_setBridge (p : Part) (x : Bridge) : (p.setBridge x).demand = p.demand := rfl
@[simp] theorem demand_setPort (p : Part) (x : ReadPort) : (p.setPort x).demand = p.demand := rfl
@[simp] theorem demand_setUrgent (p : Part) (c : CornerId) (x : UrgentSlot) : (p.setUrgent c x).demand = p.demand := rfl
@[simp] theorem demand_setTimer (p : Part) (x : Timer) : (p.setTimer x).demand = p.demand := rfl
@[simp] theorem demand_setCorner (p : Part) (c : CornerId) (x : Corner) : (p.setCorner c x).demand = p.demand := rfl
@[simp] theorem demand_setPairing (p : Part) (x : Bool) : (p.setPairing x).demand = p.demand := rfl
@[simp] theorem demand_setChannel (p : Part) (v : ValveId) (x : Channel) : (p.setChannel v x).demand = p.demand := rfl
@[simp] theorem demand_setMap (p : Part) (v : ValveId) (x : MapEntry) : (p.setMap v x).demand = p.demand := rfl
@[simp] theorem demand_setAnalyzer (p : Part) (x : Analyzer) : (p.setAnalyzer x).demand = p.demand := rfl
@[simp] theorem demand_setSetup (p : Part) (x : Setup) : (p.setSetup x).demand = p.demand := rfl
@[simp] theorem demand_setEngine (p : Part) (x : Engine) : (p.setEngine x).demand = p.demand := rfl
@[simp] theorem demand_setWaitCount (p : Part) (x : Nat) : (p.setWaitCount x).demand = p.demand := rfl
@[simp] theorem demand_setJournal (p : Part) (x : Journal) : (p.setJournal x).demand = p.demand := rfl
@[simp] theorem demand_setLines (p : Part) (x : Lines) : (p.setLines x).demand = p.demand := rfl

/-! ### urgent -/

@[simp] theorem urgent_setBridge (p : Part) (x : Bridge) : (p.setBridge x).urgent = p.urgent := rfl
@[simp] theorem urgent_setPort (p : Part) (x : ReadPort) : (p.setPort x).urgent = p.urgent := rfl
@[simp] theorem urgent_setDemand (p : Part) (i : SlotId) (x : DemandSlot) : (p.setDemand i x).urgent = p.urgent := rfl
@[simp] theorem urgent_setTimer (p : Part) (x : Timer) : (p.setTimer x).urgent = p.urgent := rfl
@[simp] theorem urgent_setCorner (p : Part) (c : CornerId) (x : Corner) : (p.setCorner c x).urgent = p.urgent := rfl
@[simp] theorem urgent_setPairing (p : Part) (x : Bool) : (p.setPairing x).urgent = p.urgent := rfl
@[simp] theorem urgent_setChannel (p : Part) (v : ValveId) (x : Channel) : (p.setChannel v x).urgent = p.urgent := rfl
@[simp] theorem urgent_setMap (p : Part) (v : ValveId) (x : MapEntry) : (p.setMap v x).urgent = p.urgent := rfl
@[simp] theorem urgent_setAnalyzer (p : Part) (x : Analyzer) : (p.setAnalyzer x).urgent = p.urgent := rfl
@[simp] theorem urgent_setSetup (p : Part) (x : Setup) : (p.setSetup x).urgent = p.urgent := rfl
@[simp] theorem urgent_setEngine (p : Part) (x : Engine) : (p.setEngine x).urgent = p.urgent := rfl
@[simp] theorem urgent_setWaitCount (p : Part) (x : Nat) : (p.setWaitCount x).urgent = p.urgent := rfl
@[simp] theorem urgent_setJournal (p : Part) (x : Journal) : (p.setJournal x).urgent = p.urgent := rfl
@[simp] theorem urgent_setLines (p : Part) (x : Lines) : (p.setLines x).urgent = p.urgent := rfl

/-! ### timer -/

@[simp] theorem timer_setBridge (p : Part) (x : Bridge) : (p.setBridge x).timer = p.timer := rfl
@[simp] theorem timer_setPort (p : Part) (x : ReadPort) : (p.setPort x).timer = p.timer := rfl
@[simp] theorem timer_setDemand (p : Part) (i : SlotId) (x : DemandSlot) : (p.setDemand i x).timer = p.timer := rfl
@[simp] theorem timer_setUrgent (p : Part) (c : CornerId) (x : UrgentSlot) : (p.setUrgent c x).timer = p.timer := rfl
@[simp] theorem timer_setTimer (p : Part) (x : Timer) : (p.setTimer x).timer = x := rfl
@[simp] theorem timer_setCorner (p : Part) (c : CornerId) (x : Corner) : (p.setCorner c x).timer = p.timer := rfl
@[simp] theorem timer_setPairing (p : Part) (x : Bool) : (p.setPairing x).timer = p.timer := rfl
@[simp] theorem timer_setChannel (p : Part) (v : ValveId) (x : Channel) : (p.setChannel v x).timer = p.timer := rfl
@[simp] theorem timer_setMap (p : Part) (v : ValveId) (x : MapEntry) : (p.setMap v x).timer = p.timer := rfl
@[simp] theorem timer_setAnalyzer (p : Part) (x : Analyzer) : (p.setAnalyzer x).timer = p.timer := rfl
@[simp] theorem timer_setSetup (p : Part) (x : Setup) : (p.setSetup x).timer = p.timer := rfl
@[simp] theorem timer_setEngine (p : Part) (x : Engine) : (p.setEngine x).timer = p.timer := rfl
@[simp] theorem timer_setWaitCount (p : Part) (x : Nat) : (p.setWaitCount x).timer = p.timer := rfl
@[simp] theorem timer_setJournal (p : Part) (x : Journal) : (p.setJournal x).timer = p.timer := rfl
@[simp] theorem timer_setLines (p : Part) (x : Lines) : (p.setLines x).timer = p.timer := rfl

/-! ### corners -/

@[simp] theorem corners_setBridge (p : Part) (x : Bridge) : (p.setBridge x).corners = p.corners := rfl
@[simp] theorem corners_setPort (p : Part) (x : ReadPort) : (p.setPort x).corners = p.corners := rfl
@[simp] theorem corners_setDemand (p : Part) (i : SlotId) (x : DemandSlot) : (p.setDemand i x).corners = p.corners := rfl
@[simp] theorem corners_setUrgent (p : Part) (c : CornerId) (x : UrgentSlot) : (p.setUrgent c x).corners = p.corners := rfl
@[simp] theorem corners_setTimer (p : Part) (x : Timer) : (p.setTimer x).corners = p.corners := rfl
@[simp] theorem corners_setPairing (p : Part) (x : Bool) : (p.setPairing x).corners = p.corners := rfl
@[simp] theorem corners_setChannel (p : Part) (v : ValveId) (x : Channel) : (p.setChannel v x).corners = p.corners := rfl
@[simp] theorem corners_setMap (p : Part) (v : ValveId) (x : MapEntry) : (p.setMap v x).corners = p.corners := rfl
@[simp] theorem corners_setAnalyzer (p : Part) (x : Analyzer) : (p.setAnalyzer x).corners = p.corners := rfl
@[simp] theorem corners_setSetup (p : Part) (x : Setup) : (p.setSetup x).corners = p.corners := rfl
@[simp] theorem corners_setEngine (p : Part) (x : Engine) : (p.setEngine x).corners = p.corners := rfl
@[simp] theorem corners_setWaitCount (p : Part) (x : Nat) : (p.setWaitCount x).corners = p.corners := rfl
@[simp] theorem corners_setJournal (p : Part) (x : Journal) : (p.setJournal x).corners = p.corners := rfl
@[simp] theorem corners_setLines (p : Part) (x : Lines) : (p.setLines x).corners = p.corners := rfl

/-! ### pairing -/

@[simp] theorem pairing_setBridge (p : Part) (x : Bridge) : (p.setBridge x).pairing = p.pairing := rfl
@[simp] theorem pairing_setPort (p : Part) (x : ReadPort) : (p.setPort x).pairing = p.pairing := rfl
@[simp] theorem pairing_setDemand (p : Part) (i : SlotId) (x : DemandSlot) : (p.setDemand i x).pairing = p.pairing := rfl
@[simp] theorem pairing_setUrgent (p : Part) (c : CornerId) (x : UrgentSlot) : (p.setUrgent c x).pairing = p.pairing := rfl
@[simp] theorem pairing_setTimer (p : Part) (x : Timer) : (p.setTimer x).pairing = p.pairing := rfl
@[simp] theorem pairing_setCorner (p : Part) (c : CornerId) (x : Corner) : (p.setCorner c x).pairing = p.pairing := rfl
@[simp] theorem pairing_setPairing (p : Part) (x : Bool) : (p.setPairing x).pairing = x := rfl
@[simp] theorem pairing_setChannel (p : Part) (v : ValveId) (x : Channel) : (p.setChannel v x).pairing = p.pairing := rfl
@[simp] theorem pairing_setMap (p : Part) (v : ValveId) (x : MapEntry) : (p.setMap v x).pairing = p.pairing := rfl
@[simp] theorem pairing_setAnalyzer (p : Part) (x : Analyzer) : (p.setAnalyzer x).pairing = p.pairing := rfl
@[simp] theorem pairing_setSetup (p : Part) (x : Setup) : (p.setSetup x).pairing = p.pairing := rfl
@[simp] theorem pairing_setEngine (p : Part) (x : Engine) : (p.setEngine x).pairing = p.pairing := rfl
@[simp] theorem pairing_setWaitCount (p : Part) (x : Nat) : (p.setWaitCount x).pairing = p.pairing := rfl
@[simp] theorem pairing_setJournal (p : Part) (x : Journal) : (p.setJournal x).pairing = p.pairing := rfl
@[simp] theorem pairing_setLines (p : Part) (x : Lines) : (p.setLines x).pairing = p.pairing := rfl

/-! ### channels -/

@[simp] theorem channels_setBridge (p : Part) (x : Bridge) : (p.setBridge x).channels = p.channels := rfl
@[simp] theorem channels_setPort (p : Part) (x : ReadPort) : (p.setPort x).channels = p.channels := rfl
@[simp] theorem channels_setDemand (p : Part) (i : SlotId) (x : DemandSlot) : (p.setDemand i x).channels = p.channels := rfl
@[simp] theorem channels_setUrgent (p : Part) (c : CornerId) (x : UrgentSlot) : (p.setUrgent c x).channels = p.channels := rfl
@[simp] theorem channels_setTimer (p : Part) (x : Timer) : (p.setTimer x).channels = p.channels := rfl
@[simp] theorem channels_setCorner (p : Part) (c : CornerId) (x : Corner) : (p.setCorner c x).channels = p.channels := rfl
@[simp] theorem channels_setPairing (p : Part) (x : Bool) : (p.setPairing x).channels = p.channels := rfl
@[simp] theorem channels_setMap (p : Part) (v : ValveId) (x : MapEntry) : (p.setMap v x).channels = p.channels := rfl
@[simp] theorem channels_setAnalyzer (p : Part) (x : Analyzer) : (p.setAnalyzer x).channels = p.channels := rfl
@[simp] theorem channels_setSetup (p : Part) (x : Setup) : (p.setSetup x).channels = p.channels := rfl
@[simp] theorem channels_setEngine (p : Part) (x : Engine) : (p.setEngine x).channels = p.channels := rfl
@[simp] theorem channels_setWaitCount (p : Part) (x : Nat) : (p.setWaitCount x).channels = p.channels := rfl
@[simp] theorem channels_setJournal (p : Part) (x : Journal) : (p.setJournal x).channels = p.channels := rfl
@[simp] theorem channels_setLines (p : Part) (x : Lines) : (p.setLines x).channels = p.channels := rfl

/-! ### maps -/

@[simp] theorem maps_setBridge (p : Part) (x : Bridge) : (p.setBridge x).maps = p.maps := rfl
@[simp] theorem maps_setPort (p : Part) (x : ReadPort) : (p.setPort x).maps = p.maps := rfl
@[simp] theorem maps_setDemand (p : Part) (i : SlotId) (x : DemandSlot) : (p.setDemand i x).maps = p.maps := rfl
@[simp] theorem maps_setUrgent (p : Part) (c : CornerId) (x : UrgentSlot) : (p.setUrgent c x).maps = p.maps := rfl
@[simp] theorem maps_setTimer (p : Part) (x : Timer) : (p.setTimer x).maps = p.maps := rfl
@[simp] theorem maps_setCorner (p : Part) (c : CornerId) (x : Corner) : (p.setCorner c x).maps = p.maps := rfl
@[simp] theorem maps_setPairing (p : Part) (x : Bool) : (p.setPairing x).maps = p.maps := rfl
@[simp] theorem maps_setChannel (p : Part) (v : ValveId) (x : Channel) : (p.setChannel v x).maps = p.maps := rfl
@[simp] theorem maps_setAnalyzer (p : Part) (x : Analyzer) : (p.setAnalyzer x).maps = p.maps := rfl
@[simp] theorem maps_setSetup (p : Part) (x : Setup) : (p.setSetup x).maps = p.maps := rfl
@[simp] theorem maps_setEngine (p : Part) (x : Engine) : (p.setEngine x).maps = p.maps := rfl
@[simp] theorem maps_setWaitCount (p : Part) (x : Nat) : (p.setWaitCount x).maps = p.maps := rfl
@[simp] theorem maps_setJournal (p : Part) (x : Journal) : (p.setJournal x).maps = p.maps := rfl
@[simp] theorem maps_setLines (p : Part) (x : Lines) : (p.setLines x).maps = p.maps := rfl

/-! ### analyzer -/

@[simp] theorem analyzer_setBridge (p : Part) (x : Bridge) : (p.setBridge x).analyzer = p.analyzer := rfl
@[simp] theorem analyzer_setPort (p : Part) (x : ReadPort) : (p.setPort x).analyzer = p.analyzer := rfl
@[simp] theorem analyzer_setDemand (p : Part) (i : SlotId) (x : DemandSlot) : (p.setDemand i x).analyzer = p.analyzer := rfl
@[simp] theorem analyzer_setUrgent (p : Part) (c : CornerId) (x : UrgentSlot) : (p.setUrgent c x).analyzer = p.analyzer := rfl
@[simp] theorem analyzer_setTimer (p : Part) (x : Timer) : (p.setTimer x).analyzer = p.analyzer := rfl
@[simp] theorem analyzer_setCorner (p : Part) (c : CornerId) (x : Corner) : (p.setCorner c x).analyzer = p.analyzer := rfl
@[simp] theorem analyzer_setPairing (p : Part) (x : Bool) : (p.setPairing x).analyzer = p.analyzer := rfl
@[simp] theorem analyzer_setChannel (p : Part) (v : ValveId) (x : Channel) : (p.setChannel v x).analyzer = p.analyzer := rfl
@[simp] theorem analyzer_setMap (p : Part) (v : ValveId) (x : MapEntry) : (p.setMap v x).analyzer = p.analyzer := rfl
@[simp] theorem analyzer_setAnalyzer (p : Part) (x : Analyzer) : (p.setAnalyzer x).analyzer = x := rfl
@[simp] theorem analyzer_setSetup (p : Part) (x : Setup) : (p.setSetup x).analyzer = p.analyzer := rfl
@[simp] theorem analyzer_setEngine (p : Part) (x : Engine) : (p.setEngine x).analyzer = p.analyzer := rfl
@[simp] theorem analyzer_setWaitCount (p : Part) (x : Nat) : (p.setWaitCount x).analyzer = p.analyzer := rfl
@[simp] theorem analyzer_setJournal (p : Part) (x : Journal) : (p.setJournal x).analyzer = p.analyzer := rfl
@[simp] theorem analyzer_setLines (p : Part) (x : Lines) : (p.setLines x).analyzer = p.analyzer := rfl

/-! ### setup -/

@[simp] theorem setup_setBridge (p : Part) (x : Bridge) : (p.setBridge x).setup = p.setup := rfl
@[simp] theorem setup_setPort (p : Part) (x : ReadPort) : (p.setPort x).setup = p.setup := rfl
@[simp] theorem setup_setDemand (p : Part) (i : SlotId) (x : DemandSlot) : (p.setDemand i x).setup = p.setup := rfl
@[simp] theorem setup_setUrgent (p : Part) (c : CornerId) (x : UrgentSlot) : (p.setUrgent c x).setup = p.setup := rfl
@[simp] theorem setup_setTimer (p : Part) (x : Timer) : (p.setTimer x).setup = p.setup := rfl
@[simp] theorem setup_setCorner (p : Part) (c : CornerId) (x : Corner) : (p.setCorner c x).setup = p.setup := rfl
@[simp] theorem setup_setPairing (p : Part) (x : Bool) : (p.setPairing x).setup = p.setup := rfl
@[simp] theorem setup_setChannel (p : Part) (v : ValveId) (x : Channel) : (p.setChannel v x).setup = p.setup := rfl
@[simp] theorem setup_setMap (p : Part) (v : ValveId) (x : MapEntry) : (p.setMap v x).setup = p.setup := rfl
@[simp] theorem setup_setAnalyzer (p : Part) (x : Analyzer) : (p.setAnalyzer x).setup = p.setup := rfl
@[simp] theorem setup_setSetup (p : Part) (x : Setup) : (p.setSetup x).setup = x := rfl
@[simp] theorem setup_setEngine (p : Part) (x : Engine) : (p.setEngine x).setup = p.setup := rfl
@[simp] theorem setup_setWaitCount (p : Part) (x : Nat) : (p.setWaitCount x).setup = p.setup := rfl
@[simp] theorem setup_setJournal (p : Part) (x : Journal) : (p.setJournal x).setup = p.setup := rfl
@[simp] theorem setup_setLines (p : Part) (x : Lines) : (p.setLines x).setup = p.setup := rfl

/-! ### engine -/

@[simp] theorem engine_setBridge (p : Part) (x : Bridge) : (p.setBridge x).engine = p.engine := rfl
@[simp] theorem engine_setPort (p : Part) (x : ReadPort) : (p.setPort x).engine = p.engine := rfl
@[simp] theorem engine_setDemand (p : Part) (i : SlotId) (x : DemandSlot) : (p.setDemand i x).engine = p.engine := rfl
@[simp] theorem engine_setUrgent (p : Part) (c : CornerId) (x : UrgentSlot) : (p.setUrgent c x).engine = p.engine := rfl
@[simp] theorem engine_setTimer (p : Part) (x : Timer) : (p.setTimer x).engine = p.engine := rfl
@[simp] theorem engine_setCorner (p : Part) (c : CornerId) (x : Corner) : (p.setCorner c x).engine = p.engine := rfl
@[simp] theorem engine_setPairing (p : Part) (x : Bool) : (p.setPairing x).engine = p.engine := rfl
@[simp] theorem engine_setChannel (p : Part) (v : ValveId) (x : Channel) : (p.setChannel v x).engine = p.engine := rfl
@[simp] theorem engine_setMap (p : Part) (v : ValveId) (x : MapEntry) : (p.setMap v x).engine = p.engine := rfl
@[simp] theorem engine_setAnalyzer (p : Part) (x : Analyzer) : (p.setAnalyzer x).engine = p.engine := rfl
@[simp] theorem engine_setSetup (p : Part) (x : Setup) : (p.setSetup x).engine = p.engine := rfl
@[simp] theorem engine_setEngine (p : Part) (x : Engine) : (p.setEngine x).engine = x := rfl
@[simp] theorem engine_setWaitCount (p : Part) (x : Nat) : (p.setWaitCount x).engine = p.engine := rfl
@[simp] theorem engine_setJournal (p : Part) (x : Journal) : (p.setJournal x).engine = p.engine := rfl
@[simp] theorem engine_setLines (p : Part) (x : Lines) : (p.setLines x).engine = p.engine := rfl

/-! ### waitCount -/

@[simp] theorem waitCount_setBridge (p : Part) (x : Bridge) : (p.setBridge x).waitCount = p.waitCount := rfl
@[simp] theorem waitCount_setPort (p : Part) (x : ReadPort) : (p.setPort x).waitCount = p.waitCount := rfl
@[simp] theorem waitCount_setDemand (p : Part) (i : SlotId) (x : DemandSlot) : (p.setDemand i x).waitCount = p.waitCount := rfl
@[simp] theorem waitCount_setUrgent (p : Part) (c : CornerId) (x : UrgentSlot) : (p.setUrgent c x).waitCount = p.waitCount := rfl
@[simp] theorem waitCount_setTimer (p : Part) (x : Timer) : (p.setTimer x).waitCount = p.waitCount := rfl
@[simp] theorem waitCount_setCorner (p : Part) (c : CornerId) (x : Corner) : (p.setCorner c x).waitCount = p.waitCount := rfl
@[simp] theorem waitCount_setPairing (p : Part) (x : Bool) : (p.setPairing x).waitCount = p.waitCount := rfl
@[simp] theorem waitCount_setChannel (p : Part) (v : ValveId) (x : Channel) : (p.setChannel v x).waitCount = p.waitCount := rfl
@[simp] theorem waitCount_setMap (p : Part) (v : ValveId) (x : MapEntry) : (p.setMap v x).waitCount = p.waitCount := rfl
@[simp] theorem waitCount_setAnalyzer (p : Part) (x : Analyzer) : (p.setAnalyzer x).waitCount = p.waitCount := rfl
@[simp] theorem waitCount_setSetup (p : Part) (x : Setup) : (p.setSetup x).waitCount = p.waitCount := rfl
@[simp] theorem waitCount_setEngine (p : Part) (x : Engine) : (p.setEngine x).waitCount = p.waitCount := rfl
@[simp] theorem waitCount_setWaitCount (p : Part) (x : Nat) : (p.setWaitCount x).waitCount = x := rfl
@[simp] theorem waitCount_setJournal (p : Part) (x : Journal) : (p.setJournal x).waitCount = p.waitCount := rfl
@[simp] theorem waitCount_setLines (p : Part) (x : Lines) : (p.setLines x).waitCount = p.waitCount := rfl

/-! ### journal -/

@[simp] theorem journal_setBridge (p : Part) (x : Bridge) : (p.setBridge x).journal = p.journal := rfl
@[simp] theorem journal_setPort (p : Part) (x : ReadPort) : (p.setPort x).journal = p.journal := rfl
@[simp] theorem journal_setDemand (p : Part) (i : SlotId) (x : DemandSlot) : (p.setDemand i x).journal = p.journal := rfl
@[simp] theorem journal_setUrgent (p : Part) (c : CornerId) (x : UrgentSlot) : (p.setUrgent c x).journal = p.journal := rfl
@[simp] theorem journal_setTimer (p : Part) (x : Timer) : (p.setTimer x).journal = p.journal := rfl
@[simp] theorem journal_setCorner (p : Part) (c : CornerId) (x : Corner) : (p.setCorner c x).journal = p.journal := rfl
@[simp] theorem journal_setPairing (p : Part) (x : Bool) : (p.setPairing x).journal = p.journal := rfl
@[simp] theorem journal_setChannel (p : Part) (v : ValveId) (x : Channel) : (p.setChannel v x).journal = p.journal := rfl
@[simp] theorem journal_setMap (p : Part) (v : ValveId) (x : MapEntry) : (p.setMap v x).journal = p.journal := rfl
@[simp] theorem journal_setAnalyzer (p : Part) (x : Analyzer) : (p.setAnalyzer x).journal = p.journal := rfl
@[simp] theorem journal_setSetup (p : Part) (x : Setup) : (p.setSetup x).journal = p.journal := rfl
@[simp] theorem journal_setEngine (p : Part) (x : Engine) : (p.setEngine x).journal = p.journal := rfl
@[simp] theorem journal_setWaitCount (p : Part) (x : Nat) : (p.setWaitCount x).journal = p.journal := rfl
@[simp] theorem journal_setJournal (p : Part) (x : Journal) : (p.setJournal x).journal = x := rfl
@[simp] theorem journal_setLines (p : Part) (x : Lines) : (p.setLines x).journal = p.journal := rfl

/-! ### lines -/

@[simp] theorem lines_setBridge (p : Part) (x : Bridge) : (p.setBridge x).lines = p.lines := rfl
@[simp] theorem lines_setPort (p : Part) (x : ReadPort) : (p.setPort x).lines = p.lines := rfl
@[simp] theorem lines_setDemand (p : Part) (i : SlotId) (x : DemandSlot) : (p.setDemand i x).lines = p.lines := rfl
@[simp] theorem lines_setUrgent (p : Part) (c : CornerId) (x : UrgentSlot) : (p.setUrgent c x).lines = p.lines := rfl
@[simp] theorem lines_setTimer (p : Part) (x : Timer) : (p.setTimer x).lines = p.lines := rfl
@[simp] theorem lines_setCorner (p : Part) (c : CornerId) (x : Corner) : (p.setCorner c x).lines = p.lines := rfl
@[simp] theorem lines_setPairing (p : Part) (x : Bool) : (p.setPairing x).lines = p.lines := rfl
@[simp] theorem lines_setChannel (p : Part) (v : ValveId) (x : Channel) : (p.setChannel v x).lines = p.lines := rfl
@[simp] theorem lines_setMap (p : Part) (v : ValveId) (x : MapEntry) : (p.setMap v x).lines = p.lines := rfl
@[simp] theorem lines_setAnalyzer (p : Part) (x : Analyzer) : (p.setAnalyzer x).lines = p.lines := rfl
@[simp] theorem lines_setSetup (p : Part) (x : Setup) : (p.setSetup x).lines = p.lines := rfl
@[simp] theorem lines_setEngine (p : Part) (x : Engine) : (p.setEngine x).lines = p.lines := rfl
@[simp] theorem lines_setWaitCount (p : Part) (x : Nat) : (p.setWaitCount x).lines = p.lines := rfl
@[simp] theorem lines_setJournal (p : Part) (x : Journal) : (p.setJournal x).lines = p.lines := rfl
@[simp] theorem lines_setLines (p : Part) (x : Lines) : (p.setLines x).lines = x := rfl

/-! ### fresh -/

@[simp] theorem fresh_setBridge (p : Part) (x : Bridge) : (p.setBridge x).fresh = p.fresh := rfl
@[simp] theorem fresh_setPort (p : Part) (x : ReadPort) : (p.setPort x).fresh = p.fresh := rfl
@[simp] theorem fresh_setDemand (p : Part) (i : SlotId) (x : DemandSlot) : (p.setDemand i x).fresh = p.fresh := rfl
@[simp] theorem fresh_setUrgent (p : Part) (c : CornerId) (x : UrgentSlot) : (p.setUrgent c x).fresh = p.fresh := rfl
@[simp] theorem fresh_setTimer (p : Part) (x : Timer) : (p.setTimer x).fresh = p.fresh := rfl
@[simp] theorem fresh_setCorner (p : Part) (c : CornerId) (x : Corner) : (p.setCorner c x).fresh = p.fresh := rfl
@[simp] theorem fresh_setPairing (p : Part) (x : Bool) : (p.setPairing x).fresh = p.fresh := rfl
@[simp] theorem fresh_setChannel (p : Part) (v : ValveId) (x : Channel) : (p.setChannel v x).fresh = p.fresh := rfl
@[simp] theorem fresh_setMap (p : Part) (v : ValveId) (x : MapEntry) : (p.setMap v x).fresh = p.fresh := rfl
@[simp] theorem fresh_setAnalyzer (p : Part) (x : Analyzer) : (p.setAnalyzer x).fresh = p.fresh := rfl
@[simp] theorem fresh_setSetup (p : Part) (x : Setup) : (p.setSetup x).fresh = p.fresh := rfl
@[simp] theorem fresh_setEngine (p : Part) (x : Engine) : (p.setEngine x).fresh = p.fresh := rfl
@[simp] theorem fresh_setWaitCount (p : Part) (x : Nat) : (p.setWaitCount x).fresh = p.fresh := rfl
@[simp] theorem fresh_setJournal (p : Part) (x : Journal) : (p.setJournal x).fresh = p.fresh := rfl
@[simp] theorem fresh_setLines (p : Part) (x : Lines) : (p.setLines x).fresh = p.fresh := rfl

/-! ### One unit through the replacement of another -/

@[simp] theorem demandSlot_setBridge (p : Part) (x : Bridge) (j : SlotId) : (p.setBridge x).demandSlot j = p.demandSlot j := rfl
@[simp] theorem demandSlot_setPort (p : Part) (x : ReadPort) (j : SlotId) : (p.setPort x).demandSlot j = p.demandSlot j := rfl
@[simp] theorem demandSlot_setUrgent (p : Part) (c : CornerId) (x : UrgentSlot) (j : SlotId) : (p.setUrgent c x).demandSlot j = p.demandSlot j := rfl
@[simp] theorem demandSlot_setTimer (p : Part) (x : Timer) (j : SlotId) : (p.setTimer x).demandSlot j = p.demandSlot j := rfl
@[simp] theorem demandSlot_setCorner (p : Part) (c : CornerId) (x : Corner) (j : SlotId) : (p.setCorner c x).demandSlot j = p.demandSlot j := rfl
@[simp] theorem demandSlot_setPairing (p : Part) (x : Bool) (j : SlotId) : (p.setPairing x).demandSlot j = p.demandSlot j := rfl
@[simp] theorem demandSlot_setChannel (p : Part) (v : ValveId) (x : Channel) (j : SlotId) : (p.setChannel v x).demandSlot j = p.demandSlot j := rfl
@[simp] theorem demandSlot_setMap (p : Part) (v : ValveId) (x : MapEntry) (j : SlotId) : (p.setMap v x).demandSlot j = p.demandSlot j := rfl
@[simp] theorem demandSlot_setAnalyzer (p : Part) (x : Analyzer) (j : SlotId) : (p.setAnalyzer x).demandSlot j = p.demandSlot j := rfl
@[simp] theorem demandSlot_setSetup (p : Part) (x : Setup) (j : SlotId) : (p.setSetup x).demandSlot j = p.demandSlot j := rfl
@[simp] theorem demandSlot_setEngine (p : Part) (x : Engine) (j : SlotId) : (p.setEngine x).demandSlot j = p.demandSlot j := rfl
@[simp] theorem demandSlot_setWaitCount (p : Part) (x : Nat) (j : SlotId) : (p.setWaitCount x).demandSlot j = p.demandSlot j := rfl
@[simp] theorem demandSlot_setJournal (p : Part) (x : Journal) (j : SlotId) : (p.setJournal x).demandSlot j = p.demandSlot j := rfl
@[simp] theorem demandSlot_setLines (p : Part) (x : Lines) (j : SlotId) : (p.setLines x).demandSlot j = p.demandSlot j := rfl

@[simp] theorem urgentSlot_setBridge (p : Part) (x : Bridge) (j : CornerId) : (p.setBridge x).urgentSlot j = p.urgentSlot j := rfl
@[simp] theorem urgentSlot_setPort (p : Part) (x : ReadPort) (j : CornerId) : (p.setPort x).urgentSlot j = p.urgentSlot j := rfl
@[simp] theorem urgentSlot_setDemand (p : Part) (i : SlotId) (x : DemandSlot) (j : CornerId) : (p.setDemand i x).urgentSlot j = p.urgentSlot j := rfl
@[simp] theorem urgentSlot_setTimer (p : Part) (x : Timer) (j : CornerId) : (p.setTimer x).urgentSlot j = p.urgentSlot j := rfl
@[simp] theorem urgentSlot_setCorner (p : Part) (c : CornerId) (x : Corner) (j : CornerId) : (p.setCorner c x).urgentSlot j = p.urgentSlot j := rfl
@[simp] theorem urgentSlot_setPairing (p : Part) (x : Bool) (j : CornerId) : (p.setPairing x).urgentSlot j = p.urgentSlot j := rfl
@[simp] theorem urgentSlot_setChannel (p : Part) (v : ValveId) (x : Channel) (j : CornerId) : (p.setChannel v x).urgentSlot j = p.urgentSlot j := rfl
@[simp] theorem urgentSlot_setMap (p : Part) (v : ValveId) (x : MapEntry) (j : CornerId) : (p.setMap v x).urgentSlot j = p.urgentSlot j := rfl
@[simp] theorem urgentSlot_setAnalyzer (p : Part) (x : Analyzer) (j : CornerId) : (p.setAnalyzer x).urgentSlot j = p.urgentSlot j := rfl
@[simp] theorem urgentSlot_setSetup (p : Part) (x : Setup) (j : CornerId) : (p.setSetup x).urgentSlot j = p.urgentSlot j := rfl
@[simp] theorem urgentSlot_setEngine (p : Part) (x : Engine) (j : CornerId) : (p.setEngine x).urgentSlot j = p.urgentSlot j := rfl
@[simp] theorem urgentSlot_setWaitCount (p : Part) (x : Nat) (j : CornerId) : (p.setWaitCount x).urgentSlot j = p.urgentSlot j := rfl
@[simp] theorem urgentSlot_setJournal (p : Part) (x : Journal) (j : CornerId) : (p.setJournal x).urgentSlot j = p.urgentSlot j := rfl
@[simp] theorem urgentSlot_setLines (p : Part) (x : Lines) (j : CornerId) : (p.setLines x).urgentSlot j = p.urgentSlot j := rfl

@[simp] theorem corner_setBridge (p : Part) (x : Bridge) (j : CornerId) : (p.setBridge x).corner j = p.corner j := rfl
@[simp] theorem corner_setPort (p : Part) (x : ReadPort) (j : CornerId) : (p.setPort x).corner j = p.corner j := rfl
@[simp] theorem corner_setDemand (p : Part) (i : SlotId) (x : DemandSlot) (j : CornerId) : (p.setDemand i x).corner j = p.corner j := rfl
@[simp] theorem corner_setUrgent (p : Part) (c : CornerId) (x : UrgentSlot) (j : CornerId) : (p.setUrgent c x).corner j = p.corner j := rfl
@[simp] theorem corner_setTimer (p : Part) (x : Timer) (j : CornerId) : (p.setTimer x).corner j = p.corner j := rfl
@[simp] theorem corner_setPairing (p : Part) (x : Bool) (j : CornerId) : (p.setPairing x).corner j = p.corner j := rfl
@[simp] theorem corner_setChannel (p : Part) (v : ValveId) (x : Channel) (j : CornerId) : (p.setChannel v x).corner j = p.corner j := rfl
@[simp] theorem corner_setMap (p : Part) (v : ValveId) (x : MapEntry) (j : CornerId) : (p.setMap v x).corner j = p.corner j := rfl
@[simp] theorem corner_setAnalyzer (p : Part) (x : Analyzer) (j : CornerId) : (p.setAnalyzer x).corner j = p.corner j := rfl
@[simp] theorem corner_setSetup (p : Part) (x : Setup) (j : CornerId) : (p.setSetup x).corner j = p.corner j := rfl
@[simp] theorem corner_setEngine (p : Part) (x : Engine) (j : CornerId) : (p.setEngine x).corner j = p.corner j := rfl
@[simp] theorem corner_setWaitCount (p : Part) (x : Nat) (j : CornerId) : (p.setWaitCount x).corner j = p.corner j := rfl
@[simp] theorem corner_setJournal (p : Part) (x : Journal) (j : CornerId) : (p.setJournal x).corner j = p.corner j := rfl
@[simp] theorem corner_setLines (p : Part) (x : Lines) (j : CornerId) : (p.setLines x).corner j = p.corner j := rfl

@[simp] theorem channel_setBridge (p : Part) (x : Bridge) (w : ValveId) : (p.setBridge x).channel w = p.channel w := rfl
@[simp] theorem channel_setPort (p : Part) (x : ReadPort) (w : ValveId) : (p.setPort x).channel w = p.channel w := rfl
@[simp] theorem channel_setDemand (p : Part) (i : SlotId) (x : DemandSlot) (w : ValveId) : (p.setDemand i x).channel w = p.channel w := rfl
@[simp] theorem channel_setUrgent (p : Part) (c : CornerId) (x : UrgentSlot) (w : ValveId) : (p.setUrgent c x).channel w = p.channel w := rfl
@[simp] theorem channel_setTimer (p : Part) (x : Timer) (w : ValveId) : (p.setTimer x).channel w = p.channel w := rfl
@[simp] theorem channel_setCorner (p : Part) (c : CornerId) (x : Corner) (w : ValveId) : (p.setCorner c x).channel w = p.channel w := rfl
@[simp] theorem channel_setPairing (p : Part) (x : Bool) (w : ValveId) : (p.setPairing x).channel w = p.channel w := rfl
@[simp] theorem channel_setMap (p : Part) (v : ValveId) (x : MapEntry) (w : ValveId) : (p.setMap v x).channel w = p.channel w := rfl
@[simp] theorem channel_setAnalyzer (p : Part) (x : Analyzer) (w : ValveId) : (p.setAnalyzer x).channel w = p.channel w := rfl
@[simp] theorem channel_setSetup (p : Part) (x : Setup) (w : ValveId) : (p.setSetup x).channel w = p.channel w := rfl
@[simp] theorem channel_setEngine (p : Part) (x : Engine) (w : ValveId) : (p.setEngine x).channel w = p.channel w := rfl
@[simp] theorem channel_setWaitCount (p : Part) (x : Nat) (w : ValveId) : (p.setWaitCount x).channel w = p.channel w := rfl
@[simp] theorem channel_setJournal (p : Part) (x : Journal) (w : ValveId) : (p.setJournal x).channel w = p.channel w := rfl
@[simp] theorem channel_setLines (p : Part) (x : Lines) (w : ValveId) : (p.setLines x).channel w = p.channel w := rfl

@[simp] theorem map_setBridge (p : Part) (x : Bridge) (w : ValveId) : (p.setBridge x).map w = p.map w := rfl
@[simp] theorem map_setPort (p : Part) (x : ReadPort) (w : ValveId) : (p.setPort x).map w = p.map w := rfl
@[simp] theorem map_setDemand (p : Part) (i : SlotId) (x : DemandSlot) (w : ValveId) : (p.setDemand i x).map w = p.map w := rfl
@[simp] theorem map_setUrgent (p : Part) (c : CornerId) (x : UrgentSlot) (w : ValveId) : (p.setUrgent c x).map w = p.map w := rfl
@[simp] theorem map_setTimer (p : Part) (x : Timer) (w : ValveId) : (p.setTimer x).map w = p.map w := rfl
@[simp] theorem map_setCorner (p : Part) (c : CornerId) (x : Corner) (w : ValveId) : (p.setCorner c x).map w = p.map w := rfl
@[simp] theorem map_setPairing (p : Part) (x : Bool) (w : ValveId) : (p.setPairing x).map w = p.map w := rfl
@[simp] theorem map_setChannel (p : Part) (v : ValveId) (x : Channel) (w : ValveId) : (p.setChannel v x).map w = p.map w := rfl
@[simp] theorem map_setAnalyzer (p : Part) (x : Analyzer) (w : ValveId) : (p.setAnalyzer x).map w = p.map w := rfl
@[simp] theorem map_setSetup (p : Part) (x : Setup) (w : ValveId) : (p.setSetup x).map w = p.map w := rfl
@[simp] theorem map_setEngine (p : Part) (x : Engine) (w : ValveId) : (p.setEngine x).map w = p.map w := rfl
@[simp] theorem map_setWaitCount (p : Part) (x : Nat) (w : ValveId) : (p.setWaitCount x).map w = p.map w := rfl
@[simp] theorem map_setJournal (p : Part) (x : Journal) (w : ValveId) : (p.setJournal x).map w = p.map w := rfl
@[simp] theorem map_setLines (p : Part) (x : Lines) (w : ValveId) : (p.setLines x).map w = p.map w := rfl

@[simp] theorem driverFault_setBridge' (p : Part) (x : Bridge) (w : ValveId) :
    (p.setBridge x).driverFault w = p.driverFault w := rfl
@[simp] theorem driverFault_setPort' (p : Part) (x : ReadPort) (w : ValveId) :
    (p.setPort x).driverFault w = p.driverFault w := rfl
@[simp] theorem driverFault_setDemand' (p : Part) (i : SlotId) (x : DemandSlot) (w : ValveId) :
    (p.setDemand i x).driverFault w = p.driverFault w := rfl
@[simp] theorem driverFault_setUrgent' (p : Part) (c : CornerId) (x : UrgentSlot) (w : ValveId) :
    (p.setUrgent c x).driverFault w = p.driverFault w := rfl
@[simp] theorem driverFault_setTimer' (p : Part) (x : Timer) (w : ValveId) :
    (p.setTimer x).driverFault w = p.driverFault w := rfl
@[simp] theorem driverFault_setCorner' (p : Part) (c : CornerId) (x : Corner) (w : ValveId) :
    (p.setCorner c x).driverFault w = p.driverFault w := rfl
@[simp] theorem driverFault_setPairing' (p : Part) (x : Bool) (w : ValveId) :
    (p.setPairing x).driverFault w = p.driverFault w := rfl
@[simp] theorem driverFault_setChannel' (p : Part) (v : ValveId) (x : Channel) (w : ValveId) :
    (p.setChannel v x).driverFault w = p.driverFault w := rfl
@[simp] theorem driverFault_setMap' (p : Part) (v : ValveId) (x : MapEntry) (w : ValveId) :
    (p.setMap v x).driverFault w = p.driverFault w := rfl
@[simp] theorem driverFault_setAnalyzer' (p : Part) (x : Analyzer) (w : ValveId) :
    (p.setAnalyzer x).driverFault w = p.driverFault w := rfl
@[simp] theorem driverFault_setSetup' (p : Part) (x : Setup) (w : ValveId) :
    (p.setSetup x).driverFault w = p.driverFault w := rfl
@[simp] theorem driverFault_setEngine' (p : Part) (x : Engine) (w : ValveId) :
    (p.setEngine x).driverFault w = p.driverFault w := rfl
@[simp] theorem driverFault_setWaitCount' (p : Part) (x : Nat) (w : ValveId) :
    (p.setWaitCount x).driverFault w = p.driverFault w := rfl
@[simp] theorem driverFault_setJournal' (p : Part) (x : Journal) (w : ValveId) :
    (p.setJournal x).driverFault w = p.driverFault w := rfl
@[simp] theorem driverFault_setLines' (p : Part) (x : Lines) (w : ValveId) :
    (p.setLines x).driverFault w = x.dflt[w] := rfl

/-! ### The replaced unit itself -/

@[simp] theorem demandSlot_setDemand_self (p : Part) (i : SlotId) (x : DemandSlot) : (p.setDemand i x).demandSlot i = x := by
  simp [Part.demandSlot, Part.setDemand]

@[simp] theorem demandSlot_setDemand_ne (p : Part) {i j : SlotId} (x : DemandSlot) (h : j ≠ i) :
    (p.setDemand i x).demandSlot j = p.demandSlot j := by
  have h' : i.val ≠ j.val := fun e => h (Fin.ext e.symm)
  simp [Part.demandSlot, Part.setDemand, h']

theorem demandSlot_setDemand (p : Part) (i j : SlotId) (x : DemandSlot) :
    (p.setDemand i x).demandSlot j = if j = i then x else p.demandSlot j := by
  by_cases h : j = i
  · subst h; simp
  · simp [h]

@[simp] theorem setDemand_setDemand (p : Part) (i : SlotId) (x y : DemandSlot) : (p.setDemand i x).setDemand i y = p.setDemand i y := by
  simp [Part.setDemand]

@[simp] theorem setDemand_demandSlot (p : Part) (i : SlotId) : p.setDemand i (p.demandSlot i) = p := by
  simp [Part.setDemand, Part.demandSlot]

@[simp] theorem urgentSlot_setUrgent_self (p : Part) (c : CornerId) (x : UrgentSlot) : (p.setUrgent c x).urgentSlot c = x := by
  simp [Part.urgentSlot, Part.setUrgent]

@[simp] theorem urgentSlot_setUrgent_ne (p : Part) {c j : CornerId} (x : UrgentSlot) (h : j ≠ c) :
    (p.setUrgent c x).urgentSlot j = p.urgentSlot j := by
  have h' : c.val ≠ j.val := fun e => h (Fin.ext e.symm)
  simp [Part.urgentSlot, Part.setUrgent, h']

theorem urgentSlot_setUrgent (p : Part) (c j : CornerId) (x : UrgentSlot) :
    (p.setUrgent c x).urgentSlot j = if j = c then x else p.urgentSlot j := by
  by_cases h : j = c
  · subst h; simp
  · simp [h]

@[simp] theorem setUrgent_setUrgent (p : Part) (c : CornerId) (x y : UrgentSlot) : (p.setUrgent c x).setUrgent c y = p.setUrgent c y := by
  simp [Part.setUrgent]

@[simp] theorem setUrgent_urgentSlot (p : Part) (c : CornerId) : p.setUrgent c (p.urgentSlot c) = p := by
  simp [Part.setUrgent, Part.urgentSlot]

@[simp] theorem corner_setCorner_self (p : Part) (c : CornerId) (x : Corner) : (p.setCorner c x).corner c = x := by
  simp [Part.corner, Part.setCorner]

@[simp] theorem corner_setCorner_ne (p : Part) {c j : CornerId} (x : Corner) (h : j ≠ c) :
    (p.setCorner c x).corner j = p.corner j := by
  have h' : c.val ≠ j.val := fun e => h (Fin.ext e.symm)
  simp [Part.corner, Part.setCorner, h']

theorem corner_setCorner (p : Part) (c j : CornerId) (x : Corner) :
    (p.setCorner c x).corner j = if j = c then x else p.corner j := by
  by_cases h : j = c
  · subst h; simp
  · simp [h]

@[simp] theorem setCorner_setCorner (p : Part) (c : CornerId) (x y : Corner) : (p.setCorner c x).setCorner c y = p.setCorner c y := by
  simp [Part.setCorner]

@[simp] theorem setCorner_corner (p : Part) (c : CornerId) : p.setCorner c (p.corner c) = p := by
  simp [Part.setCorner, Part.corner]

@[simp] theorem channel_setChannel_self (p : Part) (v : ValveId) (x : Channel) : (p.setChannel v x).channel v = x := by
  simp [Part.channel, Part.setChannel]

@[simp] theorem channel_setChannel_ne (p : Part) {v w : ValveId} (x : Channel) (h : w ≠ v) :
    (p.setChannel v x).channel w = p.channel w := by
  have h' : v.val ≠ w.val := fun e => h (Fin.ext e.symm)
  simp [Part.channel, Part.setChannel, h']

theorem channel_setChannel (p : Part) (v w : ValveId) (x : Channel) :
    (p.setChannel v x).channel w = if w = v then x else p.channel w := by
  by_cases h : w = v
  · subst h; simp
  · simp [h]

@[simp] theorem setChannel_setChannel (p : Part) (v : ValveId) (x y : Channel) : (p.setChannel v x).setChannel v y = p.setChannel v y := by
  simp [Part.setChannel]

@[simp] theorem setChannel_channel (p : Part) (v : ValveId) : p.setChannel v (p.channel v) = p := by
  simp [Part.setChannel, Part.channel]

@[simp] theorem map_setMap_self (p : Part) (v : ValveId) (x : MapEntry) : (p.setMap v x).map v = x := by
  simp [Part.map, Part.setMap]

@[simp] theorem map_setMap_ne (p : Part) {v w : ValveId} (x : MapEntry) (h : w ≠ v) :
    (p.setMap v x).map w = p.map w := by
  have h' : v.val ≠ w.val := fun e => h (Fin.ext e.symm)
  simp [Part.map, Part.setMap, h']

theorem map_setMap (p : Part) (v w : ValveId) (x : MapEntry) :
    (p.setMap v x).map w = if w = v then x else p.map w := by
  by_cases h : w = v
  · subst h; simp
  · simp [h]

@[simp] theorem setMap_setMap (p : Part) (v : ValveId) (x y : MapEntry) : (p.setMap v x).setMap v y = p.setMap v y := by
  simp [Part.setMap]

@[simp] theorem setMap_map (p : Part) (v : ValveId) : p.setMap v (p.map v) = p := by
  simp [Part.setMap, Part.map]

end Sys2Proof.Machine
end

