-- ==== Sys2Proof/Laws/Channels.lean ====
section
/-! SUPPORT. What the firmness operations of a channel leave alone: everything but that channel's firmness state, target
and settle timer, and the analyzer's start of a track capture. Each lemma says it once for one operation. -/

set_option linter.unusedTactic false
set_option linter.unnecessarySeqFocus false
set_option linter.unreachableTactic false
set_option linter.unusedSimpArgs false

namespace Sys2Proof.Machine

/-! ### Arrangements -/

/-- An arrangement holds the same elements. -/
theorem arrange_perm {α : Type} : ∀ (order : List Nat) (l : List α), (arrange order l).Perm l
  | order, [] => by cases order <;> exact List.Perm.refl _
  | [], x :: xs => List.Perm.refl _
  | k :: ks, x :: xs => by
    have hk : k % (xs.length + 1) < (x :: xs).length := Nat.mod_lt _ (Nat.succ_pos _)
    simp only [arrange]
    rw [List.getElem?_eq_getElem hk]
    refine (List.Perm.cons _ (arrange_perm ks _)).trans ?_
    exact List.getElem_cons_eraseIdx_perm hk

/-! ### What a change of a channel's firmness state keeps of it -/

@[simp] theorem step_loop (ch : Channel) (t : Nat) :
    (ch.step t).state = ch.state ∧ (ch.step t).tunedGain = ch.tunedGain ∧ (ch.step t).measured = ch.measured ∧
      (ch.step t).misses = ch.misses ∧ (ch.step t).settleTimeout = ch.settleTimeout ∧
      (ch.step t).searchReach = ch.searchReach ∧ (ch.step t).heat = ch.heat := by
  simp [Channel.step]

@[simp] theorem startRamp_loop (ch : Channel) (s t r : Nat) :
    (ch.startRamp s t r).state = ch.state ∧ (ch.startRamp s t r).tunedGain = ch.tunedGain ∧
      (ch.startRamp s t r).measured = ch.measured ∧ (ch.startRamp s t r).misses = ch.misses ∧
      (ch.startRamp s t r).settleTimeout = ch.settleTimeout ∧ (ch.startRamp s t r).searchReach = ch.searchReach ∧
      (ch.startRamp s t r).heat = ch.heat := by
  simp [Channel.startRamp]

@[simp] theorem receive_loop (ch : Channel) (b : Bool) (r : RampRequest) :
    (ch.receive b r).state = ch.state ∧ (ch.receive b r).tunedGain = ch.tunedGain ∧
      (ch.receive b r).measured = ch.measured ∧ (ch.receive b r).misses = ch.misses ∧
      (ch.receive b r).settleTimeout = ch.settleTimeout ∧ (ch.receive b r).searchReach = ch.searchReach ∧
      (ch.receive b r).heat = ch.heat := by
  unfold Channel.receive; (repeat' split) <;> simp

@[simp] theorem receiveEnd_loop (ch : Channel) (e : OverrideEnd) :
    (ch.receiveEnd e).state = ch.state ∧ (ch.receiveEnd e).tunedGain = ch.tunedGain ∧
      (ch.receiveEnd e).measured = ch.measured ∧ (ch.receiveEnd e).misses = ch.misses ∧
      (ch.receiveEnd e).settleTimeout = ch.settleTimeout ∧ (ch.receiveEnd e).searchReach = ch.searchReach ∧
      (ch.receiveEnd e).heat = ch.heat := by
  unfold Channel.receiveEnd; (repeat' split) <;> simp

@[simp] theorem rampStep_loop (ch : Channel)  :
    (ch.rampStep).state = ch.state ∧ (ch.rampStep).tunedGain = ch.tunedGain ∧ (ch.rampStep).measured = ch.measured ∧
      (ch.rampStep).misses = ch.misses ∧ (ch.rampStep).settleTimeout = ch.settleTimeout ∧
      (ch.rampStep).searchReach = ch.searchReach ∧ (ch.rampStep).heat = ch.heat := by
  unfold Channel.rampStep; (repeat' split) <;> simp

@[simp] theorem nextFrame_loop (ch : Channel)  :
    (ch.nextFrame).state = ch.state ∧ (ch.nextFrame).tunedGain = ch.tunedGain ∧
      (ch.nextFrame).measured = ch.measured ∧ (ch.nextFrame).misses = ch.misses ∧
      (ch.nextFrame).settleTimeout = ch.settleTimeout ∧ (ch.nextFrame).searchReach = ch.searchReach ∧
      (ch.nextFrame).heat = ch.heat := by
  simp [Channel.nextFrame]

/-! ### The operations on the part -/

/-- The units trackTrigger leaves alone. -/
@[simp] theorem trackTrigger_units (p : Part) (v : ValveId) :
    (p.trackTrigger v).bridge = p.bridge ∧ (p.trackTrigger v).port = p.port ∧ (p.trackTrigger v).demand = p.demand ∧
      (p.trackTrigger v).urgent = p.urgent ∧ (p.trackTrigger v).timer = p.timer ∧
      (p.trackTrigger v).corners = p.corners ∧ (p.trackTrigger v).pairing = p.pairing ∧
      (p.trackTrigger v).maps = p.maps ∧ (p.trackTrigger v).setup = p.setup ∧ (p.trackTrigger v).engine = p.engine ∧
      (p.trackTrigger v).waitCount = p.waitCount ∧ (p.trackTrigger v).journal = p.journal ∧
      (p.trackTrigger v).lines = p.lines ∧ (p.trackTrigger v).fresh = p.fresh ∧
      (∀ i, (p.trackTrigger v).demandSlot i = p.demandSlot i) ∧
      (∀ j, (p.trackTrigger v).urgentSlot j = p.urgentSlot j) ∧ (∀ j, (p.trackTrigger v).corner j = p.corner j) ∧
      (∀ w, (p.trackTrigger v).map w = p.map w) ∧ (∀ w, (p.trackTrigger v).driverFault w = p.driverFault w) := by
  unfold Part.trackTrigger; split <;> simp

/-- What trackTrigger keeps of every channel, and of the analyzer. -/
@[simp] theorem trackTrigger_loop (p : Part) (v : ValveId) :
    (∀ w, ((p.trackTrigger v).channel w).state = (p.channel w).state) ∧
      (∀ w, ((p.trackTrigger v).channel w).tunedGain = (p.channel w).tunedGain) ∧
      (∀ w, ((p.trackTrigger v).channel w).measured = (p.channel w).measured) ∧
      (∀ w, ((p.trackTrigger v).channel w).misses = (p.channel w).misses) ∧
      (∀ w, ((p.trackTrigger v).channel w).settleTimeout = (p.channel w).settleTimeout) ∧
      (∀ w, ((p.trackTrigger v).channel w).searchReach = (p.channel w).searchReach) ∧
      (∀ w, ((p.trackTrigger v).channel w).heat = (p.channel w).heat) ∧
      (p.trackTrigger v).analyzer.queue = p.analyzer.queue := by
  unfold Part.trackTrigger; split <;> simp

/-- trackTrigger leaves every channel alone. -/
@[simp] theorem trackTrigger_channel (p : Part) (v w : ValveId) : (p.trackTrigger v).channel w = p.channel w := by
  unfold Part.trackTrigger; split <;> simp

/-- A track capture starts only at an IDLE analyzer with the valve armed (R117); else the analyzer is as it was. -/
theorem trackTrigger_analyzer (p : Part) (v : ValveId) :
    (p.trackTrigger v).analyzer = p.analyzer ∨
      (p.analyzer.state = .idle ∧ p.analyzer.trace = .armed v ∧ (p.trackTrigger v).analyzer.state = .capturing v ∧
        (p.trackTrigger v).analyzer.trace = .capturing) := by
  unfold Part.trackTrigger; split
  · rename_i h; right; simp [h.1, h.2.1]
  · left; rfl

/-- The units replaceTarget leaves alone. -/
@[simp] theorem replaceTarget_units (p : Part) (v : ValveId) (b : Nat) :
    (p.replaceTarget v b).bridge = p.bridge ∧ (p.replaceTarget v b).port = p.port ∧
      (p.replaceTarget v b).demand = p.demand ∧ (p.replaceTarget v b).urgent = p.urgent ∧
      (p.replaceTarget v b).timer = p.timer ∧ (p.replaceTarget v b).corners = p.corners ∧
      (p.replaceTarget v b).pairing = p.pairing ∧ (p.replaceTarget v b).maps = p.maps ∧
      (p.replaceTarget v b).setup = p.setup ∧ (p.replaceTarget v b).engine = p.engine ∧
      (p.replaceTarget v b).waitCount = p.waitCount ∧ (p.replaceTarget v b).journal = p.journal ∧
      (p.replaceTarget v b).lines = p.lines ∧ (p.replaceTarget v b).fresh = p.fresh ∧
      (∀ i, (p.replaceTarget v b).demandSlot i = p.demandSlot i) ∧
      (∀ j, (p.replaceTarget v b).urgentSlot j = p.urgentSlot j) ∧
      (∀ j, (p.replaceTarget v b).corner j = p.corner j) ∧ (∀ w, (p.replaceTarget v b).map w = p.map w) ∧
      (∀ w, (p.replaceTarget v b).driverFault w = p.driverFault w) := by
  unfold Part.replaceTarget; (try dsimp only); (repeat' split) <;> simp

/-- What replaceTarget keeps of every channel, and of the analyzer. -/
@[simp] theorem replaceTarget_loop (p : Part) (v : ValveId) (b : Nat) :
    (∀ w, ((p.replaceTarget v b).channel w).state = (p.channel w).state) ∧
      (∀ w, ((p.replaceTarget v b).channel w).tunedGain = (p.channel w).tunedGain) ∧
      (∀ w, ((p.replaceTarget v b).channel w).measured = (p.channel w).measured) ∧
      (∀ w, ((p.replaceTarget v b).channel w).misses = (p.channel w).misses) ∧
      (∀ w, ((p.replaceTarget v b).channel w).settleTimeout = (p.channel w).settleTimeout) ∧
      (∀ w, ((p.replaceTarget v b).channel w).searchReach = (p.channel w).searchReach) ∧
      (∀ w, ((p.replaceTarget v b).channel w).heat = (p.channel w).heat) ∧
      (p.replaceTarget v b).analyzer.queue = p.analyzer.queue := by
  unfold Part.replaceTarget; (try dsimp only)
  refine ⟨?_, ?_, ?_, ?_, ?_, ?_, ?_, ?_⟩ <;> (try intro w) <;> (repeat' split) <;> (try by_cases hw : w = v) <;>
    simp_all

/-- replaceTarget leaves the other channels alone. -/
@[simp] theorem replaceTarget_others (p : Part) (v : ValveId) (b : Nat) {w : ValveId} (h : w ≠ v) :
    (p.replaceTarget v b).channel w = p.channel w := by
  unfold Part.replaceTarget; (try dsimp only); (repeat' split) <;> simp [h]

/-- The units recompute leaves alone. -/
@[simp] theorem recompute_units (p : Part) (v : ValveId) :
    (p.recompute v).bridge = p.bridge ∧ (p.recompute v).port = p.port ∧ (p.recompute v).demand = p.demand ∧
      (p.recompute v).urgent = p.urgent ∧ (p.recompute v).timer = p.timer ∧ (p.recompute v).corners = p.corners ∧
      (p.recompute v).pairing = p.pairing ∧ (p.recompute v).maps = p.maps ∧ (p.recompute v).setup = p.setup ∧
      (p.recompute v).engine = p.engine ∧ (p.recompute v).waitCount = p.waitCount ∧
      (p.recompute v).journal = p.journal ∧ (p.recompute v).lines = p.lines ∧ (p.recompute v).fresh = p.fresh ∧
      (∀ i, (p.recompute v).demandSlot i = p.demandSlot i) ∧ (∀ j, (p.recompute v).urgentSlot j = p.urgentSlot j) ∧
      (∀ j, (p.recompute v).corner j = p.corner j) ∧ (∀ w, (p.recompute v).map w = p.map w) ∧
      (∀ w, (p.recompute v).driverFault w = p.driverFault w) := by
  unfold Part.recompute; (try dsimp only); (repeat' split) <;> simp

/-- What recompute keeps of every channel, and of the analyzer. -/
@[simp] theorem recompute_loop (p : Part) (v : ValveId) :
    (∀ w, ((p.recompute v).channel w).state = (p.channel w).state) ∧
      (∀ w, ((p.recompute v).channel w).tunedGain = (p.channel w).tunedGain) ∧
      (∀ w, ((p.recompute v).channel w).measured = (p.channel w).measured) ∧
      (∀ w, ((p.recompute v).channel w).misses = (p.channel w).misses) ∧
      (∀ w, ((p.recompute v).channel w).settleTimeout = (p.channel w).settleTimeout) ∧
      (∀ w, ((p.recompute v).channel w).searchReach = (p.channel w).searchReach) ∧
      (∀ w, ((p.recompute v).channel w).heat = (p.channel w).heat) ∧ (p.recompute v).analyzer.queue = p.analyzer.queue := by
  unfold Part.recompute; (try dsimp only)
  refine ⟨?_, ?_, ?_, ?_, ?_, ?_, ?_, ?_⟩ <;> (try intro w) <;> (repeat' split) <;> (try by_cases hw : w = v) <;>
    simp_all

/-- recompute leaves the other channels alone. -/
@[simp] theorem recompute_others (p : Part) (v : ValveId) {w : ValveId} (h : w ≠ v) :
    (p.recompute v).channel w = p.channel w := by
  unfold Part.recompute; (try dsimp only); (repeat' split) <;> simp [h]

/-- The units receiveRamp leaves alone. -/
@[simp] theorem receiveRamp_units (p : Part) (v : ValveId) (r : RampRequest) :
    (p.receiveRamp v r).bridge = p.bridge ∧ (p.receiveRamp v r).port = p.port ∧
      (p.receiveRamp v r).demand = p.demand ∧ (p.receiveRamp v r).urgent = p.urgent ∧
      (p.receiveRamp v r).timer = p.timer ∧ (p.receiveRamp v r).corners = p.corners ∧
      (p.receiveRamp v r).pairing = p.pairing ∧ (p.receiveRamp v r).maps = p.maps ∧
      (p.receiveRamp v r).setup = p.setup ∧ (p.receiveRamp v r).engine = p.engine ∧
      (p.receiveRamp v r).waitCount = p.waitCount ∧ (p.receiveRamp v r).journal = p.journal ∧
      (p.receiveRamp v r).lines = p.lines ∧ (p.receiveRamp v r).fresh = p.fresh ∧
      (∀ i, (p.receiveRamp v r).demandSlot i = p.demandSlot i) ∧
      (∀ j, (p.receiveRamp v r).urgentSlot j = p.urgentSlot j) ∧ (∀ j, (p.receiveRamp v r).corner j = p.corner j) ∧
      (∀ w, (p.receiveRamp v r).map w = p.map w) ∧ (∀ w, (p.receiveRamp v r).driverFault w = p.driverFault w) := by
  unfold Part.receiveRamp; (try dsimp only); (repeat' split) <;> simp

/-- What receiveRamp keeps of every channel, and of the analyzer. -/
@[simp] theorem receiveRamp_loop (p : Part) (v : ValveId) (r : RampRequest) :
    (∀ w, ((p.receiveRamp v r).channel w).state = (p.channel w).state) ∧
      (∀ w, ((p.receiveRamp v r).channel w).tunedGain = (p.channel w).tunedGain) ∧
      (∀ w, ((p.receiveRamp v r).channel w).measured = (p.channel w).measured) ∧
      (∀ w, ((p.receiveRamp v r).channel w).misses = (p.channel w).misses) ∧
      (∀ w, ((p.receiveRamp v r).channel w).settleTimeout = (p.channel w).settleTimeout) ∧
      (∀ w, ((p.receiveRamp v r).channel w).searchReach = (p.channel w).searchReach) ∧
      (∀ w, ((p.receiveRamp v r).channel w).heat = (p.channel w).heat) ∧
      (p.receiveRamp v r).analyzer.queue = p.analyzer.queue := by
  unfold Part.receiveRamp; (try dsimp only)
  refine ⟨?_, ?_, ?_, ?_, ?_, ?_, ?_, ?_⟩ <;> (try intro w) <;> (repeat' split) <;> (try by_cases hw : w = v) <;>
    simp_all

/-- receiveRamp leaves the other channels alone. -/
@[simp] theorem receiveRamp_others (p : Part) (v : ValveId) (r : RampRequest) {w : ValveId} (h : w ≠ v) :
    (p.receiveRamp v r).channel w = p.channel w := by
  unfold Part.receiveRamp; (try dsimp only); (repeat' split) <;> simp [h]

/-- The units sendRamp leaves alone. -/
@[simp] theorem sendRamp_units (p : Part) (v : ValveId) (r : RampRequest) :
    (p.sendRamp v r).bridge = p.bridge ∧ (p.sendRamp v r).port = p.port ∧ (p.sendRamp v r).demand = p.demand ∧
      (p.sendRamp v r).urgent = p.urgent ∧ (p.sendRamp v r).timer = p.timer ∧ (p.sendRamp v r).corners = p.corners ∧
      (p.sendRamp v r).pairing = p.pairing ∧ (p.sendRamp v r).maps = p.maps ∧ (p.sendRamp v r).setup = p.setup ∧
      (p.sendRamp v r).engine = p.engine ∧ (p.sendRamp v r).waitCount = p.waitCount ∧
      (p.sendRamp v r).journal = p.journal ∧ (p.sendRamp v r).lines = p.lines ∧ (p.sendRamp v r).fresh = p.fresh ∧
      (∀ i, (p.sendRamp v r).demandSlot i = p.demandSlot i) ∧ (∀ j, (p.sendRamp v r).urgentSlot j = p.urgentSlot j) ∧
      (∀ j, (p.sendRamp v r).corner j = p.corner j) ∧ (∀ w, (p.sendRamp v r).map w = p.map w) ∧
      (∀ w, (p.sendRamp v r).driverFault w = p.driverFault w) := by
  unfold Part.sendRamp; (try dsimp only); (repeat' split) <;> simp

/-- What sendRamp keeps of every channel, and of the analyzer. -/
@[simp] theorem sendRamp_loop (p : Part) (v : ValveId) (r : RampRequest) :
    (∀ w, ((p.sendRamp v r).channel w).state = (p.channel w).state) ∧
      (∀ w, ((p.sendRamp v r).channel w).tunedGain = (p.channel w).tunedGain) ∧
      (∀ w, ((p.sendRamp v r).channel w).measured = (p.channel w).measured) ∧
      (∀ w, ((p.sendRamp v r).channel w).misses = (p.channel w).misses) ∧
      (∀ w, ((p.sendRamp v r).channel w).settleTimeout = (p.channel w).settleTimeout) ∧
      (∀ w, ((p.sendRamp v r).channel w).searchReach = (p.channel w).searchReach) ∧
      (∀ w, ((p.sendRamp v r).channel w).heat = (p.channel w).heat) ∧
      (p.sendRamp v r).analyzer.queue = p.analyzer.queue := by
  unfold Part.sendRamp; (try dsimp only)
  refine ⟨?_, ?_, ?_, ?_, ?_, ?_, ?_, ?_⟩ <;> (try intro w) <;> (repeat' split) <;> (try by_cases hw : w = v) <;>
    simp_all

/-- sendRamp leaves the other channels alone. -/
@[simp] theorem sendRamp_others (p : Part) (v : ValveId) (r : RampRequest) {w : ValveId} (h : w ≠ v) :
    (p.sendRamp v r).channel w = p.channel w := by
  unfold Part.sendRamp; (try dsimp only); (repeat' split) <;> simp [h]

/-- The units overrideStart leaves alone. -/
@[simp] theorem overrideStart_units (p : Part) (v : ValveId) (u : Nat) :
    (p.overrideStart v u).bridge = p.bridge ∧ (p.overrideStart v u).port = p.port ∧
      (p.overrideStart v u).demand = p.demand ∧ (p.overrideStart v u).urgent = p.urgent ∧
      (p.overrideStart v u).timer = p.timer ∧ (p.overrideStart v u).corners = p.corners ∧
      (p.overrideStart v u).pairing = p.pairing ∧ (p.overrideStart v u).maps = p.maps ∧
      (p.overrideStart v u).setup = p.setup ∧ (p.overrideStart v u).engine = p.engine ∧
      (p.overrideStart v u).waitCount = p.waitCount ∧ (p.overrideStart v u).journal = p.journal ∧
      (p.overrideStart v u).lines = p.lines ∧ (p.overrideStart v u).fresh = p.fresh ∧
      (∀ i, (p.overrideStart v u).demandSlot i = p.demandSlot i) ∧
      (∀ j, (p.overrideStart v u).urgentSlot j = p.urgentSlot j) ∧
      (∀ j, (p.overrideStart v u).corner j = p.corner j) ∧ (∀ w, (p.overrideStart v u).map w = p.map w) ∧
      (∀ w, (p.overrideStart v u).driverFault w = p.driverFault w) := by
  unfold Part.overrideStart; (try dsimp only); (repeat' split) <;> simp

/-- What overrideStart keeps of every channel, and of the analyzer. -/
@[simp] theorem overrideStart_loop (p : Part) (v : ValveId) (u : Nat) :
    (∀ w, ((p.overrideStart v u).channel w).state = (p.channel w).state) ∧
      (∀ w, ((p.overrideStart v u).channel w).tunedGain = (p.channel w).tunedGain) ∧
      (∀ w, ((p.overrideStart v u).channel w).measured = (p.channel w).measured) ∧
      (∀ w, ((p.overrideStart v u).channel w).misses = (p.channel w).misses) ∧
      (∀ w, ((p.overrideStart v u).channel w).settleTimeout = (p.channel w).settleTimeout) ∧
      (∀ w, ((p.overrideStart v u).channel w).searchReach = (p.channel w).searchReach) ∧
      (∀ w, ((p.overrideStart v u).channel w).heat = (p.channel w).heat) ∧
      (p.overrideStart v u).analyzer.queue = p.analyzer.queue := by
  unfold Part.overrideStart; (try dsimp only)
  refine ⟨?_, ?_, ?_, ?_, ?_, ?_, ?_, ?_⟩ <;> (try intro w) <;> (repeat' split) <;> (try by_cases hw : w = v) <;>
    simp_all

/-- overrideStart leaves the other channels alone. -/
@[simp] theorem overrideStart_others (p : Part) (v : ValveId) (u : Nat) {w : ValveId} (h : w ≠ v) :
    (p.overrideStart v u).channel w = p.channel w := by
  unfold Part.overrideStart; (try dsimp only); (repeat' split) <;> simp [h]

/-- The units overrideDrop leaves alone. -/
@[simp] theorem overrideDrop_units (p : Part) (v : ValveId) :
    (p.overrideDrop v).bridge = p.bridge ∧ (p.overrideDrop v).port = p.port ∧ (p.overrideDrop v).demand = p.demand ∧
      (p.overrideDrop v).urgent = p.urgent ∧ (p.overrideDrop v).timer = p.timer ∧
      (p.overrideDrop v).corners = p.corners ∧ (p.overrideDrop v).pairing = p.pairing ∧
      (p.overrideDrop v).maps = p.maps ∧ (p.overrideDrop v).setup = p.setup ∧ (p.overrideDrop v).engine = p.engine ∧
      (p.overrideDrop v).waitCount = p.waitCount ∧ (p.overrideDrop v).journal = p.journal ∧
      (p.overrideDrop v).lines = p.lines ∧ (p.overrideDrop v).fresh = p.fresh ∧
      (∀ i, (p.overrideDrop v).demandSlot i = p.demandSlot i) ∧
      (∀ j, (p.overrideDrop v).urgentSlot j = p.urgentSlot j) ∧ (∀ j, (p.overrideDrop v).corner j = p.corner j) ∧
      (∀ w, (p.overrideDrop v).map w = p.map w) ∧ (∀ w, (p.overrideDrop v).driverFault w = p.driverFault w) := by
  unfold Part.overrideDrop; (try dsimp only); (repeat' split) <;> simp

/-- What overrideDrop keeps of every channel, and of the analyzer. -/
@[simp] theorem overrideDrop_loop (p : Part) (v : ValveId) :
    (∀ w, ((p.overrideDrop v).channel w).state = (p.channel w).state) ∧
      (∀ w, ((p.overrideDrop v).channel w).tunedGain = (p.channel w).tunedGain) ∧
      (∀ w, ((p.overrideDrop v).channel w).measured = (p.channel w).measured) ∧
      (∀ w, ((p.overrideDrop v).channel w).misses = (p.channel w).misses) ∧
      (∀ w, ((p.overrideDrop v).channel w).settleTimeout = (p.channel w).settleTimeout) ∧
      (∀ w, ((p.overrideDrop v).channel w).searchReach = (p.channel w).searchReach) ∧
      (∀ w, ((p.overrideDrop v).channel w).heat = (p.channel w).heat) ∧
      (p.overrideDrop v).analyzer.queue = p.analyzer.queue := by
  unfold Part.overrideDrop; (try dsimp only)
  refine ⟨?_, ?_, ?_, ?_, ?_, ?_, ?_, ?_⟩ <;> (try intro w) <;> (repeat' split) <;> (try by_cases hw : w = v) <;>
    simp_all

/-- overrideDrop leaves the other channels alone. -/
@[simp] theorem overrideDrop_others (p : Part) (v : ValveId) {w : ValveId} (h : w ≠ v) :
    (p.overrideDrop v).channel w = p.channel w := by
  unfold Part.overrideDrop; (try dsimp only); (repeat' split) <;> simp [h]

/-- The units sendOverrideEnd leaves alone. -/
@[simp] theorem sendOverrideEnd_units (p : Part) (v : ValveId) (e : OverrideEnd) :
    (p.sendOverrideEnd v e).bridge = p.bridge ∧ (p.sendOverrideEnd v e).port = p.port ∧
      (p.sendOverrideEnd v e).demand = p.demand ∧ (p.sendOverrideEnd v e).urgent = p.urgent ∧
      (p.sendOverrideEnd v e).timer = p.timer ∧ (p.sendOverrideEnd v e).corners = p.corners ∧
      (p.sendOverrideEnd v e).pairing = p.pairing ∧ (p.sendOverrideEnd v e).maps = p.maps ∧
      (p.sendOverrideEnd v e).setup = p.setup ∧ (p.sendOverrideEnd v e).engine = p.engine ∧
      (p.sendOverrideEnd v e).waitCount = p.waitCount ∧ (p.sendOverrideEnd v e).journal = p.journal ∧
      (p.sendOverrideEnd v e).lines = p.lines ∧ (p.sendOverrideEnd v e).fresh = p.fresh ∧
      (∀ i, (p.sendOverrideEnd v e).demandSlot i = p.demandSlot i) ∧
      (∀ j, (p.sendOverrideEnd v e).urgentSlot j = p.urgentSlot j) ∧
      (∀ j, (p.sendOverrideEnd v e).corner j = p.corner j) ∧ (∀ w, (p.sendOverrideEnd v e).map w = p.map w) ∧
      (∀ w, (p.sendOverrideEnd v e).driverFault w = p.driverFault w) := by
  unfold Part.sendOverrideEnd; (try dsimp only); (repeat' split) <;> simp

/-- What sendOverrideEnd keeps of every channel, and of the analyzer. -/
@[simp] theorem sendOverrideEnd_loop (p : Part) (v : ValveId) (e : OverrideEnd) :
    (∀ w, ((p.sendOverrideEnd v e).channel w).state = (p.channel w).state) ∧
      (∀ w, ((p.sendOverrideEnd v e).channel w).tunedGain = (p.channel w).tunedGain) ∧
      (∀ w, ((p.sendOverrideEnd v e).channel w).measured = (p.channel w).measured) ∧
      (∀ w, ((p.sendOverrideEnd v e).channel w).misses = (p.channel w).misses) ∧
      (∀ w, ((p.sendOverrideEnd v e).channel w).settleTimeout = (p.channel w).settleTimeout) ∧
      (∀ w, ((p.sendOverrideEnd v e).channel w).searchReach = (p.channel w).searchReach) ∧
      (∀ w, ((p.sendOverrideEnd v e).channel w).heat = (p.channel w).heat) ∧
      (p.sendOverrideEnd v e).analyzer.queue = p.analyzer.queue := by
  unfold Part.sendOverrideEnd; (try dsimp only)
  refine ⟨?_, ?_, ?_, ?_, ?_, ?_, ?_, ?_⟩ <;> (try intro w) <;> (repeat' split) <;> (try by_cases hw : w = v) <;>
    simp_all

/-- sendOverrideEnd leaves the other channels alone. -/
@[simp] theorem sendOverrideEnd_others (p : Part) (v : ValveId) (e : OverrideEnd) {w : ValveId} (h : w ≠ v) :
    (p.sendOverrideEnd v e).channel w = p.channel w := by
  unfold Part.sendOverrideEnd; (try dsimp only); (repeat' split) <;> simp [h]

/-- The units receiveOverrideEnd leaves alone. -/
@[simp] theorem receiveOverrideEnd_units (p : Part) (v : ValveId) (e : OverrideEnd) :
    (p.receiveOverrideEnd v e).bridge = p.bridge ∧ (p.receiveOverrideEnd v e).port = p.port ∧
      (p.receiveOverrideEnd v e).demand = p.demand ∧ (p.receiveOverrideEnd v e).urgent = p.urgent ∧
      (p.receiveOverrideEnd v e).timer = p.timer ∧ (p.receiveOverrideEnd v e).corners = p.corners ∧
      (p.receiveOverrideEnd v e).pairing = p.pairing ∧ (p.receiveOverrideEnd v e).maps = p.maps ∧
      (p.receiveOverrideEnd v e).setup = p.setup ∧ (p.receiveOverrideEnd v e).engine = p.engine ∧
      (p.receiveOverrideEnd v e).waitCount = p.waitCount ∧ (p.receiveOverrideEnd v e).journal = p.journal ∧
      (p.receiveOverrideEnd v e).lines = p.lines ∧ (p.receiveOverrideEnd v e).fresh = p.fresh ∧
      (∀ i, (p.receiveOverrideEnd v e).demandSlot i = p.demandSlot i) ∧
      (∀ j, (p.receiveOverrideEnd v e).urgentSlot j = p.urgentSlot j) ∧
      (∀ j, (p.receiveOverrideEnd v e).corner j = p.corner j) ∧ (∀ w, (p.receiveOverrideEnd v e).map w = p.map w) ∧
      (∀ w, (p.receiveOverrideEnd v e).driverFault w = p.driverFault w) := by
  unfold Part.receiveOverrideEnd; (try dsimp only); (repeat' split) <;> simp

/-- What receiveOverrideEnd keeps of every channel, and of the analyzer. -/
@[simp] theorem receiveOverrideEnd_loop (p : Part) (v : ValveId) (e : OverrideEnd) :
    (∀ w, ((p.receiveOverrideEnd v e).channel w).state = (p.channel w).state) ∧
      (∀ w, ((p.receiveOverrideEnd v e).channel w).tunedGain = (p.channel w).tunedGain) ∧
      (∀ w, ((p.receiveOverrideEnd v e).channel w).measured = (p.channel w).measured) ∧
      (∀ w, ((p.receiveOverrideEnd v e).channel w).misses = (p.channel w).misses) ∧
      (∀ w, ((p.receiveOverrideEnd v e).channel w).settleTimeout = (p.channel w).settleTimeout) ∧
      (∀ w, ((p.receiveOverrideEnd v e).channel w).searchReach = (p.channel w).searchReach) ∧
      (∀ w, ((p.receiveOverrideEnd v e).channel w).heat = (p.channel w).heat) ∧
      (p.receiveOverrideEnd v e).analyzer.queue = p.analyzer.queue := by
  unfold Part.receiveOverrideEnd; (try dsimp only)
  refine ⟨?_, ?_, ?_, ?_, ?_, ?_, ?_, ?_⟩ <;> (try intro w) <;> (repeat' split) <;> (try by_cases hw : w = v) <;>
    simp_all

/-- receiveOverrideEnd leaves the other channels alone. -/
@[simp] theorem receiveOverrideEnd_others (p : Part) (v : ValveId) (e : OverrideEnd) {w : ValveId} (h : w ≠ v) :
    (p.receiveOverrideEnd v e).channel w = p.channel w := by
  unfold Part.receiveOverrideEnd; (try dsimp only); (repeat' split) <;> simp [h]

/-- A run of receiveRamp leaves the same alone. -/
@[simp] theorem receiveRamps_units (p : Part) (v : ValveId) (l : List RampRequest) :
    (l.foldl (fun q e => q.receiveRamp v e) p).bridge = p.bridge ∧
      (l.foldl (fun q e => q.receiveRamp v e) p).port = p.port ∧
      (l.foldl (fun q e => q.receiveRamp v e) p).demand = p.demand ∧
      (l.foldl (fun q e => q.receiveRamp v e) p).urgent = p.urgent ∧
      (l.foldl (fun q e => q.receiveRamp v e) p).timer = p.timer ∧
      (l.foldl (fun q e => q.receiveRamp v e) p).corners = p.corners ∧
      (l.foldl (fun q e => q.receiveRamp v e) p).pairing = p.pairing ∧
      (l.foldl (fun q e => q.receiveRamp v e) p).maps = p.maps ∧
      (l.foldl (fun q e => q.receiveRamp v e) p).setup = p.setup ∧
      (l.foldl (fun q e => q.receiveRamp v e) p).engine = p.engine ∧
      (l.foldl (fun q e => q.receiveRamp v e) p).waitCount = p.waitCount ∧
      (l.foldl (fun q e => q.receiveRamp v e) p).journal = p.journal ∧
      (l.foldl (fun q e => q.receiveRamp v e) p).lines = p.lines ∧
      (l.foldl (fun q e => q.receiveRamp v e) p).fresh = p.fresh ∧
      (∀ i, (l.foldl (fun q e => q.receiveRamp v e) p).demandSlot i = p.demandSlot i) ∧
      (∀ j, (l.foldl (fun q e => q.receiveRamp v e) p).urgentSlot j = p.urgentSlot j) ∧
      (∀ j, (l.foldl (fun q e => q.receiveRamp v e) p).corner j = p.corner j) ∧
      (∀ w, (l.foldl (fun q e => q.receiveRamp v e) p).map w = p.map w) ∧
      (∀ w, (l.foldl (fun q e => q.receiveRamp v e) p).driverFault w = p.driverFault w) := by
  induction l generalizing p with
  | nil => simp
  | cons e l ih => simpa using ih (p.receiveRamp v e)

@[simp] theorem receiveRamps_loop (p : Part) (v : ValveId) (l : List RampRequest) :
    (∀ w, ((l.foldl (fun q e => q.receiveRamp v e) p).channel w).state = (p.channel w).state) ∧
      (∀ w, ((l.foldl (fun q e => q.receiveRamp v e) p).channel w).tunedGain = (p.channel w).tunedGain) ∧
      (∀ w, ((l.foldl (fun q e => q.receiveRamp v e) p).channel w).measured = (p.channel w).measured) ∧
      (∀ w, ((l.foldl (fun q e => q.receiveRamp v e) p).channel w).misses = (p.channel w).misses) ∧
      (∀ w, ((l.foldl (fun q e => q.receiveRamp v e) p).channel w).settleTimeout = (p.channel w).settleTimeout) ∧
      (∀ w, ((l.foldl (fun q e => q.receiveRamp v e) p).channel w).searchReach = (p.channel w).searchReach) ∧
      (∀ w, ((l.foldl (fun q e => q.receiveRamp v e) p).channel w).heat = (p.channel w).heat) ∧
      (l.foldl (fun q e => q.receiveRamp v e) p).analyzer.queue = p.analyzer.queue := by
  induction l generalizing p with
  | nil => simp
  | cons e l ih => simpa using ih (p.receiveRamp v e)

@[simp] theorem receiveRamps_others (p : Part) (v : ValveId) (l : List RampRequest) {w : ValveId} (h : w ≠ v) :
    (l.foldl (fun q e => q.receiveRamp v e) p).channel w = p.channel w := by
  induction l generalizing p with
  | nil => simp
  | cons e l ih => simpa [h] using ih (p.receiveRamp v e)

/-- A run of receiveOverrideEnd leaves the same alone. -/
@[simp] theorem receiveOverrideEnds_units (p : Part) (v : ValveId) (l : List OverrideEnd) :
    (l.foldl (fun q e => q.receiveOverrideEnd v e) p).bridge = p.bridge ∧
      (l.foldl (fun q e => q.receiveOverrideEnd v e) p).port = p.port ∧
      (l.foldl (fun q e => q.receiveOverrideEnd v e) p).demand = p.demand ∧
      (l.foldl (fun q e => q.receiveOverrideEnd v e) p).urgent = p.urgent ∧
      (l.foldl (fun q e => q.receiveOverrideEnd v e) p).timer = p.timer ∧
      (l.foldl (fun q e => q.receiveOverrideEnd v e) p).corners = p.corners ∧
      (l.foldl (fun q e => q.receiveOverrideEnd v e) p).pairing = p.pairing ∧
      (l.foldl (fun q e => q.receiveOverrideEnd v e) p).maps = p.maps ∧
      (l.foldl (fun q e => q.receiveOverrideEnd v e) p).setup = p.setup ∧
      (l.foldl (fun q e => q.receiveOverrideEnd v e) p).engine = p.engine ∧
      (l.foldl (fun q e => q.receiveOverrideEnd v e) p).waitCount = p.waitCount ∧
      (l.foldl (fun q e => q.receiveOverrideEnd v e) p).journal = p.journal ∧
      (l.foldl (fun q e => q.receiveOverrideEnd v e) p).lines = p.lines ∧
      (l.foldl (fun q e => q.receiveOverrideEnd v e) p).fresh = p.fresh ∧
      (∀ i, (l.foldl (fun q e => q.receiveOverrideEnd v e) p).demandSlot i = p.demandSlot i) ∧
      (∀ j, (l.foldl (fun q e => q.receiveOverrideEnd v e) p).urgentSlot j = p.urgentSlot j) ∧
      (∀ j, (l.foldl (fun q e => q.receiveOverrideEnd v e) p).corner j = p.corner j) ∧
      (∀ w, (l.foldl (fun q e => q.receiveOverrideEnd v e) p).map w = p.map w) ∧
      (∀ w, (l.foldl (fun q e => q.receiveOverrideEnd v e) p).driverFault w = p.driverFault w) := by
  induction l generalizing p with
  | nil => simp
  | cons e l ih => simpa using ih (p.receiveOverrideEnd v e)

@[simp] theorem receiveOverrideEnds_loop (p : Part) (v : ValveId) (l : List OverrideEnd) :
    (∀ w, ((l.foldl (fun q e => q.receiveOverrideEnd v e) p).channel w).state = (p.channel w).state) ∧
      (∀ w, ((l.foldl (fun q e => q.receiveOverrideEnd v e) p).channel w).tunedGain = (p.channel w).tunedGain) ∧
      (∀ w, ((l.foldl (fun q e => q.receiveOverrideEnd v e) p).channel w).measured = (p.channel w).measured) ∧
      (∀ w, ((l.foldl (fun q e => q.receiveOverrideEnd v e) p).channel w).misses = (p.channel w).misses) ∧
      (∀ w, ((l.foldl (fun q e => q.receiveOverrideEnd v e) p).channel w).settleTimeout = (p.channel w).settleTimeout) ∧
      (∀ w, ((l.foldl (fun q e => q.receiveOverrideEnd v e) p).channel w).searchReach = (p.channel w).searchReach) ∧
      (∀ w, ((l.foldl (fun q e => q.receiveOverrideEnd v e) p).channel w).heat = (p.channel w).heat) ∧
      (l.foldl (fun q e => q.receiveOverrideEnd v e) p).analyzer.queue = p.analyzer.queue := by
  induction l generalizing p with
  | nil => simp
  | cons e l ih => simpa using ih (p.receiveOverrideEnd v e)

@[simp] theorem receiveOverrideEnds_others (p : Part) (v : ValveId) (l : List OverrideEnd) {w : ValveId} (h : w ≠ v) :
    (l.foldl (fun q e => q.receiveOverrideEnd v e) p).channel w = p.channel w := by
  induction l generalizing p with
  | nil => simp
  | cons e l ih => simpa [h] using ih (p.receiveOverrideEnd v e)

/-- The units arrivals leaves alone. -/
@[simp] theorem arrivals_units (p : Part) (v : ValveId) :
    (p.arrivals v).bridge = p.bridge ∧ (p.arrivals v).port = p.port ∧ (p.arrivals v).demand = p.demand ∧
      (p.arrivals v).urgent = p.urgent ∧ (p.arrivals v).timer = p.timer ∧ (p.arrivals v).corners = p.corners ∧
      (p.arrivals v).pairing = p.pairing ∧ (p.arrivals v).maps = p.maps ∧ (p.arrivals v).setup = p.setup ∧
      (p.arrivals v).engine = p.engine ∧ (p.arrivals v).waitCount = p.waitCount ∧ (p.arrivals v).journal = p.journal ∧
      (p.arrivals v).lines = p.lines ∧ (p.arrivals v).fresh = p.fresh ∧
      (∀ i, (p.arrivals v).demandSlot i = p.demandSlot i) ∧ (∀ j, (p.arrivals v).urgentSlot j = p.urgentSlot j) ∧
      (∀ j, (p.arrivals v).corner j = p.corner j) ∧ (∀ w, (p.arrivals v).map w = p.map w) ∧
      (∀ w, (p.arrivals v).driverFault w = p.driverFault w) := by
  unfold Part.arrivals; (try dsimp only); (repeat' split) <;> simp

/-- What arrivals keeps of every channel, and of the analyzer. -/
@[simp] theorem arrivals_loop (p : Part) (v : ValveId) :
    (∀ w, ((p.arrivals v).channel w).state = (p.channel w).state) ∧
      (∀ w, ((p.arrivals v).channel w).tunedGain = (p.channel w).tunedGain) ∧
      (∀ w, ((p.arrivals v).channel w).measured = (p.channel w).measured) ∧
      (∀ w, ((p.arrivals v).channel w).misses = (p.channel w).misses) ∧
      (∀ w, ((p.arrivals v).channel w).settleTimeout = (p.channel w).settleTimeout) ∧
      (∀ w, ((p.arrivals v).channel w).searchReach = (p.channel w).searchReach) ∧
      (∀ w, ((p.arrivals v).channel w).heat = (p.channel w).heat) ∧ (p.arrivals v).analyzer.queue = p.analyzer.queue := by
  unfold Part.arrivals; (try dsimp only)
  refine ⟨?_, ?_, ?_, ?_, ?_, ?_, ?_, ?_⟩ <;> (try intro w) <;> (repeat' split) <;> (try by_cases hw : w = v) <;>
    simp_all

/-- arrivals leaves the other channels alone. -/
@[simp] theorem arrivals_others (p : Part) (v : ValveId) {w : ValveId} (h : w ≠ v) :
    (p.arrivals v).channel w = p.channel w := by
  unfold Part.arrivals; (try dsimp only); (repeat' split) <;> simp [h]

/-- The units channelBoundary leaves alone. -/
@[simp] theorem channelBoundary_units (p : Part) (v : ValveId) :
    (p.channelBoundary v).bridge = p.bridge ∧ (p.channelBoundary v).port = p.port ∧
      (p.channelBoundary v).demand = p.demand ∧ (p.channelBoundary v).urgent = p.urgent ∧
      (p.channelBoundary v).timer = p.timer ∧ (p.channelBoundary v).corners = p.corners ∧
      (p.channelBoundary v).pairing = p.pairing ∧ (p.channelBoundary v).maps = p.maps ∧
      (p.channelBoundary v).setup = p.setup ∧ (p.channelBoundary v).engine = p.engine ∧
      (p.channelBoundary v).waitCount = p.waitCount ∧ (p.channelBoundary v).journal = p.journal ∧
      (p.channelBoundary v).lines = p.lines ∧ (p.channelBoundary v).fresh = p.fresh ∧
      (∀ i, (p.channelBoundary v).demandSlot i = p.demandSlot i) ∧
      (∀ j, (p.channelBoundary v).urgentSlot j = p.urgentSlot j) ∧
      (∀ j, (p.channelBoundary v).corner j = p.corner j) ∧ (∀ w, (p.channelBoundary v).map w = p.map w) ∧
      (∀ w, (p.channelBoundary v).driverFault w = p.driverFault w) := by
  unfold Part.channelBoundary; (try dsimp only); (repeat' split) <;> simp

/-- What channelBoundary keeps of every channel, and of the analyzer. -/
@[simp] theorem channelBoundary_loop (p : Part) (v : ValveId) :
    (∀ w, ((p.channelBoundary v).channel w).state = (p.channel w).state) ∧
      (∀ w, ((p.channelBoundary v).channel w).tunedGain = (p.channel w).tunedGain) ∧
      (∀ w, ((p.channelBoundary v).channel w).measured = (p.channel w).measured) ∧
      (∀ w, ((p.channelBoundary v).channel w).misses = (p.channel w).misses) ∧
      (∀ w, ((p.channelBoundary v).channel w).settleTimeout = (p.channel w).settleTimeout) ∧
      (∀ w, ((p.channelBoundary v).channel w).searchReach = (p.channel w).searchReach) ∧
      (∀ w, ((p.channelBoundary v).channel w).heat = (p.channel w).heat) ∧
      (p.channelBoundary v).analyzer.queue = p.analyzer.queue := by
  unfold Part.channelBoundary; (try dsimp only)
  refine ⟨?_, ?_, ?_, ?_, ?_, ?_, ?_, ?_⟩ <;> (try intro w) <;> (repeat' split) <;> (try by_cases hw : w = v) <;>
    simp_all

/-- channelBoundary leaves the other channels alone. -/
@[simp] theorem channelBoundary_others (p : Part) (v : ValveId) {w : ValveId} (h : w ≠ v) :
    (p.channelBoundary v).channel w = p.channel w := by
  unfold Part.channelBoundary; (try dsimp only); (repeat' split) <;> simp [h]

/-- The units nextRampRequest leaves alone. -/
@[simp] theorem nextRampRequest_units (p : Part) (v : ValveId) :
    (p.nextRampRequest v).bridge = p.bridge ∧ (p.nextRampRequest v).port = p.port ∧
      (p.nextRampRequest v).demand = p.demand ∧ (p.nextRampRequest v).urgent = p.urgent ∧
      (p.nextRampRequest v).timer = p.timer ∧ (p.nextRampRequest v).corners = p.corners ∧
      (p.nextRampRequest v).pairing = p.pairing ∧ (p.nextRampRequest v).maps = p.maps ∧
      (p.nextRampRequest v).setup = p.setup ∧ (p.nextRampRequest v).engine = p.engine ∧
      (p.nextRampRequest v).waitCount = p.waitCount ∧ (p.nextRampRequest v).journal = p.journal ∧
      (p.nextRampRequest v).lines = p.lines ∧ (p.nextRampRequest v).fresh = p.fresh ∧
      (∀ i, (p.nextRampRequest v).demandSlot i = p.demandSlot i) ∧
      (∀ j, (p.nextRampRequest v).urgentSlot j = p.urgentSlot j) ∧
      (∀ j, (p.nextRampRequest v).corner j = p.corner j) ∧ (∀ w, (p.nextRampRequest v).map w = p.map w) ∧
      (∀ w, (p.nextRampRequest v).driverFault w = p.driverFault w) := by
  unfold Part.nextRampRequest; (try dsimp only); (repeat' split) <;> simp

/-- What nextRampRequest keeps of every channel, and of the analyzer. -/
@[simp] theorem nextRampRequest_loop (p : Part) (v : ValveId) :
    (∀ w, ((p.nextRampRequest v).channel w).state = (p.channel w).state) ∧
      (∀ w, ((p.nextRampRequest v).channel w).tunedGain = (p.channel w).tunedGain) ∧
      (∀ w, ((p.nextRampRequest v).channel w).measured = (p.channel w).measured) ∧
      (∀ w, ((p.nextRampRequest v).channel w).misses = (p.channel w).misses) ∧
      (∀ w, ((p.nextRampRequest v).channel w).settleTimeout = (p.channel w).settleTimeout) ∧
      (∀ w, ((p.nextRampRequest v).channel w).searchReach = (p.channel w).searchReach) ∧
      (∀ w, ((p.nextRampRequest v).channel w).heat = (p.channel w).heat) ∧
      (p.nextRampRequest v).analyzer.queue = p.analyzer.queue := by
  unfold Part.nextRampRequest; (try dsimp only)
  refine ⟨?_, ?_, ?_, ?_, ?_, ?_, ?_, ?_⟩ <;> (try intro w) <;> (repeat' split) <;> (try by_cases hw : w = v) <;>
    simp_all

/-- nextRampRequest leaves the other channels alone. -/
@[simp] theorem nextRampRequest_others (p : Part) (v : ValveId) {w : ValveId} (h : w ≠ v) :
    (p.nextRampRequest v).channel w = p.channel w := by
  unfold Part.nextRampRequest; (try dsimp only); (repeat' split) <;> simp [h]

/-- The units nextOverrideEnd leaves alone. -/
@[simp] theorem nextOverrideEnd_units (p : Part) (v : ValveId) :
    (p.nextOverrideEnd v).bridge = p.bridge ∧ (p.nextOverrideEnd v).port = p.port ∧
      (p.nextOverrideEnd v).demand = p.demand ∧ (p.nextOverrideEnd v).urgent = p.urgent ∧
      (p.nextOverrideEnd v).timer = p.timer ∧ (p.nextOverrideEnd v).corners = p.corners ∧
      (p.nextOverrideEnd v).pairing = p.pairing ∧ (p.nextOverrideEnd v).maps = p.maps ∧
      (p.nextOverrideEnd v).setup = p.setup ∧ (p.nextOverrideEnd v).engine = p.engine ∧
      (p.nextOverrideEnd v).waitCount = p.waitCount ∧ (p.nextOverrideEnd v).journal = p.journal ∧
      (p.nextOverrideEnd v).lines = p.lines ∧ (p.nextOverrideEnd v).fresh = p.fresh ∧
      (∀ i, (p.nextOverrideEnd v).demandSlot i = p.demandSlot i) ∧
      (∀ j, (p.nextOverrideEnd v).urgentSlot j = p.urgentSlot j) ∧
      (∀ j, (p.nextOverrideEnd v).corner j = p.corner j) ∧ (∀ w, (p.nextOverrideEnd v).map w = p.map w) ∧
      (∀ w, (p.nextOverrideEnd v).driverFault w = p.driverFault w) := by
  unfold Part.nextOverrideEnd; (try dsimp only); (repeat' split) <;> simp

/-- What nextOverrideEnd keeps of every channel, and of the analyzer. -/
@[simp] theorem nextOverrideEnd_loop (p : Part) (v : ValveId) :
    (∀ w, ((p.nextOverrideEnd v).channel w).state = (p.channel w).state) ∧
      (∀ w, ((p.nextOverrideEnd v).channel w).tunedGain = (p.channel w).tunedGain) ∧
      (∀ w, ((p.nextOverrideEnd v).channel w).measured = (p.channel w).measured) ∧
      (∀ w, ((p.nextOverrideEnd v).channel w).misses = (p.channel w).misses) ∧
      (∀ w, ((p.nextOverrideEnd v).channel w).settleTimeout = (p.channel w).settleTimeout) ∧
      (∀ w, ((p.nextOverrideEnd v).channel w).searchReach = (p.channel w).searchReach) ∧
      (∀ w, ((p.nextOverrideEnd v).channel w).heat = (p.channel w).heat) ∧
      (p.nextOverrideEnd v).analyzer.queue = p.analyzer.queue := by
  unfold Part.nextOverrideEnd; (try dsimp only)
  refine ⟨?_, ?_, ?_, ?_, ?_, ?_, ?_, ?_⟩ <;> (try intro w) <;> (repeat' split) <;> (try by_cases hw : w = v) <;>
    simp_all

/-- nextOverrideEnd leaves the other channels alone. -/
@[simp] theorem nextOverrideEnd_others (p : Part) (v : ValveId) {w : ValveId} (h : w ≠ v) :
    (p.nextOverrideEnd v).channel w = p.channel w := by
  unfold Part.nextOverrideEnd; (try dsimp only); (repeat' split) <;> simp [h]

/-- The units sendLimpRamp leaves alone. -/
@[simp] theorem sendLimpRamp_units (p : Part) (c : CornerId) (f : Frame) :
    (p.sendLimpRamp c f).bridge = p.bridge ∧ (p.sendLimpRamp c f).port = p.port ∧
      (p.sendLimpRamp c f).demand = p.demand ∧ (p.sendLimpRamp c f).urgent = p.urgent ∧
      (p.sendLimpRamp c f).timer = p.timer ∧ (p.sendLimpRamp c f).corners = p.corners ∧
      (p.sendLimpRamp c f).pairing = p.pairing ∧ (p.sendLimpRamp c f).maps = p.maps ∧
      (p.sendLimpRamp c f).setup = p.setup ∧ (p.sendLimpRamp c f).engine = p.engine ∧
      (p.sendLimpRamp c f).waitCount = p.waitCount ∧ (p.sendLimpRamp c f).journal = p.journal ∧
      (p.sendLimpRamp c f).lines = p.lines ∧ (p.sendLimpRamp c f).fresh = p.fresh ∧
      (∀ i, (p.sendLimpRamp c f).demandSlot i = p.demandSlot i) ∧
      (∀ j, (p.sendLimpRamp c f).urgentSlot j = p.urgentSlot j) ∧ (∀ j, (p.sendLimpRamp c f).corner j = p.corner j) ∧
      (∀ w, (p.sendLimpRamp c f).map w = p.map w) ∧ (∀ w, (p.sendLimpRamp c f).driverFault w = p.driverFault w) := by
  simp [Part.sendLimpRamp]

/-- What sendLimpRamp keeps of every channel, and of the analyzer. -/
@[simp] theorem sendLimpRamp_loop (p : Part) (c : CornerId) (f : Frame) :
    (∀ w, ((p.sendLimpRamp c f).channel w).state = (p.channel w).state) ∧
      (∀ w, ((p.sendLimpRamp c f).channel w).tunedGain = (p.channel w).tunedGain) ∧
      (∀ w, ((p.sendLimpRamp c f).channel w).measured = (p.channel w).measured) ∧
      (∀ w, ((p.sendLimpRamp c f).channel w).misses = (p.channel w).misses) ∧
      (∀ w, ((p.sendLimpRamp c f).channel w).settleTimeout = (p.channel w).settleTimeout) ∧
      (∀ w, ((p.sendLimpRamp c f).channel w).searchReach = (p.channel w).searchReach) ∧
      (∀ w, ((p.sendLimpRamp c f).channel w).heat = (p.channel w).heat) ∧
      (p.sendLimpRamp c f).analyzer.queue = p.analyzer.queue := by
  simp [Part.sendLimpRamp]

end Sys2Proof.Machine
end

