-- ==== Sys2Proof/Laws/Corners.lean ====
section
/-! SUPPORT. What the corners' and the loop's operations leave alone: the units that no event of a corner or a channel
touches, the fields of a corner, and the loop state of the channels. Each lemma says it once for one operation. -/

set_option linter.unusedTactic false
set_option linter.unnecessarySeqFocus false
set_option linter.unreachableTactic false
set_option linter.unusedSimpArgs false

namespace Sys2Proof.Machine

/-! ### Handing an event, offering work, evaluating readiness -/

/-- Handing an event changes the staging list, the lost count and the next sequence alone (R156). -/
@[simp] theorem Journal.hand_keeps (j : Journal) (e : Event) (f : Frame) :
    (j.hand e f).write = j.write ∧ (j.hand e f).read = j.read ∧ (j.hand e f).alarm = j.alarm ∧
      (j.hand e f).threshold = j.threshold ∧ (j.hand e f).attn = j.attn := by
  unfold Journal.hand; split <;> simp

/-- The units hand leaves alone. -/
@[simp] theorem hand_units (p : Part) (e : Event) (f : Frame) :
    (p.hand e f).bridge = p.bridge ∧ (p.hand e f).port = p.port ∧ (p.hand e f).demand = p.demand ∧
      (p.hand e f).urgent = p.urgent ∧ (p.hand e f).timer = p.timer ∧ (p.hand e f).corners = p.corners ∧
      (p.hand e f).pairing = p.pairing ∧ (p.hand e f).channels = p.channels ∧ (p.hand e f).maps = p.maps ∧
      (p.hand e f).analyzer = p.analyzer ∧ (p.hand e f).setup = p.setup ∧ (p.hand e f).engine = p.engine ∧
      (p.hand e f).waitCount = p.waitCount ∧ (p.hand e f).lines = p.lines ∧ (p.hand e f).fresh = p.fresh ∧
      (∀ i, (p.hand e f).demandSlot i = p.demandSlot i) ∧ (∀ w, (p.hand e f).urgentSlot w = p.urgentSlot w) ∧
      (∀ w, (p.hand e f).corner w = p.corner w) ∧ (∀ w, (p.hand e f).channel w = p.channel w) ∧
      (∀ w, (p.hand e f).map w = p.map w) ∧ (∀ w, (p.hand e f).driverFault w = p.driverFault w) := by
  simp [Part.hand]

@[simp] theorem hand_journal (p : Part) (e : Event) (f : Frame) :
    (p.hand e f).journal.write = p.journal.write ∧ (p.hand e f).journal.read = p.journal.read ∧
      (p.hand e f).journal.alarm = p.journal.alarm ∧ (p.hand e f).journal.threshold = p.journal.threshold ∧
      (p.hand e f).journal.attn = p.journal.attn := by
  simp [Part.hand]

/-- The units offerDemand leaves alone. -/
@[simp] theorem offerDemand_units (p : Part) (i : SlotId) :
    (p.offerDemand i).bridge = p.bridge ∧ (p.offerDemand i).port = p.port ∧ (p.offerDemand i).demand = p.demand ∧
      (p.offerDemand i).urgent = p.urgent ∧ (p.offerDemand i).timer = p.timer ∧
      (p.offerDemand i).corners = p.corners ∧ (p.offerDemand i).pairing = p.pairing ∧
      (p.offerDemand i).channels = p.channels ∧ (p.offerDemand i).maps = p.maps ∧
      (p.offerDemand i).analyzer = p.analyzer ∧ (p.offerDemand i).setup = p.setup ∧
      (p.offerDemand i).waitCount = p.waitCount ∧ (p.offerDemand i).journal = p.journal ∧
      (p.offerDemand i).lines = p.lines ∧ (p.offerDemand i).fresh = p.fresh ∧
      (∀ i, (p.offerDemand i).demandSlot i = p.demandSlot i) ∧
      (∀ w, (p.offerDemand i).urgentSlot w = p.urgentSlot w) ∧ (∀ w, (p.offerDemand i).corner w = p.corner w) ∧
      (∀ w, (p.offerDemand i).channel w = p.channel w) ∧ (∀ w, (p.offerDemand i).map w = p.map w) ∧
      (∀ w, (p.offerDemand i).driverFault w = p.driverFault w) := by
  simp [Part.offerDemand]

/-- The units offerUrgent leaves alone. -/
@[simp] theorem offerUrgent_units (p : Part) (c : CornerId) :
    (p.offerUrgent c).bridge = p.bridge ∧ (p.offerUrgent c).port = p.port ∧ (p.offerUrgent c).demand = p.demand ∧
      (p.offerUrgent c).urgent = p.urgent ∧ (p.offerUrgent c).timer = p.timer ∧
      (p.offerUrgent c).corners = p.corners ∧ (p.offerUrgent c).pairing = p.pairing ∧
      (p.offerUrgent c).channels = p.channels ∧ (p.offerUrgent c).maps = p.maps ∧
      (p.offerUrgent c).analyzer = p.analyzer ∧ (p.offerUrgent c).setup = p.setup ∧
      (p.offerUrgent c).waitCount = p.waitCount ∧ (p.offerUrgent c).journal = p.journal ∧
      (p.offerUrgent c).lines = p.lines ∧ (p.offerUrgent c).fresh = p.fresh ∧
      (∀ i, (p.offerUrgent c).demandSlot i = p.demandSlot i) ∧
      (∀ w, (p.offerUrgent c).urgentSlot w = p.urgentSlot w) ∧ (∀ w, (p.offerUrgent c).corner w = p.corner w) ∧
      (∀ w, (p.offerUrgent c).channel w = p.channel w) ∧ (∀ w, (p.offerUrgent c).map w = p.map w) ∧
      (∀ w, (p.offerUrgent c).driverFault w = p.driverFault w) := by
  simp [Part.offerUrgent]

/-- The units offerMap leaves alone. -/
@[simp] theorem offerMap_units (p : Part) (v : ValveId) :
    (p.offerMap v).bridge = p.bridge ∧ (p.offerMap v).port = p.port ∧ (p.offerMap v).demand = p.demand ∧
      (p.offerMap v).urgent = p.urgent ∧ (p.offerMap v).timer = p.timer ∧ (p.offerMap v).corners = p.corners ∧
      (p.offerMap v).pairing = p.pairing ∧ (p.offerMap v).channels = p.channels ∧ (p.offerMap v).maps = p.maps ∧
      (p.offerMap v).analyzer = p.analyzer ∧ (p.offerMap v).setup = p.setup ∧ (p.offerMap v).waitCount = p.waitCount ∧
      (p.offerMap v).journal = p.journal ∧ (p.offerMap v).lines = p.lines ∧ (p.offerMap v).fresh = p.fresh ∧
      (∀ i, (p.offerMap v).demandSlot i = p.demandSlot i) ∧ (∀ w, (p.offerMap v).urgentSlot w = p.urgentSlot w) ∧
      (∀ w, (p.offerMap v).corner w = p.corner w) ∧ (∀ w, (p.offerMap v).channel w = p.channel w) ∧
      (∀ w, (p.offerMap v).map w = p.map w) ∧ (∀ w, (p.offerMap v).driverFault w = p.driverFault w) := by
  simp [Part.offerMap]

/-- The units offerReply leaves alone. -/
@[simp] theorem offerReply_units (p : Part)  :
    p.offerReply.bridge = p.bridge ∧ p.offerReply.port = p.port ∧ p.offerReply.demand = p.demand ∧
      p.offerReply.urgent = p.urgent ∧ p.offerReply.timer = p.timer ∧ p.offerReply.corners = p.corners ∧
      p.offerReply.pairing = p.pairing ∧ p.offerReply.channels = p.channels ∧ p.offerReply.maps = p.maps ∧
      p.offerReply.analyzer = p.analyzer ∧ p.offerReply.setup = p.setup ∧ p.offerReply.waitCount = p.waitCount ∧
      p.offerReply.journal = p.journal ∧ p.offerReply.lines = p.lines ∧ p.offerReply.fresh = p.fresh ∧
      (∀ i, p.offerReply.demandSlot i = p.demandSlot i) ∧ (∀ w, p.offerReply.urgentSlot w = p.urgentSlot w) ∧
      (∀ w, p.offerReply.corner w = p.corner w) ∧ (∀ w, p.offerReply.channel w = p.channel w) ∧
      (∀ w, p.offerReply.map w = p.map w) ∧ (∀ w, p.offerReply.driverFault w = p.driverFault w) := by
  simp [Part.offerReply]

/-- The units offerTrace leaves alone. -/
@[simp] theorem offerTrace_units (p : Part)  :
    p.offerTrace.bridge = p.bridge ∧ p.offerTrace.port = p.port ∧ p.offerTrace.demand = p.demand ∧
      p.offerTrace.urgent = p.urgent ∧ p.offerTrace.timer = p.timer ∧ p.offerTrace.corners = p.corners ∧
      p.offerTrace.pairing = p.pairing ∧ p.offerTrace.channels = p.channels ∧ p.offerTrace.maps = p.maps ∧
      p.offerTrace.analyzer = p.analyzer ∧ p.offerTrace.setup = p.setup ∧ p.offerTrace.waitCount = p.waitCount ∧
      p.offerTrace.journal = p.journal ∧ p.offerTrace.lines = p.lines ∧ p.offerTrace.fresh = p.fresh ∧
      (∀ i, p.offerTrace.demandSlot i = p.demandSlot i) ∧ (∀ w, p.offerTrace.urgentSlot w = p.urgentSlot w) ∧
      (∀ w, p.offerTrace.corner w = p.corner w) ∧ (∀ w, p.offerTrace.channel w = p.channel w) ∧
      (∀ w, p.offerTrace.map w = p.map w) ∧ (∀ w, p.offerTrace.driverFault w = p.driverFault w) := by
  simp [Part.offerTrace]

/-- The units evalReady leaves alone. -/
@[simp] theorem evalReady_units (p : Part) (c : CornerId) :
    (p.evalReady c).bridge = p.bridge ∧ (p.evalReady c).port = p.port ∧ (p.evalReady c).demand = p.demand ∧
      (p.evalReady c).urgent = p.urgent ∧ (p.evalReady c).timer = p.timer ∧ (p.evalReady c).pairing = p.pairing ∧
      (p.evalReady c).channels = p.channels ∧ (p.evalReady c).maps = p.maps ∧ (p.evalReady c).analyzer = p.analyzer ∧
      (p.evalReady c).setup = p.setup ∧ (p.evalReady c).engine = p.engine ∧ (p.evalReady c).waitCount = p.waitCount ∧
      (p.evalReady c).journal = p.journal ∧ (p.evalReady c).fresh = p.fresh ∧
      (∀ i, (p.evalReady c).demandSlot i = p.demandSlot i) ∧ (∀ w, (p.evalReady c).urgentSlot w = p.urgentSlot w) ∧
      (∀ w, (p.evalReady c).channel w = p.channel w) ∧ (∀ w, (p.evalReady c).map w = p.map w) ∧
      (∀ w, (p.evalReady c).driverFault w = p.driverFault w) ∧ (p.evalReady c).lines.safe = p.lines.safe ∧
      (p.evalReady c).lines.dflt = p.lines.dflt ∧ (p.evalReady c).lines.mode = p.lines.mode := by
  unfold Part.evalReady; simp [Part.driverFault]

/-- The corners after evalReady. -/
@[simp] theorem evalReady_corner (p : Part) (c : CornerId) :
    (∀ w, ((p.evalReady c).corner w).state = (p.corner w).state) ∧
      (∀ w, ((p.evalReady c).corner w).limpCause = (p.corner w).limpCause) ∧
      (∀ w, ((p.evalReady c).corner w).silence = (p.corner w).silence) ∧
      (∀ w, ((p.evalReady c).corner w).lastTaken = (p.corner w).lastTaken) ∧
      (∀ w, ((p.evalReady c).corner w).list = (p.corner w).list) ∧
      (∀ w, ((p.evalReady c).corner w).hold = (p.corner w).hold) ∧
      (∀ w, ((p.evalReady c).corner w).limpFirmness = (p.corner w).limpFirmness) ∧
      (∀ w, ((p.evalReady c).corner w).limpRamp = (p.corner w).limpRamp) ∧
      (∀ w, ((p.evalReady c).corner w).silenceLimit = (p.corner w).silenceLimit) ∧
      (∀ w, ((p.evalReady c).corner w).lowMark = (p.corner w).lowMark) ∧
      (∀ w, ((p.evalReady c).corner w).highMark = (p.corner w).highMark) ∧
      (∀ w, ((p.evalReady c).corner w).dryRun = (p.corner w).dryRun) ∧
      (∀ w, ((p.evalReady c).corner w).frame = (p.corner w).frame) ∧
      (∀ w, ((p.evalReady c).corner w).notices = (p.corner w).notices) := by
  refine ⟨?_, ?_, ?_, ?_, ?_, ?_, ?_, ?_, ?_, ?_, ?_, ?_, ?_, ?_⟩ <;> intro w <;> unfold Part.evalReady <;> (try dsimp only) <;> (try split) <;>
    (try by_cases hw : w = c <;> (try subst hw) <;> simp_all [Part.nextFrame]) <;> (try simp_all)

/-! ### Retire notices, flushes, holds -/

/-- The units retire leaves alone. -/
@[simp] theorem retire_units (p : Part) (i : SlotId) (d : DemandFinal) :
    (p.retire i d).bridge = p.bridge ∧ (p.retire i d).port = p.port ∧ (p.retire i d).urgent = p.urgent ∧
      (p.retire i d).timer = p.timer ∧ (p.retire i d).corners = p.corners ∧ (p.retire i d).pairing = p.pairing ∧
      (p.retire i d).channels = p.channels ∧ (p.retire i d).maps = p.maps ∧ (p.retire i d).analyzer = p.analyzer ∧
      (p.retire i d).setup = p.setup ∧ (p.retire i d).waitCount = p.waitCount ∧ (p.retire i d).journal = p.journal ∧
      (p.retire i d).lines = p.lines ∧ (p.retire i d).fresh = p.fresh ∧
      (∀ w, (p.retire i d).urgentSlot w = p.urgentSlot w) ∧ (∀ w, (p.retire i d).corner w = p.corner w) ∧
      (∀ w, (p.retire i d).channel w = p.channel w) ∧ (∀ w, (p.retire i d).map w = p.map w) ∧
      (∀ w, (p.retire i d).driverFault w = p.driverFault w) := by
  simp [Part.retire]

/-- The units retireAll leaves alone. -/
@[simp] theorem retireAll_units (p : Part) (cause : FlushCause) (f : Frame) (l : List Entry) :
    (p.retireAll cause f l).bridge = p.bridge ∧ (p.retireAll cause f l).port = p.port ∧
      (p.retireAll cause f l).urgent = p.urgent ∧ (p.retireAll cause f l).timer = p.timer ∧
      (p.retireAll cause f l).corners = p.corners ∧ (p.retireAll cause f l).pairing = p.pairing ∧
      (p.retireAll cause f l).channels = p.channels ∧ (p.retireAll cause f l).maps = p.maps ∧
      (p.retireAll cause f l).analyzer = p.analyzer ∧ (p.retireAll cause f l).setup = p.setup ∧
      (p.retireAll cause f l).waitCount = p.waitCount ∧ (p.retireAll cause f l).journal = p.journal ∧
      (p.retireAll cause f l).lines = p.lines ∧ (p.retireAll cause f l).fresh = p.fresh ∧
      (∀ w, (p.retireAll cause f l).urgentSlot w = p.urgentSlot w) ∧
      (∀ w, (p.retireAll cause f l).corner w = p.corner w) ∧ (∀ w, (p.retireAll cause f l).channel w = p.channel w) ∧
      (∀ w, (p.retireAll cause f l).map w = p.map w) ∧ (∀ w, (p.retireAll cause f l).driverFault w = p.driverFault w) := by
  unfold Part.retireAll; induction l generalizing p with
  | nil => simp
  | cons e l ih => simpa using ih (p.retire e.slot (.flushed cause f))

/-- The units flushList leaves alone. -/
@[simp] theorem flushList_units (p : Part) (c : CornerId) (cause : FlushCause) :
    (p.flushList c cause).bridge = p.bridge ∧ (p.flushList c cause).port = p.port ∧
      (p.flushList c cause).urgent = p.urgent ∧ (p.flushList c cause).timer = p.timer ∧
      (p.flushList c cause).pairing = p.pairing ∧ (p.flushList c cause).channels = p.channels ∧
      (p.flushList c cause).maps = p.maps ∧ (p.flushList c cause).analyzer = p.analyzer ∧
      (p.flushList c cause).setup = p.setup ∧ (p.flushList c cause).waitCount = p.waitCount ∧
      (p.flushList c cause).journal = p.journal ∧ (p.flushList c cause).lines = p.lines ∧
      (p.flushList c cause).fresh = p.fresh ∧ (∀ w, (p.flushList c cause).urgentSlot w = p.urgentSlot w) ∧
      (∀ w, (p.flushList c cause).channel w = p.channel w) ∧ (∀ w, (p.flushList c cause).map w = p.map w) ∧
      (∀ w, (p.flushList c cause).driverFault w = p.driverFault w) := by
  simp [Part.flushList]

/-- The corners after flushList. -/
@[simp] theorem flushList_corner (p : Part) (c : CornerId) (cause : FlushCause) :
    (∀ w, ((p.flushList c cause).corner w).state = (p.corner w).state) ∧
      (∀ w, ((p.flushList c cause).corner w).limpCause = (p.corner w).limpCause) ∧
      (∀ w, ((p.flushList c cause).corner w).silence = (p.corner w).silence) ∧
      (∀ w, ((p.flushList c cause).corner w).lastTaken = (p.corner w).lastTaken) ∧
      (∀ w, ((p.flushList c cause).corner w).list = if w = c then [] else (p.corner w).list) ∧
      (∀ w, ((p.flushList c cause).corner w).hold = (p.corner w).hold) ∧
      (∀ w, ((p.flushList c cause).corner w).limpFirmness = (p.corner w).limpFirmness) ∧
      (∀ w, ((p.flushList c cause).corner w).limpRamp = (p.corner w).limpRamp) ∧
      (∀ w, ((p.flushList c cause).corner w).silenceLimit = (p.corner w).silenceLimit) ∧
      (∀ w, ((p.flushList c cause).corner w).lowMark = (p.corner w).lowMark) ∧
      (∀ w, ((p.flushList c cause).corner w).highMark = (p.corner w).highMark) ∧
      (∀ w, ((p.flushList c cause).corner w).dryRun = (p.corner w).dryRun) ∧
      (∀ w, ((p.flushList c cause).corner w).frame = (p.corner w).frame) ∧
      (∀ w, ((p.flushList c cause).corner w).notices = (p.corner w).notices) := by
  refine ⟨?_, ?_, ?_, ?_, ?_, ?_, ?_, ?_, ?_, ?_, ?_, ?_, ?_, ?_⟩ <;> intro w <;> unfold Part.flushList <;> (try dsimp only) <;> (try split) <;>
    (try by_cases hw : w = c <;> (try subst hw) <;> simp_all [Part.nextFrame]) <;> (try simp_all)

/-- The units endHold leaves alone. -/
@[simp] theorem endHold_units (p : Part) (c : CornerId) (d : UrgentFinal) :
    (p.endHold c d).bridge = p.bridge ∧ (p.endHold c d).port = p.port ∧ (p.endHold c d).demand = p.demand ∧
      (p.endHold c d).timer = p.timer ∧ (p.endHold c d).pairing = p.pairing ∧ (p.endHold c d).channels = p.channels ∧
      (p.endHold c d).maps = p.maps ∧ (p.endHold c d).analyzer = p.analyzer ∧ (p.endHold c d).setup = p.setup ∧
      (p.endHold c d).waitCount = p.waitCount ∧ (p.endHold c d).journal = p.journal ∧
      (p.endHold c d).lines = p.lines ∧ (p.endHold c d).fresh = p.fresh ∧
      (∀ i, (p.endHold c d).demandSlot i = p.demandSlot i) ∧ (∀ w, (p.endHold c d).channel w = p.channel w) ∧
      (∀ w, (p.endHold c d).map w = p.map w) ∧ (∀ w, (p.endHold c d).driverFault w = p.driverFault w) := by
  simp [Part.endHold]

/-- The corners after endHold. -/
@[simp] theorem endHold_corner (p : Part) (c : CornerId) (d : UrgentFinal) :
    (∀ w, ((p.endHold c d).corner w).state = (p.corner w).state) ∧
      (∀ w, ((p.endHold c d).corner w).limpCause = (p.corner w).limpCause) ∧
      (∀ w, ((p.endHold c d).corner w).silence = (p.corner w).silence) ∧
      (∀ w, ((p.endHold c d).corner w).lastTaken = (p.corner w).lastTaken) ∧
      (∀ w, ((p.endHold c d).corner w).list = (p.corner w).list) ∧
      (∀ w, ((p.endHold c d).corner w).hold = if w = c then none else (p.corner w).hold) ∧
      (∀ w, ((p.endHold c d).corner w).limpFirmness = (p.corner w).limpFirmness) ∧
      (∀ w, ((p.endHold c d).corner w).limpRamp = (p.corner w).limpRamp) ∧
      (∀ w, ((p.endHold c d).corner w).silenceLimit = (p.corner w).silenceLimit) ∧
      (∀ w, ((p.endHold c d).corner w).lowMark = (p.corner w).lowMark) ∧
      (∀ w, ((p.endHold c d).corner w).highMark = (p.corner w).highMark) ∧
      (∀ w, ((p.endHold c d).corner w).dryRun = (p.corner w).dryRun) ∧
      (∀ w, ((p.endHold c d).corner w).frame = (p.corner w).frame) ∧
      (∀ w, ((p.endHold c d).corner w).notices = (p.corner w).notices) := by
  refine ⟨?_, ?_, ?_, ?_, ?_, ?_, ?_, ?_, ?_, ?_, ?_, ?_, ?_, ?_⟩ <;> intro w <;> unfold Part.endHold <;> (try dsimp only) <;> (try split) <;>
    (try by_cases hw : w = c <;> (try subst hw) <;> simp_all [Part.nextFrame]) <;> (try simp_all)

/-- The units flushHold leaves alone. -/
@[simp] theorem flushHold_units (p : Part) (c : CornerId) (cause : FlushCause) :
    (p.flushHold c cause).bridge = p.bridge ∧ (p.flushHold c cause).port = p.port ∧
      (p.flushHold c cause).demand = p.demand ∧ (p.flushHold c cause).timer = p.timer ∧
      (p.flushHold c cause).pairing = p.pairing ∧ (p.flushHold c cause).channels = p.channels ∧
      (p.flushHold c cause).maps = p.maps ∧ (p.flushHold c cause).analyzer = p.analyzer ∧
      (p.flushHold c cause).setup = p.setup ∧ (p.flushHold c cause).waitCount = p.waitCount ∧
      (p.flushHold c cause).journal = p.journal ∧ (p.flushHold c cause).lines = p.lines ∧
      (p.flushHold c cause).fresh = p.fresh ∧ (∀ i, (p.flushHold c cause).demandSlot i = p.demandSlot i) ∧
      (∀ w, (p.flushHold c cause).channel w = p.channel w) ∧ (∀ w, (p.flushHold c cause).map w = p.map w) ∧
      (∀ w, (p.flushHold c cause).driverFault w = p.driverFault w) := by
  unfold Part.flushHold; split <;> simp

/-- The corners after flushHold. -/
@[simp] theorem flushHold_corner (p : Part) (c : CornerId) (cause : FlushCause) :
    (∀ w, ((p.flushHold c cause).corner w).state = (p.corner w).state) ∧
      (∀ w, ((p.flushHold c cause).corner w).limpCause = (p.corner w).limpCause) ∧
      (∀ w, ((p.flushHold c cause).corner w).silence = (p.corner w).silence) ∧
      (∀ w, ((p.flushHold c cause).corner w).lastTaken = (p.corner w).lastTaken) ∧
      (∀ w, ((p.flushHold c cause).corner w).list = (p.corner w).list) ∧
      (∀ w, ((p.flushHold c cause).corner w).hold = if w = c then none else (p.corner w).hold) ∧
      (∀ w, ((p.flushHold c cause).corner w).limpFirmness = (p.corner w).limpFirmness) ∧
      (∀ w, ((p.flushHold c cause).corner w).limpRamp = (p.corner w).limpRamp) ∧
      (∀ w, ((p.flushHold c cause).corner w).silenceLimit = (p.corner w).silenceLimit) ∧
      (∀ w, ((p.flushHold c cause).corner w).lowMark = (p.corner w).lowMark) ∧
      (∀ w, ((p.flushHold c cause).corner w).highMark = (p.corner w).highMark) ∧
      (∀ w, ((p.flushHold c cause).corner w).dryRun = (p.corner w).dryRun) ∧
      (∀ w, ((p.flushHold c cause).corner w).frame = (p.corner w).frame) ∧
      (∀ w, ((p.flushHold c cause).corner w).notices = (p.corner w).notices) := by
  refine ⟨?_, ?_, ?_, ?_, ?_, ?_, ?_, ?_, ?_, ?_, ?_, ?_, ?_, ?_⟩ <;> intro w <;> unfold Part.flushHold <;> (try dsimp only) <;> (try split) <;>
    (try by_cases hw : w = c <;> (try subst hw) <;> simp_all [Part.nextFrame]) <;> (try simp_all)

/-- The units leaveRun leaves alone. -/
@[simp] theorem leaveRun_units (p : Part) (c : CornerId) (cause : FlushCause) :
    (p.leaveRun c cause).bridge = p.bridge ∧ (p.leaveRun c cause).port = p.port ∧
      (p.leaveRun c cause).timer = p.timer ∧ (p.leaveRun c cause).pairing = p.pairing ∧
      (p.leaveRun c cause).maps = p.maps ∧ (p.leaveRun c cause).setup = p.setup ∧
      (p.leaveRun c cause).waitCount = p.waitCount ∧ (p.leaveRun c cause).journal = p.journal ∧
      (p.leaveRun c cause).lines = p.lines ∧ (p.leaveRun c cause).fresh = p.fresh ∧
      (∀ w, (p.leaveRun c cause).map w = p.map w) ∧ (∀ w, (p.leaveRun c cause).driverFault w = p.driverFault w) := by
  simp [Part.leaveRun]

/-- The corners after leaveRun. -/
@[simp] theorem leaveRun_corner (p : Part) (c : CornerId) (cause : FlushCause) :
    (∀ w, ((p.leaveRun c cause).corner w).state = (p.corner w).state) ∧
      (∀ w, ((p.leaveRun c cause).corner w).limpCause = (p.corner w).limpCause) ∧
      (∀ w, ((p.leaveRun c cause).corner w).silence = (p.corner w).silence) ∧
      (∀ w, ((p.leaveRun c cause).corner w).lastTaken = (p.corner w).lastTaken) ∧
      (∀ w, ((p.leaveRun c cause).corner w).list = if w = c then [] else (p.corner w).list) ∧
      (∀ w, ((p.leaveRun c cause).corner w).hold = if w = c then none else (p.corner w).hold) ∧
      (∀ w, ((p.leaveRun c cause).corner w).limpFirmness = (p.corner w).limpFirmness) ∧
      (∀ w, ((p.leaveRun c cause).corner w).limpRamp = (p.corner w).limpRamp) ∧
      (∀ w, ((p.leaveRun c cause).corner w).silenceLimit = (p.corner w).silenceLimit) ∧
      (∀ w, ((p.leaveRun c cause).corner w).lowMark = (p.corner w).lowMark) ∧
      (∀ w, ((p.leaveRun c cause).corner w).highMark = (p.corner w).highMark) ∧
      (∀ w, ((p.leaveRun c cause).corner w).dryRun = (p.corner w).dryRun) ∧
      (∀ w, ((p.leaveRun c cause).corner w).frame = (p.corner w).frame) ∧
      (∀ w, ((p.leaveRun c cause).corner w).notices = (p.corner w).notices) := by
  refine ⟨?_, ?_, ?_, ?_, ?_, ?_, ?_, ?_, ?_, ?_, ?_, ?_, ?_, ?_⟩ <;> intro w <;> unfold Part.leaveRun <;> (try dsimp only) <;> (try split) <;>
    (try by_cases hw : w = c <;> (try subst hw) <;> simp_all [Part.nextFrame]) <;> (try simp_all)

/-- The loop state of the channels after leaveRun. -/
@[simp] theorem leaveRun_loop (p : Part) (c : CornerId) (cause : FlushCause) :
    (∀ w, ((p.leaveRun c cause).channel w).state = (p.channel w).state) ∧
      (∀ w, ((p.leaveRun c cause).channel w).tunedGain = (p.channel w).tunedGain) ∧
      (∀ w, ((p.leaveRun c cause).channel w).measured = (p.channel w).measured) ∧
      (∀ w, ((p.leaveRun c cause).channel w).misses = (p.channel w).misses) ∧
      (∀ w, ((p.leaveRun c cause).channel w).settleTimeout = (p.channel w).settleTimeout) ∧
      (∀ w, ((p.leaveRun c cause).channel w).searchReach = (p.channel w).searchReach) ∧
      (∀ w, ((p.leaveRun c cause).channel w).heat = (p.channel w).heat) ∧
      (p.leaveRun c cause).analyzer.queue = p.analyzer.queue := by
  simp [Part.leaveRun]

/-! ### Entry to the corner states -/

/-- The units setCornerState leaves alone. -/
@[simp] theorem setCornerState_units (p : Part) (c : CornerId) (st : CornerState) (cause : LimpCause) :
    (p.setCornerState c st cause).bridge = p.bridge ∧ (p.setCornerState c st cause).port = p.port ∧
      (p.setCornerState c st cause).demand = p.demand ∧ (p.setCornerState c st cause).urgent = p.urgent ∧
      (p.setCornerState c st cause).timer = p.timer ∧ (p.setCornerState c st cause).pairing = p.pairing ∧
      (p.setCornerState c st cause).channels = p.channels ∧ (p.setCornerState c st cause).maps = p.maps ∧
      (p.setCornerState c st cause).analyzer = p.analyzer ∧ (p.setCornerState c st cause).setup = p.setup ∧
      (p.setCornerState c st cause).engine = p.engine ∧ (p.setCornerState c st cause).waitCount = p.waitCount ∧
      (p.setCornerState c st cause).journal = p.journal ∧ (p.setCornerState c st cause).lines = p.lines ∧
      (p.setCornerState c st cause).fresh = p.fresh ∧
      (∀ i, (p.setCornerState c st cause).demandSlot i = p.demandSlot i) ∧
      (∀ w, (p.setCornerState c st cause).urgentSlot w = p.urgentSlot w) ∧
      (∀ w, (p.setCornerState c st cause).channel w = p.channel w) ∧
      (∀ w, (p.setCornerState c st cause).map w = p.map w) ∧
      (∀ w, (p.setCornerState c st cause).driverFault w = p.driverFault w) := by
  simp [Part.setCornerState]

/-- The corners after setCornerState. -/
@[simp] theorem setCornerState_corner (p : Part) (c : CornerId) (st : CornerState) (cause : LimpCause) :
    (∀ w, ((p.setCornerState c st cause).corner w).state = if w = c then st else (p.corner w).state) ∧
      (∀ w, ((p.setCornerState c st cause).corner w).limpCause = if w = c then cause else (p.corner w).limpCause) ∧
      (∀ w, ((p.setCornerState c st cause).corner w).silence = (p.corner w).silence) ∧
      (∀ w, ((p.setCornerState c st cause).corner w).lastTaken = (p.corner w).lastTaken) ∧
      (∀ w, ((p.setCornerState c st cause).corner w).list = (p.corner w).list) ∧
      (∀ w, ((p.setCornerState c st cause).corner w).hold = (p.corner w).hold) ∧
      (∀ w, ((p.setCornerState c st cause).corner w).limpFirmness = (p.corner w).limpFirmness) ∧
      (∀ w, ((p.setCornerState c st cause).corner w).limpRamp = (p.corner w).limpRamp) ∧
      (∀ w, ((p.setCornerState c st cause).corner w).silenceLimit = (p.corner w).silenceLimit) ∧
      (∀ w, ((p.setCornerState c st cause).corner w).lowMark = (p.corner w).lowMark) ∧
      (∀ w, ((p.setCornerState c st cause).corner w).highMark = (p.corner w).highMark) ∧
      (∀ w, ((p.setCornerState c st cause).corner w).dryRun = (p.corner w).dryRun) ∧
      (∀ w, ((p.setCornerState c st cause).corner w).frame = (p.corner w).frame) ∧
      (∀ w, ((p.setCornerState c st cause).corner w).notices = (p.corner w).notices) := by
  refine ⟨?_, ?_, ?_, ?_, ?_, ?_, ?_, ?_, ?_, ?_, ?_, ?_, ?_, ?_⟩ <;> intro w <;> unfold Part.setCornerState <;> (try dsimp only) <;> (try split) <;>
    (try by_cases hw : w = c <;> (try subst hw) <;> simp_all [Part.nextFrame]) <;> (try simp_all)

/-- The units sendPartnerNotice leaves alone. -/
@[simp] theorem sendPartnerNotice_units (p : Part) (c : CornerId) (f : Frame) (d : LimpDetail) :
    (p.sendPartnerNotice c f d).bridge = p.bridge ∧ (p.sendPartnerNotice c f d).port = p.port ∧
      (p.sendPartnerNotice c f d).demand = p.demand ∧ (p.sendPartnerNotice c f d).urgent = p.urgent ∧
      (p.sendPartnerNotice c f d).timer = p.timer ∧ (p.sendPartnerNotice c f d).pairing = p.pairing ∧
      (p.sendPartnerNotice c f d).channels = p.channels ∧ (p.sendPartnerNotice c f d).maps = p.maps ∧
      (p.sendPartnerNotice c f d).analyzer = p.analyzer ∧ (p.sendPartnerNotice c f d).setup = p.setup ∧
      (p.sendPartnerNotice c f d).engine = p.engine ∧ (p.sendPartnerNotice c f d).waitCount = p.waitCount ∧
      (p.sendPartnerNotice c f d).journal = p.journal ∧ (p.sendPartnerNotice c f d).lines = p.lines ∧
      (p.sendPartnerNotice c f d).fresh = p.fresh ∧ (∀ i, (p.sendPartnerNotice c f d).demandSlot i = p.demandSlot i) ∧
      (∀ w, (p.sendPartnerNotice c f d).urgentSlot w = p.urgentSlot w) ∧
      (∀ w, (p.sendPartnerNotice c f d).channel w = p.channel w) ∧
      (∀ w, (p.sendPartnerNotice c f d).map w = p.map w) ∧
      (∀ w, (p.sendPartnerNotice c f d).driverFault w = p.driverFault w) := by
  unfold Part.sendPartnerNotice; split <;> simp

/-- The corners after sendPartnerNotice. -/
@[simp] theorem sendPartnerNotice_corner (p : Part) (c : CornerId) (f : Frame) (d : LimpDetail) :
    (∀ w, ((p.sendPartnerNotice c f d).corner w).state = (p.corner w).state) ∧
      (∀ w, ((p.sendPartnerNotice c f d).corner w).limpCause = (p.corner w).limpCause) ∧
      (∀ w, ((p.sendPartnerNotice c f d).corner w).silence = (p.corner w).silence) ∧
      (∀ w, ((p.sendPartnerNotice c f d).corner w).lastTaken = (p.corner w).lastTaken) ∧
      (∀ w, ((p.sendPartnerNotice c f d).corner w).list = (p.corner w).list) ∧
      (∀ w, ((p.sendPartnerNotice c f d).corner w).hold = (p.corner w).hold) ∧
      (∀ w, ((p.sendPartnerNotice c f d).corner w).limpFirmness = (p.corner w).limpFirmness) ∧
      (∀ w, ((p.sendPartnerNotice c f d).corner w).limpRamp = (p.corner w).limpRamp) ∧
      (∀ w, ((p.sendPartnerNotice c f d).corner w).silenceLimit = (p.corner w).silenceLimit) ∧
      (∀ w, ((p.sendPartnerNotice c f d).corner w).lowMark = (p.corner w).lowMark) ∧
      (∀ w, ((p.sendPartnerNotice c f d).corner w).highMark = (p.corner w).highMark) ∧
      (∀ w, ((p.sendPartnerNotice c f d).corner w).dryRun = (p.corner w).dryRun) ∧
      (∀ w, ((p.sendPartnerNotice c f d).corner w).frame = (p.corner w).frame) := by
  refine ⟨?_, ?_, ?_, ?_, ?_, ?_, ?_, ?_, ?_, ?_, ?_, ?_, ?_⟩ <;> intro w <;> unfold Part.sendPartnerNotice <;> (try dsimp only) <;> (try split) <;>
    (try by_cases hw : w = partnerOf c <;> (try subst hw) <;> simp_all [Part.nextFrame]) <;> (try simp_all)

/-- The units enterLimp leaves alone. -/
@[simp] theorem enterLimp_units (p : Part) (c : CornerId) (d : LimpDetail) (f : Frame) :
    (p.enterLimp c d f).bridge = p.bridge ∧ (p.enterLimp c d f).port = p.port ∧ (p.enterLimp c d f).timer = p.timer ∧
      (p.enterLimp c d f).pairing = p.pairing ∧ (p.enterLimp c d f).maps = p.maps ∧
      (p.enterLimp c d f).setup = p.setup ∧ (p.enterLimp c d f).waitCount = p.waitCount ∧
      (p.enterLimp c d f).fresh = p.fresh ∧ (∀ w, (p.enterLimp c d f).map w = p.map w) ∧
      (∀ w, (p.enterLimp c d f).driverFault w = p.driverFault w) ∧ (p.enterLimp c d f).lines.safe = p.lines.safe ∧
      (p.enterLimp c d f).lines.dflt = p.lines.dflt ∧ (p.enterLimp c d f).lines.mode = p.lines.mode ∧
      (p.enterLimp c d f).journal.write = p.journal.write ∧ (p.enterLimp c d f).journal.read = p.journal.read ∧
      (p.enterLimp c d f).journal.alarm = p.journal.alarm ∧
      (p.enterLimp c d f).journal.threshold = p.journal.threshold ∧ (p.enterLimp c d f).journal.attn = p.journal.attn := by
  simp [Part.enterLimp]

/-- The corners after enterLimp. -/
@[simp] theorem enterLimp_corner (p : Part) (c : CornerId) (d : LimpDetail) (f : Frame) :
    (∀ w, ((p.enterLimp c d f).corner w).state = if w = c then .limp else (p.corner w).state) ∧
      (∀ w, ((p.enterLimp c d f).corner w).limpCause = if w = c then d.cause else (p.corner w).limpCause) ∧
      (∀ w, ((p.enterLimp c d f).corner w).silence = (p.corner w).silence) ∧
      (∀ w, ((p.enterLimp c d f).corner w).lastTaken = (p.corner w).lastTaken) ∧
      (∀ w, ((p.enterLimp c d f).corner w).list = if w = c then [] else (p.corner w).list) ∧
      (∀ w, ((p.enterLimp c d f).corner w).hold = if w = c then none else (p.corner w).hold) ∧
      (∀ w, ((p.enterLimp c d f).corner w).limpFirmness = (p.corner w).limpFirmness) ∧
      (∀ w, ((p.enterLimp c d f).corner w).limpRamp = (p.corner w).limpRamp) ∧
      (∀ w, ((p.enterLimp c d f).corner w).silenceLimit = (p.corner w).silenceLimit) ∧
      (∀ w, ((p.enterLimp c d f).corner w).lowMark = (p.corner w).lowMark) ∧
      (∀ w, ((p.enterLimp c d f).corner w).highMark = (p.corner w).highMark) ∧
      (∀ w, ((p.enterLimp c d f).corner w).dryRun = (p.corner w).dryRun) ∧
      (∀ w, ((p.enterLimp c d f).corner w).frame = (p.corner w).frame) := by
  refine ⟨?_, ?_, ?_, ?_, ?_, ?_, ?_, ?_, ?_, ?_, ?_, ?_, ?_⟩ <;> intro w <;> unfold Part.enterLimp <;> (try dsimp only) <;> (try split) <;>
    (try by_cases hw : w = c <;> (try subst hw) <;> simp_all [Part.nextFrame]) <;> (try simp_all)

/-- The loop state of the channels after enterLimp. -/
@[simp] theorem enterLimp_loop (p : Part) (c : CornerId) (d : LimpDetail) (f : Frame) :
    (∀ w, ((p.enterLimp c d f).channel w).state = (p.channel w).state) ∧
      (∀ w, ((p.enterLimp c d f).channel w).tunedGain = (p.channel w).tunedGain) ∧
      (∀ w, ((p.enterLimp c d f).channel w).measured = (p.channel w).measured) ∧
      (∀ w, ((p.enterLimp c d f).channel w).misses = (p.channel w).misses) ∧
      (∀ w, ((p.enterLimp c d f).channel w).settleTimeout = (p.channel w).settleTimeout) ∧
      (∀ w, ((p.enterLimp c d f).channel w).searchReach = (p.channel w).searchReach) ∧
      (∀ w, ((p.enterLimp c d f).channel w).heat = (p.channel w).heat) ∧
      (p.enterLimp c d f).analyzer.queue = p.analyzer.queue := by
  simp [Part.enterLimp]

/-- The units enterIdle leaves alone. -/
@[simp] theorem enterIdle_units (p : Part) (c : CornerId) :
    (p.enterIdle c).bridge = p.bridge ∧ (p.enterIdle c).port = p.port ∧ (p.enterIdle c).timer = p.timer ∧
      (p.enterIdle c).pairing = p.pairing ∧ (p.enterIdle c).maps = p.maps ∧ (p.enterIdle c).setup = p.setup ∧
      (p.enterIdle c).waitCount = p.waitCount ∧ (p.enterIdle c).fresh = p.fresh ∧
      (∀ w, (p.enterIdle c).map w = p.map w) ∧ (∀ w, (p.enterIdle c).driverFault w = p.driverFault w) ∧
      (p.enterIdle c).lines.safe = p.lines.safe ∧ (p.enterIdle c).lines.dflt = p.lines.dflt ∧
      (p.enterIdle c).lines.mode = p.lines.mode ∧ (p.enterIdle c).journal.write = p.journal.write ∧
      (p.enterIdle c).journal.read = p.journal.read ∧ (p.enterIdle c).journal.alarm = p.journal.alarm ∧
      (p.enterIdle c).journal.threshold = p.journal.threshold ∧ (p.enterIdle c).journal.attn = p.journal.attn := by
  simp [Part.enterIdle]

/-- The corners after enterIdle. -/
@[simp] theorem enterIdle_corner (p : Part) (c : CornerId) :
    (∀ w, ((p.enterIdle c).corner w).state = if w = c then .idle else (p.corner w).state) ∧
      (∀ w, ((p.enterIdle c).corner w).limpCause = if w = c then .none else (p.corner w).limpCause) ∧
      (∀ w, ((p.enterIdle c).corner w).silence = (p.corner w).silence) ∧
      (∀ w, ((p.enterIdle c).corner w).lastTaken = (p.corner w).lastTaken) ∧
      (∀ w, ((p.enterIdle c).corner w).list = if w = c then [] else (p.corner w).list) ∧
      (∀ w, ((p.enterIdle c).corner w).hold = if w = c then none else (p.corner w).hold) ∧
      (∀ w, ((p.enterIdle c).corner w).limpFirmness = (p.corner w).limpFirmness) ∧
      (∀ w, ((p.enterIdle c).corner w).limpRamp = (p.corner w).limpRamp) ∧
      (∀ w, ((p.enterIdle c).corner w).silenceLimit = (p.corner w).silenceLimit) ∧
      (∀ w, ((p.enterIdle c).corner w).lowMark = (p.corner w).lowMark) ∧
      (∀ w, ((p.enterIdle c).corner w).highMark = (p.corner w).highMark) ∧
      (∀ w, ((p.enterIdle c).corner w).dryRun = (p.corner w).dryRun) ∧
      (∀ w, ((p.enterIdle c).corner w).frame = (p.corner w).frame) ∧
      (∀ w, ((p.enterIdle c).corner w).notices = (p.corner w).notices) := by
  refine ⟨?_, ?_, ?_, ?_, ?_, ?_, ?_, ?_, ?_, ?_, ?_, ?_, ?_, ?_⟩ <;> intro w <;> unfold Part.enterIdle <;> (try dsimp only) <;> (try split) <;>
    (try by_cases hw : w = c <;> (try subst hw) <;> simp_all [Part.nextFrame]) <;> (try simp_all)

/-- The loop state of the channels after enterIdle. -/
@[simp] theorem enterIdle_loop (p : Part) (c : CornerId) :
    (∀ w, ((p.enterIdle c).channel w).state = (p.channel w).state) ∧
      (∀ w, ((p.enterIdle c).channel w).tunedGain = (p.channel w).tunedGain) ∧
      (∀ w, ((p.enterIdle c).channel w).measured = (p.channel w).measured) ∧
      (∀ w, ((p.enterIdle c).channel w).misses = (p.channel w).misses) ∧
      (∀ w, ((p.enterIdle c).channel w).settleTimeout = (p.channel w).settleTimeout) ∧
      (∀ w, ((p.enterIdle c).channel w).searchReach = (p.channel w).searchReach) ∧
      (∀ w, ((p.enterIdle c).channel w).heat = (p.channel w).heat) ∧ (p.enterIdle c).analyzer.queue = p.analyzer.queue := by
  simp [Part.enterIdle]

/-- The units enterSafe leaves alone. -/
@[simp] theorem enterSafe_units (p : Part) (c : CornerId) :
    (p.enterSafe c).bridge = p.bridge ∧ (p.enterSafe c).port = p.port ∧ (p.enterSafe c).timer = p.timer ∧
      (p.enterSafe c).pairing = p.pairing ∧ (p.enterSafe c).maps = p.maps ∧ (p.enterSafe c).setup = p.setup ∧
      (p.enterSafe c).waitCount = p.waitCount ∧ (p.enterSafe c).fresh = p.fresh ∧
      (∀ w, (p.enterSafe c).map w = p.map w) ∧ (∀ w, (p.enterSafe c).driverFault w = p.driverFault w) ∧
      (p.enterSafe c).lines.safe = p.lines.safe ∧ (p.enterSafe c).lines.dflt = p.lines.dflt ∧
      (p.enterSafe c).lines.mode = p.lines.mode ∧ (p.enterSafe c).journal.write = p.journal.write ∧
      (p.enterSafe c).journal.read = p.journal.read ∧ (p.enterSafe c).journal.alarm = p.journal.alarm ∧
      (p.enterSafe c).journal.threshold = p.journal.threshold ∧ (p.enterSafe c).journal.attn = p.journal.attn := by
  simp [Part.enterSafe]

/-- The corners after enterSafe. -/
@[simp] theorem enterSafe_corner (p : Part) (c : CornerId) :
    (∀ w, ((p.enterSafe c).corner w).state = if w = c then .safe else (p.corner w).state) ∧
      (∀ w, ((p.enterSafe c).corner w).limpCause = if w = c then .none else (p.corner w).limpCause) ∧
      (∀ w, ((p.enterSafe c).corner w).silence = (p.corner w).silence) ∧
      (∀ w, ((p.enterSafe c).corner w).lastTaken = (p.corner w).lastTaken) ∧
      (∀ w, ((p.enterSafe c).corner w).list = if w = c then [] else (p.corner w).list) ∧
      (∀ w, ((p.enterSafe c).corner w).hold = if w = c then none else (p.corner w).hold) ∧
      (∀ w, ((p.enterSafe c).corner w).limpFirmness = (p.corner w).limpFirmness) ∧
      (∀ w, ((p.enterSafe c).corner w).limpRamp = (p.corner w).limpRamp) ∧
      (∀ w, ((p.enterSafe c).corner w).silenceLimit = (p.corner w).silenceLimit) ∧
      (∀ w, ((p.enterSafe c).corner w).lowMark = (p.corner w).lowMark) ∧
      (∀ w, ((p.enterSafe c).corner w).highMark = (p.corner w).highMark) ∧
      (∀ w, ((p.enterSafe c).corner w).dryRun = (p.corner w).dryRun) ∧
      (∀ w, ((p.enterSafe c).corner w).frame = (p.corner w).frame) ∧
      (∀ w, ((p.enterSafe c).corner w).notices = (p.corner w).notices) := by
  refine ⟨?_, ?_, ?_, ?_, ?_, ?_, ?_, ?_, ?_, ?_, ?_, ?_, ?_, ?_⟩ <;> intro w <;> unfold Part.enterSafe <;> (try dsimp only) <;> (try split) <;>
    (try by_cases hw : w = c <;> (try subst hw) <;> simp_all [Part.nextFrame]) <;> (try simp_all)

/-- The loop state of the channels after enterSafe. -/
@[simp] theorem enterSafe_loop (p : Part) (c : CornerId) :
    (∀ w, ((p.enterSafe c).channel w).state = (p.channel w).state) ∧
      (∀ w, ((p.enterSafe c).channel w).tunedGain = (p.channel w).tunedGain) ∧
      (∀ w, ((p.enterSafe c).channel w).measured = (p.channel w).measured) ∧
      (∀ w, ((p.enterSafe c).channel w).misses = (p.channel w).misses) ∧
      (∀ w, ((p.enterSafe c).channel w).settleTimeout = (p.channel w).settleTimeout) ∧
      (∀ w, ((p.enterSafe c).channel w).searchReach = (p.channel w).searchReach) ∧
      (∀ w, ((p.enterSafe c).channel w).heat = (p.channel w).heat) ∧ (p.enterSafe c).analyzer.queue = p.analyzer.queue := by
  simp [Part.enterSafe]

/-- The units enterRun leaves alone. -/
@[simp] theorem enterRun_units (p : Part) (c : CornerId) :
    (p.enterRun c).bridge = p.bridge ∧ (p.enterRun c).port = p.port ∧ (p.enterRun c).timer = p.timer ∧
      (p.enterRun c).pairing = p.pairing ∧ (p.enterRun c).maps = p.maps ∧ (p.enterRun c).setup = p.setup ∧
      (p.enterRun c).waitCount = p.waitCount ∧ (p.enterRun c).fresh = p.fresh ∧ (p.enterRun c).demand = p.demand ∧
      (p.enterRun c).urgent = p.urgent ∧ (p.enterRun c).channels = p.channels ∧ (p.enterRun c).analyzer = p.analyzer ∧
      (p.enterRun c).engine = p.engine ∧ (∀ w, (p.enterRun c).map w = p.map w) ∧
      (∀ w, (p.enterRun c).driverFault w = p.driverFault w) ∧ (∀ i, (p.enterRun c).demandSlot i = p.demandSlot i) ∧
      (∀ w, (p.enterRun c).urgentSlot w = p.urgentSlot w) ∧ (∀ w, (p.enterRun c).channel w = p.channel w) ∧
      (p.enterRun c).lines.safe = p.lines.safe ∧ (p.enterRun c).lines.dflt = p.lines.dflt ∧
      (p.enterRun c).lines.mode = p.lines.mode ∧ (p.enterRun c).journal.write = p.journal.write ∧
      (p.enterRun c).journal.read = p.journal.read ∧ (p.enterRun c).journal.alarm = p.journal.alarm ∧
      (p.enterRun c).journal.threshold = p.journal.threshold ∧ (p.enterRun c).journal.attn = p.journal.attn := by
  simp [Part.enterRun]

/-- The corners after enterRun. -/
@[simp] theorem enterRun_corner (p : Part) (c : CornerId) :
    (∀ w, ((p.enterRun c).corner w).state = if w = c then .run else (p.corner w).state) ∧
      (∀ w, ((p.enterRun c).corner w).limpCause = if w = c then .none else (p.corner w).limpCause) ∧
      (∀ w, ((p.enterRun c).corner w).silence = if w = c then 0 else (p.corner w).silence) ∧
      (∀ w, ((p.enterRun c).corner w).lastTaken = if w = c then none else (p.corner w).lastTaken) ∧
      (∀ w, ((p.enterRun c).corner w).list = (p.corner w).list) ∧
      (∀ w, ((p.enterRun c).corner w).hold = (p.corner w).hold) ∧
      (∀ w, ((p.enterRun c).corner w).limpFirmness = (p.corner w).limpFirmness) ∧
      (∀ w, ((p.enterRun c).corner w).limpRamp = (p.corner w).limpRamp) ∧
      (∀ w, ((p.enterRun c).corner w).silenceLimit = (p.corner w).silenceLimit) ∧
      (∀ w, ((p.enterRun c).corner w).lowMark = (p.corner w).lowMark) ∧
      (∀ w, ((p.enterRun c).corner w).highMark = (p.corner w).highMark) ∧
      (∀ w, ((p.enterRun c).corner w).dryRun = (p.corner w).dryRun) ∧
      (∀ w, ((p.enterRun c).corner w).frame = (p.corner w).frame) ∧
      (∀ w, ((p.enterRun c).corner w).notices = (p.corner w).notices) := by
  refine ⟨?_, ?_, ?_, ?_, ?_, ?_, ?_, ?_, ?_, ?_, ?_, ?_, ?_, ?_⟩ <;> intro w <;> unfold Part.enterRun <;> (try dsimp only) <;> (try split) <;>
    (try by_cases hw : w = c <;> (try subst hw) <;> simp_all [Part.nextFrame]) <;> (try simp_all)

/-- The units exitSafe leaves alone. -/
@[simp] theorem exitSafe_units (p : Part) (c : CornerId) :
    (p.exitSafe c).bridge = p.bridge ∧ (p.exitSafe c).port = p.port ∧ (p.exitSafe c).timer = p.timer ∧
      (p.exitSafe c).pairing = p.pairing ∧ (p.exitSafe c).maps = p.maps ∧ (p.exitSafe c).setup = p.setup ∧
      (p.exitSafe c).waitCount = p.waitCount ∧ (p.exitSafe c).fresh = p.fresh ∧ (p.exitSafe c).demand = p.demand ∧
      (p.exitSafe c).urgent = p.urgent ∧ (p.exitSafe c).engine = p.engine ∧ (∀ w, (p.exitSafe c).map w = p.map w) ∧
      (∀ w, (p.exitSafe c).driverFault w = p.driverFault w) ∧ (p.exitSafe c).lines.safe = p.lines.safe ∧
      (p.exitSafe c).lines.dflt = p.lines.dflt ∧ (p.exitSafe c).lines.mode = p.lines.mode ∧
      (p.exitSafe c).journal.write = p.journal.write ∧ (p.exitSafe c).journal.read = p.journal.read ∧
      (p.exitSafe c).journal.alarm = p.journal.alarm ∧ (p.exitSafe c).journal.threshold = p.journal.threshold ∧
      (p.exitSafe c).journal.attn = p.journal.attn := by
  unfold Part.exitSafe; (try dsimp only); split <;> simp

/-- The corners after exitSafe. -/
@[simp] theorem exitSafe_corner (p : Part) (c : CornerId) :
    (∀ w, ((p.exitSafe c).corner w).silence = (p.corner w).silence) ∧
      (∀ w, ((p.exitSafe c).corner w).lastTaken = (p.corner w).lastTaken) ∧
      (∀ w, ((p.exitSafe c).corner w).list = (p.corner w).list) ∧
      (∀ w, ((p.exitSafe c).corner w).hold = (p.corner w).hold) ∧
      (∀ w, ((p.exitSafe c).corner w).limpFirmness = (p.corner w).limpFirmness) ∧
      (∀ w, ((p.exitSafe c).corner w).limpRamp = (p.corner w).limpRamp) ∧
      (∀ w, ((p.exitSafe c).corner w).silenceLimit = (p.corner w).silenceLimit) ∧
      (∀ w, ((p.exitSafe c).corner w).lowMark = (p.corner w).lowMark) ∧
      (∀ w, ((p.exitSafe c).corner w).highMark = (p.corner w).highMark) ∧
      (∀ w, ((p.exitSafe c).corner w).dryRun = (p.corner w).dryRun) ∧
      (∀ w, ((p.exitSafe c).corner w).frame = (p.corner w).frame) ∧
      (∀ w, ((p.exitSafe c).corner w).notices = (p.corner w).notices) := by
  refine ⟨?_, ?_, ?_, ?_, ?_, ?_, ?_, ?_, ?_, ?_, ?_, ?_⟩ <;> intro w <;> unfold Part.exitSafe <;> (try dsimp only) <;> (try split) <;>
    (try by_cases hw : w = c <;> (try subst hw) <;> simp_all [Part.nextFrame]) <;> (try simp_all)

/-- The loop state of the channels after exitSafe. -/
@[simp] theorem exitSafe_loop (p : Part) (c : CornerId) :
    (∀ w, ((p.exitSafe c).channel w).state = (p.channel w).state) ∧
      (∀ w, ((p.exitSafe c).channel w).tunedGain = (p.channel w).tunedGain) ∧
      (∀ w, ((p.exitSafe c).channel w).measured = (p.channel w).measured) ∧
      (∀ w, ((p.exitSafe c).channel w).misses = (p.channel w).misses) ∧
      (∀ w, ((p.exitSafe c).channel w).settleTimeout = (p.channel w).settleTimeout) ∧
      (∀ w, ((p.exitSafe c).channel w).searchReach = (p.channel w).searchReach) ∧
      (∀ w, ((p.exitSafe c).channel w).heat = (p.channel w).heat) ∧ (p.exitSafe c).analyzer.queue = p.analyzer.queue := by
  unfold Part.exitSafe; (try dsimp only); split <;> simp

/-- The units limpNotice leaves alone. -/
@[simp] theorem limpNotice_units (p : Part) (c : CornerId) (d : LimpDetail) :
    (p.limpNotice c d).bridge = p.bridge ∧ (p.limpNotice c d).port = p.port ∧ (p.limpNotice c d).timer = p.timer ∧
      (p.limpNotice c d).pairing = p.pairing ∧ (p.limpNotice c d).maps = p.maps ∧ (p.limpNotice c d).setup = p.setup ∧
      (p.limpNotice c d).waitCount = p.waitCount ∧ (p.limpNotice c d).fresh = p.fresh ∧
      (∀ w, (p.limpNotice c d).map w = p.map w) ∧ (∀ w, (p.limpNotice c d).driverFault w = p.driverFault w) ∧
      (p.limpNotice c d).lines.safe = p.lines.safe ∧ (p.limpNotice c d).lines.dflt = p.lines.dflt ∧
      (p.limpNotice c d).lines.mode = p.lines.mode ∧ (p.limpNotice c d).journal.write = p.journal.write ∧
      (p.limpNotice c d).journal.read = p.journal.read ∧ (p.limpNotice c d).journal.alarm = p.journal.alarm ∧
      (p.limpNotice c d).journal.threshold = p.journal.threshold ∧ (p.limpNotice c d).journal.attn = p.journal.attn := by
  unfold Part.limpNotice; split <;> simp

/-- The corners after limpNotice. -/
@[simp] theorem limpNotice_corner (p : Part) (c : CornerId) (d : LimpDetail) :
    (∀ w, ((p.limpNotice c d).corner w).silence = (p.corner w).silence) ∧
      (∀ w, ((p.limpNotice c d).corner w).lastTaken = (p.corner w).lastTaken) ∧
      (∀ w, ((p.limpNotice c d).corner w).limpFirmness = (p.corner w).limpFirmness) ∧
      (∀ w, ((p.limpNotice c d).corner w).limpRamp = (p.corner w).limpRamp) ∧
      (∀ w, ((p.limpNotice c d).corner w).silenceLimit = (p.corner w).silenceLimit) ∧
      (∀ w, ((p.limpNotice c d).corner w).lowMark = (p.corner w).lowMark) ∧
      (∀ w, ((p.limpNotice c d).corner w).highMark = (p.corner w).highMark) ∧
      (∀ w, ((p.limpNotice c d).corner w).dryRun = (p.corner w).dryRun) ∧
      (∀ w, ((p.limpNotice c d).corner w).frame = (p.corner w).frame) := by
  refine ⟨?_, ?_, ?_, ?_, ?_, ?_, ?_, ?_, ?_⟩ <;> intro w <;> unfold Part.limpNotice <;> (try dsimp only) <;> (try split) <;>
    (try by_cases hw : w = c <;> (try subst hw) <;> simp_all [Part.nextFrame]) <;> (try simp_all)

/-- The loop state of the channels after limpNotice. -/
@[simp] theorem limpNotice_loop (p : Part) (c : CornerId) (d : LimpDetail) :
    (∀ w, ((p.limpNotice c d).channel w).state = (p.channel w).state) ∧
      (∀ w, ((p.limpNotice c d).channel w).tunedGain = (p.channel w).tunedGain) ∧
      (∀ w, ((p.limpNotice c d).channel w).measured = (p.channel w).measured) ∧
      (∀ w, ((p.limpNotice c d).channel w).misses = (p.channel w).misses) ∧
      (∀ w, ((p.limpNotice c d).channel w).settleTimeout = (p.channel w).settleTimeout) ∧
      (∀ w, ((p.limpNotice c d).channel w).searchReach = (p.channel w).searchReach) ∧
      (∀ w, ((p.limpNotice c d).channel w).heat = (p.channel w).heat) ∧
      (p.limpNotice c d).analyzer.queue = p.analyzer.queue := by
  unfold Part.limpNotice; split <;> simp

end Sys2Proof.Machine
end

