-- ==== Sys2Proof/Laws/Loop.lean ====
section
/-! SUPPORT. The units that no event of a corner, a channel or the analyzer touches: the Path Bridge and its read port,
the Frame Timer, the maps, the decoder, the wait count, the sampled lines, and the journal's indexes and ATTN. -/

set_option linter.unusedTactic false
set_option linter.unnecessarySeqFocus false
set_option linter.unreachableTactic false
set_option linter.unusedSimpArgs false

namespace Sys2Proof.Machine

/-- The units sendApplication leaves alone. -/
@[simp] theorem sendApplication_units (p : Part) (c : CornerId) (e : Entry) (n : Frame) :
    (p.sendApplication c e n).bridge = p.bridge ∧ (p.sendApplication c e n).port = p.port ∧
      (p.sendApplication c e n).timer = p.timer ∧ (p.sendApplication c e n).pairing = p.pairing ∧
      (p.sendApplication c e n).maps = p.maps ∧ (p.sendApplication c e n).setup = p.setup ∧
      (p.sendApplication c e n).waitCount = p.waitCount ∧ (p.sendApplication c e n).fresh = p.fresh ∧
      (∀ w, (p.sendApplication c e n).map w = p.map w) ∧
      (∀ w, (p.sendApplication c e n).driverFault w = p.driverFault w) ∧
      (p.sendApplication c e n).lines.safe = p.lines.safe ∧ (p.sendApplication c e n).lines.dflt = p.lines.dflt ∧
      (p.sendApplication c e n).lines.mode = p.lines.mode ∧
      (p.sendApplication c e n).journal.write = p.journal.write ∧
      (p.sendApplication c e n).journal.read = p.journal.read ∧
      (p.sendApplication c e n).journal.alarm = p.journal.alarm ∧
      (p.sendApplication c e n).journal.threshold = p.journal.threshold ∧
      (p.sendApplication c e n).journal.attn = p.journal.attn := by
  unfold Part.sendApplication; (try dsimp only); (repeat' split) <;> simp

/-- The units applyEntry leaves alone. -/
@[simp] theorem applyEntry_units (p : Part) (c : CornerId) (e : Entry) (n : Frame) :
    (p.applyEntry c e n).bridge = p.bridge ∧ (p.applyEntry c e n).port = p.port ∧
      (p.applyEntry c e n).timer = p.timer ∧ (p.applyEntry c e n).pairing = p.pairing ∧
      (p.applyEntry c e n).maps = p.maps ∧ (p.applyEntry c e n).setup = p.setup ∧
      (p.applyEntry c e n).waitCount = p.waitCount ∧ (p.applyEntry c e n).fresh = p.fresh ∧
      (∀ w, (p.applyEntry c e n).map w = p.map w) ∧ (∀ w, (p.applyEntry c e n).driverFault w = p.driverFault w) ∧
      (p.applyEntry c e n).lines.safe = p.lines.safe ∧ (p.applyEntry c e n).lines.dflt = p.lines.dflt ∧
      (p.applyEntry c e n).lines.mode = p.lines.mode ∧ (p.applyEntry c e n).journal.write = p.journal.write ∧
      (p.applyEntry c e n).journal.read = p.journal.read ∧ (p.applyEntry c e n).journal.alarm = p.journal.alarm ∧
      (p.applyEntry c e n).journal.threshold = p.journal.threshold ∧
      (p.applyEntry c e n).journal.attn = p.journal.attn := by
  unfold Part.applyEntry; (try dsimp only); (repeat' split) <;> simp

/-- The units handleDue leaves alone. -/
@[simp] theorem handleDue_units (p : Part) (c : CornerId) (n : Frame) : ∀ l : List Entry,
    (p.handleDue c n l).bridge = p.bridge ∧ (p.handleDue c n l).port = p.port ∧ (p.handleDue c n l).timer = p.timer ∧
      (p.handleDue c n l).pairing = p.pairing ∧ (p.handleDue c n l).maps = p.maps ∧
      (p.handleDue c n l).setup = p.setup ∧ (p.handleDue c n l).waitCount = p.waitCount ∧
      (p.handleDue c n l).fresh = p.fresh ∧ (∀ w, (p.handleDue c n l).map w = p.map w) ∧
      (∀ w, (p.handleDue c n l).driverFault w = p.driverFault w) ∧ (p.handleDue c n l).lines.safe = p.lines.safe ∧
      (p.handleDue c n l).lines.dflt = p.lines.dflt ∧ (p.handleDue c n l).lines.mode = p.lines.mode ∧
      (p.handleDue c n l).journal.write = p.journal.write ∧ (p.handleDue c n l).journal.read = p.journal.read ∧
      (p.handleDue c n l).journal.alarm = p.journal.alarm ∧
      (p.handleDue c n l).journal.threshold = p.journal.threshold ∧ (p.handleDue c n l).journal.attn = p.journal.attn
  | [] => by simp [Part.handleDue]
  | [e] => by simp [Part.handleDue]
  | e :: e' :: rest => by
    simpa [Part.handleDue] using handleDue_units (p.retire e.slot (.superseded n)) c n (e' :: rest)

/-- The units queueLow leaves alone. -/
@[simp] theorem queueLow_units (p : Part) (c : CornerId) (n : Frame) (a b : Nat) :
    (p.queueLow c n a b).bridge = p.bridge ∧ (p.queueLow c n a b).port = p.port ∧
      (p.queueLow c n a b).timer = p.timer ∧ (p.queueLow c n a b).pairing = p.pairing ∧
      (p.queueLow c n a b).maps = p.maps ∧ (p.queueLow c n a b).setup = p.setup ∧
      (p.queueLow c n a b).waitCount = p.waitCount ∧ (p.queueLow c n a b).fresh = p.fresh ∧
      (∀ w, (p.queueLow c n a b).map w = p.map w) ∧ (∀ w, (p.queueLow c n a b).driverFault w = p.driverFault w) ∧
      (p.queueLow c n a b).lines.safe = p.lines.safe ∧ (p.queueLow c n a b).lines.dflt = p.lines.dflt ∧
      (p.queueLow c n a b).lines.mode = p.lines.mode ∧ (p.queueLow c n a b).journal.write = p.journal.write ∧
      (p.queueLow c n a b).journal.read = p.journal.read ∧ (p.queueLow c n a b).journal.alarm = p.journal.alarm ∧
      (p.queueLow c n a b).journal.threshold = p.journal.threshold ∧
      (p.queueLow c n a b).journal.attn = p.journal.attn := by
  unfold Part.queueLow; (try dsimp only); (repeat' split) <;> simp

/-- The units removeDue leaves alone. -/
@[simp] theorem removeDue_units (p : Part) (c : CornerId) (n : Frame) :
    (p.removeDue c n).bridge = p.bridge ∧ (p.removeDue c n).port = p.port ∧ (p.removeDue c n).timer = p.timer ∧
      (p.removeDue c n).pairing = p.pairing ∧ (p.removeDue c n).maps = p.maps ∧ (p.removeDue c n).setup = p.setup ∧
      (p.removeDue c n).waitCount = p.waitCount ∧ (p.removeDue c n).fresh = p.fresh ∧
      (∀ w, (p.removeDue c n).map w = p.map w) ∧ (∀ w, (p.removeDue c n).driverFault w = p.driverFault w) ∧
      (p.removeDue c n).lines.safe = p.lines.safe ∧ (p.removeDue c n).lines.dflt = p.lines.dflt ∧
      (p.removeDue c n).lines.mode = p.lines.mode ∧ (p.removeDue c n).journal.write = p.journal.write ∧
      (p.removeDue c n).journal.read = p.journal.read ∧ (p.removeDue c n).journal.alarm = p.journal.alarm ∧
      (p.removeDue c n).journal.threshold = p.journal.threshold ∧ (p.removeDue c n).journal.attn = p.journal.attn := by
  unfold Part.removeDue; (try dsimp only); (repeat' split) <;> simp

/-- The units sendEnds leaves alone. -/
@[simp] theorem sendEnds_units (p : Part) (c : CornerId) (sel : ValveSelect) (e : OverrideEnd) :
    (p.sendEnds c sel e).bridge = p.bridge ∧ (p.sendEnds c sel e).port = p.port ∧
      (p.sendEnds c sel e).timer = p.timer ∧ (p.sendEnds c sel e).pairing = p.pairing ∧
      (p.sendEnds c sel e).maps = p.maps ∧ (p.sendEnds c sel e).setup = p.setup ∧
      (p.sendEnds c sel e).waitCount = p.waitCount ∧ (p.sendEnds c sel e).fresh = p.fresh ∧
      (∀ w, (p.sendEnds c sel e).map w = p.map w) ∧ (∀ w, (p.sendEnds c sel e).driverFault w = p.driverFault w) ∧
      (p.sendEnds c sel e).lines.safe = p.lines.safe ∧ (p.sendEnds c sel e).lines.dflt = p.lines.dflt ∧
      (p.sendEnds c sel e).lines.mode = p.lines.mode ∧ (p.sendEnds c sel e).journal.write = p.journal.write ∧
      (p.sendEnds c sel e).journal.read = p.journal.read ∧ (p.sendEnds c sel e).journal.alarm = p.journal.alarm ∧
      (p.sendEnds c sel e).journal.threshold = p.journal.threshold ∧
      (p.sendEnds c sel e).journal.attn = p.journal.attn := by
  unfold Part.sendEnds; (try dsimp only); (repeat' split) <;> simp

/-- The units countHold leaves alone. -/
@[simp] theorem countHold_units (p : Part) (c : CornerId) (n : Frame) :
    (p.countHold c n).bridge = p.bridge ∧ (p.countHold c n).port = p.port ∧ (p.countHold c n).timer = p.timer ∧
      (p.countHold c n).pairing = p.pairing ∧ (p.countHold c n).maps = p.maps ∧ (p.countHold c n).setup = p.setup ∧
      (p.countHold c n).waitCount = p.waitCount ∧ (p.countHold c n).fresh = p.fresh ∧
      (∀ w, (p.countHold c n).map w = p.map w) ∧ (∀ w, (p.countHold c n).driverFault w = p.driverFault w) ∧
      (p.countHold c n).lines.safe = p.lines.safe ∧ (p.countHold c n).lines.dflt = p.lines.dflt ∧
      (p.countHold c n).lines.mode = p.lines.mode ∧ (p.countHold c n).journal.write = p.journal.write ∧
      (p.countHold c n).journal.read = p.journal.read ∧ (p.countHold c n).journal.alarm = p.journal.alarm ∧
      (p.countHold c n).journal.threshold = p.journal.threshold ∧ (p.countHold c n).journal.attn = p.journal.attn := by
  unfold Part.countHold; (try dsimp only); (repeat' split) <;> simp

/-- The units cornerBoundary leaves alone. -/
@[simp] theorem cornerBoundary_units (p : Part) (c : CornerId) :
    (p.cornerBoundary c).bridge = p.bridge ∧ (p.cornerBoundary c).port = p.port ∧
      (p.cornerBoundary c).timer = p.timer ∧ (p.cornerBoundary c).pairing = p.pairing ∧
      (p.cornerBoundary c).maps = p.maps ∧ (p.cornerBoundary c).setup = p.setup ∧
      (p.cornerBoundary c).waitCount = p.waitCount ∧ (p.cornerBoundary c).fresh = p.fresh ∧
      (∀ w, (p.cornerBoundary c).map w = p.map w) ∧ (∀ w, (p.cornerBoundary c).driverFault w = p.driverFault w) ∧
      (p.cornerBoundary c).lines.safe = p.lines.safe ∧ (p.cornerBoundary c).lines.dflt = p.lines.dflt ∧
      (p.cornerBoundary c).lines.mode = p.lines.mode ∧ (p.cornerBoundary c).journal.write = p.journal.write ∧
      (p.cornerBoundary c).journal.read = p.journal.read ∧ (p.cornerBoundary c).journal.alarm = p.journal.alarm ∧
      (p.cornerBoundary c).journal.threshold = p.journal.threshold ∧
      (p.cornerBoundary c).journal.attn = p.journal.attn := by
  unfold Part.cornerBoundary; (try dsimp only); (repeat' split) <;> simp

/-- The units takePartnerNotice leaves alone. -/
@[simp] theorem takePartnerNotice_units (p : Part) (c : CornerId) :
    (p.takePartnerNotice c).bridge = p.bridge ∧ (p.takePartnerNotice c).port = p.port ∧
      (p.takePartnerNotice c).timer = p.timer ∧ (p.takePartnerNotice c).pairing = p.pairing ∧
      (p.takePartnerNotice c).maps = p.maps ∧ (p.takePartnerNotice c).setup = p.setup ∧
      (p.takePartnerNotice c).waitCount = p.waitCount ∧ (p.takePartnerNotice c).fresh = p.fresh ∧
      (∀ w, (p.takePartnerNotice c).map w = p.map w) ∧
      (∀ w, (p.takePartnerNotice c).driverFault w = p.driverFault w) ∧
      (p.takePartnerNotice c).lines.safe = p.lines.safe ∧ (p.takePartnerNotice c).lines.dflt = p.lines.dflt ∧
      (p.takePartnerNotice c).lines.mode = p.lines.mode ∧ (p.takePartnerNotice c).journal.write = p.journal.write ∧
      (p.takePartnerNotice c).journal.read = p.journal.read ∧
      (p.takePartnerNotice c).journal.alarm = p.journal.alarm ∧
      (p.takePartnerNotice c).journal.threshold = p.journal.threshold ∧
      (p.takePartnerNotice c).journal.attn = p.journal.attn := by
  unfold Part.takePartnerNotice; (try dsimp only); (repeat' split) <;> simp

/-- The units abortTrace leaves alone. -/
@[simp] theorem abortTrace_units (p : Part)  :
    p.abortTrace.bridge = p.bridge ∧ p.abortTrace.port = p.port ∧ p.abortTrace.timer = p.timer ∧
      p.abortTrace.pairing = p.pairing ∧ p.abortTrace.maps = p.maps ∧ p.abortTrace.setup = p.setup ∧
      p.abortTrace.waitCount = p.waitCount ∧ p.abortTrace.fresh = p.fresh ∧ (∀ w, p.abortTrace.map w = p.map w) ∧
      (∀ w, p.abortTrace.driverFault w = p.driverFault w) ∧ p.abortTrace.lines.safe = p.lines.safe ∧
      p.abortTrace.lines.dflt = p.lines.dflt ∧ p.abortTrace.lines.mode = p.lines.mode ∧
      p.abortTrace.journal.write = p.journal.write ∧ p.abortTrace.journal.read = p.journal.read ∧
      p.abortTrace.journal.alarm = p.journal.alarm ∧ p.abortTrace.journal.threshold = p.journal.threshold ∧
      p.abortTrace.journal.attn = p.journal.attn := by
  unfold Part.abortTrace; (try dsimp only); (repeat' split) <;> simp

/-- The units abortSearch leaves alone. -/
@[simp] theorem abortSearch_units (p : Part)  :
    p.abortSearch.bridge = p.bridge ∧ p.abortSearch.port = p.port ∧ p.abortSearch.timer = p.timer ∧
      p.abortSearch.pairing = p.pairing ∧ p.abortSearch.maps = p.maps ∧ p.abortSearch.setup = p.setup ∧
      p.abortSearch.waitCount = p.waitCount ∧ p.abortSearch.fresh = p.fresh ∧ (∀ w, p.abortSearch.map w = p.map w) ∧
      (∀ w, p.abortSearch.driverFault w = p.driverFault w) ∧ p.abortSearch.lines.safe = p.lines.safe ∧
      p.abortSearch.lines.dflt = p.lines.dflt ∧ p.abortSearch.lines.mode = p.lines.mode ∧
      p.abortSearch.journal.write = p.journal.write ∧ p.abortSearch.journal.read = p.journal.read ∧
      p.abortSearch.journal.alarm = p.journal.alarm ∧ p.abortSearch.journal.threshold = p.journal.threshold ∧
      p.abortSearch.journal.attn = p.journal.attn := by
  unfold Part.abortSearch; (try dsimp only); (repeat' split) <;> simp

/-- The units abortFor leaves alone. -/
@[simp] theorem abortFor_units (p : Part) (v : ValveId) :
    (p.abortFor v).bridge = p.bridge ∧ (p.abortFor v).port = p.port ∧ (p.abortFor v).timer = p.timer ∧
      (p.abortFor v).pairing = p.pairing ∧ (p.abortFor v).maps = p.maps ∧ (p.abortFor v).setup = p.setup ∧
      (p.abortFor v).waitCount = p.waitCount ∧ (p.abortFor v).fresh = p.fresh ∧
      (∀ w, (p.abortFor v).map w = p.map w) ∧ (∀ w, (p.abortFor v).driverFault w = p.driverFault w) ∧
      (p.abortFor v).lines.safe = p.lines.safe ∧ (p.abortFor v).lines.dflt = p.lines.dflt ∧
      (p.abortFor v).lines.mode = p.lines.mode ∧ (p.abortFor v).journal.write = p.journal.write ∧
      (p.abortFor v).journal.read = p.journal.read ∧ (p.abortFor v).journal.alarm = p.journal.alarm ∧
      (p.abortFor v).journal.threshold = p.journal.threshold ∧ (p.abortFor v).journal.attn = p.journal.attn := by
  unfold Part.abortFor; (try dsimp only); (repeat' split) <;> simp

/-- The units stopChannel leaves alone. -/
@[simp] theorem stopChannel_units (p : Part) (v : ValveId) (st : ChannelState) :
    (p.stopChannel v st).bridge = p.bridge ∧ (p.stopChannel v st).port = p.port ∧
      (p.stopChannel v st).timer = p.timer ∧ (p.stopChannel v st).pairing = p.pairing ∧
      (p.stopChannel v st).maps = p.maps ∧ (p.stopChannel v st).setup = p.setup ∧
      (p.stopChannel v st).waitCount = p.waitCount ∧ (p.stopChannel v st).fresh = p.fresh ∧
      (∀ w, (p.stopChannel v st).map w = p.map w) ∧ (∀ w, (p.stopChannel v st).driverFault w = p.driverFault w) ∧
      (p.stopChannel v st).lines.safe = p.lines.safe ∧ (p.stopChannel v st).lines.dflt = p.lines.dflt ∧
      (p.stopChannel v st).lines.mode = p.lines.mode ∧ (p.stopChannel v st).journal.write = p.journal.write ∧
      (p.stopChannel v st).journal.read = p.journal.read ∧ (p.stopChannel v st).journal.alarm = p.journal.alarm ∧
      (p.stopChannel v st).journal.threshold = p.journal.threshold ∧
      (p.stopChannel v st).journal.attn = p.journal.attn := by
  unfold Part.stopChannel; (try dsimp only); (repeat' split) <;> simp

/-- The units enterTrack leaves alone. -/
@[simp] theorem enterTrack_units (p : Part) (v : ValveId) :
    (p.enterTrack v).bridge = p.bridge ∧ (p.enterTrack v).port = p.port ∧ (p.enterTrack v).timer = p.timer ∧
      (p.enterTrack v).pairing = p.pairing ∧ (p.enterTrack v).maps = p.maps ∧ (p.enterTrack v).setup = p.setup ∧
      (p.enterTrack v).waitCount = p.waitCount ∧ (p.enterTrack v).fresh = p.fresh ∧
      (∀ w, (p.enterTrack v).map w = p.map w) ∧ (∀ w, (p.enterTrack v).driverFault w = p.driverFault w) ∧
      (p.enterTrack v).lines.safe = p.lines.safe ∧ (p.enterTrack v).lines.dflt = p.lines.dflt ∧
      (p.enterTrack v).lines.mode = p.lines.mode ∧ (p.enterTrack v).journal.write = p.journal.write ∧
      (p.enterTrack v).journal.read = p.journal.read ∧ (p.enterTrack v).journal.alarm = p.journal.alarm ∧
      (p.enterTrack v).journal.threshold = p.journal.threshold ∧ (p.enterTrack v).journal.attn = p.journal.attn := by
  unfold Part.enterTrack; (try dsimp only); (repeat' split) <;> simp

/-- The units enterFault leaves alone. -/
@[simp] theorem enterFault_units (p : Part) (v : ValveId) (cause : FaultCause) (n : Nat) :
    (p.enterFault v cause n).bridge = p.bridge ∧ (p.enterFault v cause n).port = p.port ∧
      (p.enterFault v cause n).timer = p.timer ∧ (p.enterFault v cause n).pairing = p.pairing ∧
      (p.enterFault v cause n).maps = p.maps ∧ (p.enterFault v cause n).setup = p.setup ∧
      (p.enterFault v cause n).waitCount = p.waitCount ∧ (p.enterFault v cause n).fresh = p.fresh ∧
      (∀ w, (p.enterFault v cause n).map w = p.map w) ∧
      (∀ w, (p.enterFault v cause n).driverFault w = p.driverFault w) ∧
      (p.enterFault v cause n).lines.safe = p.lines.safe ∧ (p.enterFault v cause n).lines.dflt = p.lines.dflt ∧
      (p.enterFault v cause n).lines.mode = p.lines.mode ∧ (p.enterFault v cause n).journal.write = p.journal.write ∧
      (p.enterFault v cause n).journal.read = p.journal.read ∧
      (p.enterFault v cause n).journal.alarm = p.journal.alarm ∧
      (p.enterFault v cause n).journal.threshold = p.journal.threshold ∧
      (p.enterFault v cause n).journal.attn = p.journal.attn := by
  unfold Part.enterFault; (try dsimp only); (repeat' split) <;> simp

/-- The units handChange leaves alone. -/
@[simp] theorem handChange_units (p : Part) (v : ValveId) (l : ChannelName) (cause : ChangeCause) :
    (p.handChange v l cause).bridge = p.bridge ∧ (p.handChange v l cause).port = p.port ∧
      (p.handChange v l cause).timer = p.timer ∧ (p.handChange v l cause).pairing = p.pairing ∧
      (p.handChange v l cause).maps = p.maps ∧ (p.handChange v l cause).setup = p.setup ∧
      (p.handChange v l cause).waitCount = p.waitCount ∧ (p.handChange v l cause).fresh = p.fresh ∧
      (∀ w, (p.handChange v l cause).map w = p.map w) ∧
      (∀ w, (p.handChange v l cause).driverFault w = p.driverFault w) ∧
      (p.handChange v l cause).lines.safe = p.lines.safe ∧ (p.handChange v l cause).lines.dflt = p.lines.dflt ∧
      (p.handChange v l cause).lines.mode = p.lines.mode ∧ (p.handChange v l cause).journal.write = p.journal.write ∧
      (p.handChange v l cause).journal.read = p.journal.read ∧
      (p.handChange v l cause).journal.alarm = p.journal.alarm ∧
      (p.handChange v l cause).journal.threshold = p.journal.threshold ∧
      (p.handChange v l cause).journal.attn = p.journal.attn := by
  unfold Part.handChange; (try dsimp only); (repeat' split) <;> simp

/-- The units setPrepare leaves alone. -/
@[simp] theorem setPrepare_units (p : Part) (v : ValveId) (q : Prepare) :
    (p.setPrepare v q).bridge = p.bridge ∧ (p.setPrepare v q).port = p.port ∧ (p.setPrepare v q).timer = p.timer ∧
      (p.setPrepare v q).pairing = p.pairing ∧ (p.setPrepare v q).maps = p.maps ∧ (p.setPrepare v q).setup = p.setup ∧
      (p.setPrepare v q).waitCount = p.waitCount ∧ (p.setPrepare v q).fresh = p.fresh ∧
      (∀ w, (p.setPrepare v q).map w = p.map w) ∧ (∀ w, (p.setPrepare v q).driverFault w = p.driverFault w) ∧
      (p.setPrepare v q).lines.safe = p.lines.safe ∧ (p.setPrepare v q).lines.dflt = p.lines.dflt ∧
      (p.setPrepare v q).lines.mode = p.lines.mode ∧ (p.setPrepare v q).journal.write = p.journal.write ∧
      (p.setPrepare v q).journal.read = p.journal.read ∧ (p.setPrepare v q).journal.alarm = p.journal.alarm ∧
      (p.setPrepare v q).journal.threshold = p.journal.threshold ∧ (p.setPrepare v q).journal.attn = p.journal.attn := by
  unfold Part.setPrepare; (try dsimp only); (repeat' split) <;> simp

/-- The units endMeasurement leaves alone. -/
@[simp] theorem endMeasurement_units (p : Part) (v : ValveId) (e i u : Nat) :
    (p.endMeasurement v e i u).bridge = p.bridge ∧ (p.endMeasurement v e i u).port = p.port ∧
      (p.endMeasurement v e i u).timer = p.timer ∧ (p.endMeasurement v e i u).pairing = p.pairing ∧
      (p.endMeasurement v e i u).maps = p.maps ∧ (p.endMeasurement v e i u).setup = p.setup ∧
      (p.endMeasurement v e i u).waitCount = p.waitCount ∧ (p.endMeasurement v e i u).fresh = p.fresh ∧
      (∀ w, (p.endMeasurement v e i u).map w = p.map w) ∧
      (∀ w, (p.endMeasurement v e i u).driverFault w = p.driverFault w) ∧
      (p.endMeasurement v e i u).lines.safe = p.lines.safe ∧ (p.endMeasurement v e i u).lines.dflt = p.lines.dflt ∧
      (p.endMeasurement v e i u).lines.mode = p.lines.mode ∧
      (p.endMeasurement v e i u).journal.write = p.journal.write ∧
      (p.endMeasurement v e i u).journal.read = p.journal.read ∧
      (p.endMeasurement v e i u).journal.alarm = p.journal.alarm ∧
      (p.endMeasurement v e i u).journal.threshold = p.journal.threshold ∧
      (p.endMeasurement v e i u).journal.attn = p.journal.attn := by
  unfold Part.endMeasurement; (try dsimp only); (repeat' split) <;> simp

/-- The units prepareSample leaves alone. -/
@[simp] theorem prepareSample_units (p : Part) (v : ValveId) (q : Prepare) (x : Sample) :
    (p.prepareSample v q x).bridge = p.bridge ∧ (p.prepareSample v q x).port = p.port ∧
      (p.prepareSample v q x).timer = p.timer ∧ (p.prepareSample v q x).pairing = p.pairing ∧
      (p.prepareSample v q x).maps = p.maps ∧ (p.prepareSample v q x).setup = p.setup ∧
      (p.prepareSample v q x).waitCount = p.waitCount ∧ (p.prepareSample v q x).fresh = p.fresh ∧
      (∀ w, (p.prepareSample v q x).map w = p.map w) ∧
      (∀ w, (p.prepareSample v q x).driverFault w = p.driverFault w) ∧
      (p.prepareSample v q x).lines.safe = p.lines.safe ∧ (p.prepareSample v q x).lines.dflt = p.lines.dflt ∧
      (p.prepareSample v q x).lines.mode = p.lines.mode ∧ (p.prepareSample v q x).journal.write = p.journal.write ∧
      (p.prepareSample v q x).journal.read = p.journal.read ∧
      (p.prepareSample v q x).journal.alarm = p.journal.alarm ∧
      (p.prepareSample v q x).journal.threshold = p.journal.threshold ∧
      (p.prepareSample v q x).journal.attn = p.journal.attn := by
  unfold Part.prepareSample; (try dsimp only); (repeat' split) <;> simp

/-- The units settleMiss leaves alone. -/
@[simp] theorem settleMiss_units (p : Part) (v : ValveId) :
    (p.settleMiss v).bridge = p.bridge ∧ (p.settleMiss v).port = p.port ∧ (p.settleMiss v).timer = p.timer ∧
      (p.settleMiss v).pairing = p.pairing ∧ (p.settleMiss v).maps = p.maps ∧ (p.settleMiss v).setup = p.setup ∧
      (p.settleMiss v).waitCount = p.waitCount ∧ (p.settleMiss v).fresh = p.fresh ∧
      (∀ w, (p.settleMiss v).map w = p.map w) ∧ (∀ w, (p.settleMiss v).driverFault w = p.driverFault w) ∧
      (p.settleMiss v).lines.safe = p.lines.safe ∧ (p.settleMiss v).lines.dflt = p.lines.dflt ∧
      (p.settleMiss v).lines.mode = p.lines.mode ∧ (p.settleMiss v).journal.write = p.journal.write ∧
      (p.settleMiss v).journal.read = p.journal.read ∧ (p.settleMiss v).journal.alarm = p.journal.alarm ∧
      (p.settleMiss v).journal.threshold = p.journal.threshold ∧ (p.settleMiss v).journal.attn = p.journal.attn := by
  unfold Part.settleMiss; (try dsimp only); (repeat' split) <;> simp

/-- The units startSearch leaves alone. -/
@[simp] theorem startSearch_units (p : Part) (v : ValveId) (l : List ValveId) :
    (p.startSearch v l).bridge = p.bridge ∧ (p.startSearch v l).port = p.port ∧ (p.startSearch v l).timer = p.timer ∧
      (p.startSearch v l).pairing = p.pairing ∧ (p.startSearch v l).maps = p.maps ∧
      (p.startSearch v l).setup = p.setup ∧ (p.startSearch v l).waitCount = p.waitCount ∧
      (p.startSearch v l).fresh = p.fresh ∧ (∀ w, (p.startSearch v l).map w = p.map w) ∧
      (∀ w, (p.startSearch v l).driverFault w = p.driverFault w) ∧ (p.startSearch v l).lines.safe = p.lines.safe ∧
      (p.startSearch v l).lines.dflt = p.lines.dflt ∧ (p.startSearch v l).lines.mode = p.lines.mode ∧
      (p.startSearch v l).journal.write = p.journal.write ∧ (p.startSearch v l).journal.read = p.journal.read ∧
      (p.startSearch v l).journal.alarm = p.journal.alarm ∧
      (p.startSearch v l).journal.threshold = p.journal.threshold ∧ (p.startSearch v l).journal.attn = p.journal.attn := by
  unfold Part.startSearch; (try dsimp only); (repeat' split) <;> simp

/-- The units look leaves alone. -/
@[simp] theorem look_units (p : Part)  :
    p.look.bridge = p.bridge ∧ p.look.port = p.port ∧ p.look.timer = p.timer ∧ p.look.pairing = p.pairing ∧
      p.look.maps = p.maps ∧ p.look.setup = p.setup ∧ p.look.waitCount = p.waitCount ∧ p.look.fresh = p.fresh ∧
      (∀ w, p.look.map w = p.map w) ∧ (∀ w, p.look.driverFault w = p.driverFault w) ∧
      p.look.lines.safe = p.lines.safe ∧ p.look.lines.dflt = p.lines.dflt ∧ p.look.lines.mode = p.lines.mode ∧
      p.look.journal.write = p.journal.write ∧ p.look.journal.read = p.journal.read ∧
      p.look.journal.alarm = p.journal.alarm ∧ p.look.journal.threshold = p.journal.threshold ∧
      p.look.journal.attn = p.journal.attn := by
  unfold Part.look; (try dsimp only); (repeat' split) <;> simp

/-- The units levelLook leaves alone. -/
@[simp] theorem levelLook_units (p : Part) (v : ValveId) :
    (p.levelLook v).bridge = p.bridge ∧ (p.levelLook v).port = p.port ∧ (p.levelLook v).timer = p.timer ∧
      (p.levelLook v).pairing = p.pairing ∧
      (p.levelLook v).maps = p.maps ∧ (p.levelLook v).setup = p.setup ∧ (p.levelLook v).waitCount = p.waitCount ∧
      (p.levelLook v).fresh = p.fresh ∧
      (∀ w, (p.levelLook v).map w = p.map w) ∧ (∀ w, (p.levelLook v).driverFault w = p.driverFault w) ∧
      (p.levelLook v).lines.safe = p.lines.safe ∧ (p.levelLook v).lines.dflt = p.lines.dflt ∧
      (p.levelLook v).lines.mode = p.lines.mode ∧
      (p.levelLook v).journal.write = p.journal.write ∧ (p.levelLook v).journal.read = p.journal.read ∧
      (p.levelLook v).journal.alarm = p.journal.alarm ∧
      (p.levelLook v).journal.threshold = p.journal.threshold ∧
      (p.levelLook v).journal.attn = p.journal.attn := by
  unfold Part.levelLook; (try dsimp only); (repeat' split) <;> simp

/-- The units evaluateLevel leaves alone. -/
@[simp] theorem evaluateLevel_units (p : Part) (v : ValveId) :
    (p.evaluateLevel v).bridge = p.bridge ∧ (p.evaluateLevel v).port = p.port ∧ (p.evaluateLevel v).timer = p.timer ∧
      (p.evaluateLevel v).pairing = p.pairing ∧ (p.evaluateLevel v).maps = p.maps ∧
      (p.evaluateLevel v).setup = p.setup ∧ (p.evaluateLevel v).waitCount = p.waitCount ∧
      (p.evaluateLevel v).fresh = p.fresh ∧ (∀ w, (p.evaluateLevel v).map w = p.map w) ∧
      (∀ w, (p.evaluateLevel v).driverFault w = p.driverFault w) ∧ (p.evaluateLevel v).lines.safe = p.lines.safe ∧
      (p.evaluateLevel v).lines.dflt = p.lines.dflt ∧ (p.evaluateLevel v).lines.mode = p.lines.mode ∧
      (p.evaluateLevel v).journal.write = p.journal.write ∧ (p.evaluateLevel v).journal.read = p.journal.read ∧
      (p.evaluateLevel v).journal.alarm = p.journal.alarm ∧
      (p.evaluateLevel v).journal.threshold = p.journal.threshold ∧ (p.evaluateLevel v).journal.attn = p.journal.attn := by
  unfold Part.evaluateLevel; (try dsimp only); (repeat' split) <;> simp

/-- The units heatUpdate leaves alone. -/
@[simp] theorem heatUpdate_units (p : Part) (v : ValveId) :
    (p.heatUpdate v).bridge = p.bridge ∧ (p.heatUpdate v).port = p.port ∧ (p.heatUpdate v).timer = p.timer ∧
      (p.heatUpdate v).pairing = p.pairing ∧ (p.heatUpdate v).maps = p.maps ∧ (p.heatUpdate v).setup = p.setup ∧
      (p.heatUpdate v).waitCount = p.waitCount ∧ (p.heatUpdate v).fresh = p.fresh ∧
      (∀ w, (p.heatUpdate v).map w = p.map w) ∧ (∀ w, (p.heatUpdate v).driverFault w = p.driverFault w) ∧
      (p.heatUpdate v).lines.safe = p.lines.safe ∧ (p.heatUpdate v).lines.dflt = p.lines.dflt ∧
      (p.heatUpdate v).lines.mode = p.lines.mode ∧ (p.heatUpdate v).journal.write = p.journal.write ∧
      (p.heatUpdate v).journal.read = p.journal.read ∧ (p.heatUpdate v).journal.alarm = p.journal.alarm ∧
      (p.heatUpdate v).journal.threshold = p.journal.threshold ∧ (p.heatUpdate v).journal.attn = p.journal.attn := by
  unfold Part.heatUpdate; (try dsimp only); (repeat' split) <;> simp

/-- The units enterWaiting leaves alone. -/
@[simp] theorem enterWaiting_units (p : Part) (v : ValveId) :
    (p.enterWaiting v).bridge = p.bridge ∧ (p.enterWaiting v).port = p.port ∧ (p.enterWaiting v).timer = p.timer ∧
      (p.enterWaiting v).pairing = p.pairing ∧ (p.enterWaiting v).maps = p.maps ∧ (p.enterWaiting v).setup = p.setup ∧
      (p.enterWaiting v).waitCount = p.waitCount ∧ (p.enterWaiting v).fresh = p.fresh ∧
      (∀ w, (p.enterWaiting v).map w = p.map w) ∧ (∀ w, (p.enterWaiting v).driverFault w = p.driverFault w) ∧
      (p.enterWaiting v).lines.safe = p.lines.safe ∧ (p.enterWaiting v).lines.dflt = p.lines.dflt ∧
      (p.enterWaiting v).lines.mode = p.lines.mode ∧ (p.enterWaiting v).journal.write = p.journal.write ∧
      (p.enterWaiting v).journal.read = p.journal.read ∧ (p.enterWaiting v).journal.alarm = p.journal.alarm ∧
      (p.enterWaiting v).journal.threshold = p.journal.threshold ∧ (p.enterWaiting v).journal.attn = p.journal.attn := by
  unfold Part.enterWaiting; (try dsimp only); (repeat' split) <;> simp

/-- The units endPrepare leaves alone. -/
@[simp] theorem endPrepare_units (p : Part) (v : ValveId) (r : Nat) :
    (p.endPrepare v r).bridge = p.bridge ∧ (p.endPrepare v r).port = p.port ∧ (p.endPrepare v r).timer = p.timer ∧
      (p.endPrepare v r).pairing = p.pairing ∧ (p.endPrepare v r).maps = p.maps ∧ (p.endPrepare v r).setup = p.setup ∧
      (p.endPrepare v r).waitCount = p.waitCount ∧ (p.endPrepare v r).fresh = p.fresh ∧
      (∀ w, (p.endPrepare v r).map w = p.map w) ∧ (∀ w, (p.endPrepare v r).driverFault w = p.driverFault w) ∧
      (p.endPrepare v r).lines.safe = p.lines.safe ∧ (p.endPrepare v r).lines.dflt = p.lines.dflt ∧
      (p.endPrepare v r).lines.mode = p.lines.mode ∧ (p.endPrepare v r).journal.write = p.journal.write ∧
      (p.endPrepare v r).journal.read = p.journal.read ∧ (p.endPrepare v r).journal.alarm = p.journal.alarm ∧
      (p.endPrepare v r).journal.threshold = p.journal.threshold ∧ (p.endPrepare v r).journal.attn = p.journal.attn := by
  unfold Part.endPrepare; (try dsimp only); (repeat' split) <;> simp

/-- The units trialTrigger leaves alone. -/
@[simp] theorem trialTrigger_units (p : Part) (h : Search) :
    (p.trialTrigger h).bridge = p.bridge ∧ (p.trialTrigger h).port = p.port ∧ (p.trialTrigger h).timer = p.timer ∧
      (p.trialTrigger h).pairing = p.pairing ∧ (p.trialTrigger h).maps = p.maps ∧ (p.trialTrigger h).setup = p.setup ∧
      (p.trialTrigger h).waitCount = p.waitCount ∧ (p.trialTrigger h).fresh = p.fresh ∧
      (∀ w, (p.trialTrigger h).map w = p.map w) ∧ (∀ w, (p.trialTrigger h).driverFault w = p.driverFault w) ∧
      (p.trialTrigger h).lines.safe = p.lines.safe ∧ (p.trialTrigger h).lines.dflt = p.lines.dflt ∧
      (p.trialTrigger h).lines.mode = p.lines.mode ∧ (p.trialTrigger h).journal.write = p.journal.write ∧
      (p.trialTrigger h).journal.read = p.journal.read ∧ (p.trialTrigger h).journal.alarm = p.journal.alarm ∧
      (p.trialTrigger h).journal.threshold = p.journal.threshold ∧ (p.trialTrigger h).journal.attn = p.journal.attn := by
  unfold Part.trialTrigger; (try dsimp only); (repeat' split) <;> simp

/-- The units stepTrial leaves alone. -/
@[simp] theorem stepTrial_units (p : Part) (h : Search) :
    (p.stepTrial h).bridge = p.bridge ∧ (p.stepTrial h).port = p.port ∧ (p.stepTrial h).timer = p.timer ∧
      (p.stepTrial h).pairing = p.pairing ∧ (p.stepTrial h).maps = p.maps ∧ (p.stepTrial h).setup = p.setup ∧
      (p.stepTrial h).waitCount = p.waitCount ∧ (p.stepTrial h).fresh = p.fresh ∧
      (∀ w, (p.stepTrial h).map w = p.map w) ∧ (∀ w, (p.stepTrial h).driverFault w = p.driverFault w) ∧
      (p.stepTrial h).lines.safe = p.lines.safe ∧ (p.stepTrial h).lines.dflt = p.lines.dflt ∧
      (p.stepTrial h).lines.mode = p.lines.mode ∧ (p.stepTrial h).journal.write = p.journal.write ∧
      (p.stepTrial h).journal.read = p.journal.read ∧ (p.stepTrial h).journal.alarm = p.journal.alarm ∧
      (p.stepTrial h).journal.threshold = p.journal.threshold ∧ (p.stepTrial h).journal.attn = p.journal.attn := by
  unfold Part.stepTrial; (try dsimp only); (repeat' split) <;> simp

/-- The units nextTrial leaves alone. -/
@[simp] theorem nextTrial_units (p : Part) (h : Search) (b : Option BestTrial) :
    (p.nextTrial h b).bridge = p.bridge ∧ (p.nextTrial h b).port = p.port ∧ (p.nextTrial h b).timer = p.timer ∧
      (p.nextTrial h b).pairing = p.pairing ∧ (p.nextTrial h b).maps = p.maps ∧ (p.nextTrial h b).setup = p.setup ∧
      (p.nextTrial h b).waitCount = p.waitCount ∧ (p.nextTrial h b).fresh = p.fresh ∧
      (∀ w, (p.nextTrial h b).map w = p.map w) ∧ (∀ w, (p.nextTrial h b).driverFault w = p.driverFault w) ∧
      (p.nextTrial h b).lines.safe = p.lines.safe ∧ (p.nextTrial h b).lines.dflt = p.lines.dflt ∧
      (p.nextTrial h b).lines.mode = p.lines.mode ∧ (p.nextTrial h b).journal.write = p.journal.write ∧
      (p.nextTrial h b).journal.read = p.journal.read ∧ (p.nextTrial h b).journal.alarm = p.journal.alarm ∧
      (p.nextTrial h b).journal.threshold = p.journal.threshold ∧ (p.nextTrial h b).journal.attn = p.journal.attn := by
  unfold Part.nextTrial; (try dsimp only); (repeat' split) <;> simp

/-- The units completeSearch leaves alone. -/
@[simp] theorem completeSearch_units (p : Part) (h : Search) (b : Option BestTrial) :
    (p.completeSearch h b).bridge = p.bridge ∧ (p.completeSearch h b).port = p.port ∧
      (p.completeSearch h b).timer = p.timer ∧ (p.completeSearch h b).pairing = p.pairing ∧
      (p.completeSearch h b).maps = p.maps ∧ (p.completeSearch h b).setup = p.setup ∧
      (p.completeSearch h b).waitCount = p.waitCount ∧ (p.completeSearch h b).fresh = p.fresh ∧
      (∀ w, (p.completeSearch h b).map w = p.map w) ∧ (∀ w, (p.completeSearch h b).driverFault w = p.driverFault w) ∧
      (p.completeSearch h b).lines.safe = p.lines.safe ∧ (p.completeSearch h b).lines.dflt = p.lines.dflt ∧
      (p.completeSearch h b).lines.mode = p.lines.mode ∧ (p.completeSearch h b).journal.write = p.journal.write ∧
      (p.completeSearch h b).journal.read = p.journal.read ∧ (p.completeSearch h b).journal.alarm = p.journal.alarm ∧
      (p.completeSearch h b).journal.threshold = p.journal.threshold ∧
      (p.completeSearch h b).journal.attn = p.journal.attn := by
  unfold Part.completeSearch; (try dsimp only); (repeat' split) <;> simp

/-- The units completeTrace leaves alone. -/
@[simp] theorem completeTrace_units (p : Part)  :
    p.completeTrace.bridge = p.bridge ∧ p.completeTrace.port = p.port ∧ p.completeTrace.timer = p.timer ∧
      p.completeTrace.pairing = p.pairing ∧ p.completeTrace.maps = p.maps ∧ p.completeTrace.setup = p.setup ∧
      p.completeTrace.waitCount = p.waitCount ∧ p.completeTrace.fresh = p.fresh ∧
      (∀ w, p.completeTrace.map w = p.map w) ∧ (∀ w, p.completeTrace.driverFault w = p.driverFault w) ∧
      p.completeTrace.lines.safe = p.lines.safe ∧ p.completeTrace.lines.dflt = p.lines.dflt ∧
      p.completeTrace.lines.mode = p.lines.mode ∧ p.completeTrace.journal.write = p.journal.write ∧
      p.completeTrace.journal.read = p.journal.read ∧ p.completeTrace.journal.alarm = p.journal.alarm ∧
      p.completeTrace.journal.threshold = p.journal.threshold ∧ p.completeTrace.journal.attn = p.journal.attn := by
  unfold Part.completeTrace; (try dsimp only); (repeat' split) <;> simp

/-- The units endTrial leaves alone. -/
@[simp] theorem endTrial_units (p : Part) (h : Search) :
    (p.endTrial h).bridge = p.bridge ∧ (p.endTrial h).port = p.port ∧ (p.endTrial h).timer = p.timer ∧
      (p.endTrial h).pairing = p.pairing ∧ (p.endTrial h).maps = p.maps ∧ (p.endTrial h).setup = p.setup ∧
      (p.endTrial h).waitCount = p.waitCount ∧ (p.endTrial h).fresh = p.fresh ∧
      (∀ w, (p.endTrial h).map w = p.map w) ∧ (∀ w, (p.endTrial h).driverFault w = p.driverFault w) ∧
      (p.endTrial h).lines.safe = p.lines.safe ∧ (p.endTrial h).lines.dflt = p.lines.dflt ∧
      (p.endTrial h).lines.mode = p.lines.mode ∧ (p.endTrial h).journal.write = p.journal.write ∧
      (p.endTrial h).journal.read = p.journal.read ∧ (p.endTrial h).journal.alarm = p.journal.alarm ∧
      (p.endTrial h).journal.threshold = p.journal.threshold ∧ (p.endTrial h).journal.attn = p.journal.attn := by
  unfold Part.endTrial; (try dsimp only); (repeat' split) <;> simp

/-- The units searchSample leaves alone. -/
@[simp] theorem searchSample_units (p : Part) (h : Search) (x : Sample) :
    (p.searchSample h x).bridge = p.bridge ∧ (p.searchSample h x).port = p.port ∧
      (p.searchSample h x).timer = p.timer ∧ (p.searchSample h x).pairing = p.pairing ∧
      (p.searchSample h x).maps = p.maps ∧ (p.searchSample h x).setup = p.setup ∧
      (p.searchSample h x).waitCount = p.waitCount ∧ (p.searchSample h x).fresh = p.fresh ∧
      (∀ w, (p.searchSample h x).map w = p.map w) ∧ (∀ w, (p.searchSample h x).driverFault w = p.driverFault w) ∧
      (p.searchSample h x).lines.safe = p.lines.safe ∧ (p.searchSample h x).lines.dflt = p.lines.dflt ∧
      (p.searchSample h x).lines.mode = p.lines.mode ∧ (p.searchSample h x).journal.write = p.journal.write ∧
      (p.searchSample h x).journal.read = p.journal.read ∧ (p.searchSample h x).journal.alarm = p.journal.alarm ∧
      (p.searchSample h x).journal.threshold = p.journal.threshold ∧
      (p.searchSample h x).journal.attn = p.journal.attn := by
  unfold Part.searchSample; (try dsimp only); (repeat' split) <;> simp

/-- The units endCapture leaves alone. -/
@[simp] theorem endCapture_units (p : Part)  :
    p.endCapture.bridge = p.bridge ∧ p.endCapture.port = p.port ∧ p.endCapture.timer = p.timer ∧
      p.endCapture.pairing = p.pairing ∧ p.endCapture.maps = p.maps ∧ p.endCapture.setup = p.setup ∧
      p.endCapture.waitCount = p.waitCount ∧ p.endCapture.fresh = p.fresh ∧ (∀ w, p.endCapture.map w = p.map w) ∧
      (∀ w, p.endCapture.driverFault w = p.driverFault w) ∧ p.endCapture.lines.safe = p.lines.safe ∧
      p.endCapture.lines.dflt = p.lines.dflt ∧ p.endCapture.lines.mode = p.lines.mode ∧
      p.endCapture.journal.write = p.journal.write ∧ p.endCapture.journal.read = p.journal.read ∧
      p.endCapture.journal.alarm = p.journal.alarm ∧ p.endCapture.journal.threshold = p.journal.threshold ∧
      p.endCapture.journal.attn = p.journal.attn := by
  unfold Part.endCapture; (try dsimp only); (repeat' split) <;> simp

/-- The units captureSample leaves alone. -/
@[simp] theorem captureSample_units (p : Part) (v : ValveId) (x : Sample) :
    (p.captureSample v x).bridge = p.bridge ∧ (p.captureSample v x).port = p.port ∧
      (p.captureSample v x).timer = p.timer ∧ (p.captureSample v x).pairing = p.pairing ∧
      (p.captureSample v x).maps = p.maps ∧ (p.captureSample v x).setup = p.setup ∧
      (p.captureSample v x).waitCount = p.waitCount ∧ (p.captureSample v x).fresh = p.fresh ∧
      (∀ w, (p.captureSample v x).map w = p.map w) ∧ (∀ w, (p.captureSample v x).driverFault w = p.driverFault w) ∧
      (p.captureSample v x).lines.safe = p.lines.safe ∧ (p.captureSample v x).lines.dflt = p.lines.dflt ∧
      (p.captureSample v x).lines.mode = p.lines.mode ∧ (p.captureSample v x).journal.write = p.journal.write ∧
      (p.captureSample v x).journal.read = p.journal.read ∧ (p.captureSample v x).journal.alarm = p.journal.alarm ∧
      (p.captureSample v x).journal.threshold = p.journal.threshold ∧
      (p.captureSample v x).journal.attn = p.journal.attn := by
  unfold Part.captureSample; (try dsimp only); (repeat' split) <;> simp

/-- The units trackSample leaves alone. -/
@[simp] theorem trackSample_units (p : Part) (v : ValveId) (x : Sample) :
    (p.trackSample v x).bridge = p.bridge ∧ (p.trackSample v x).port = p.port ∧ (p.trackSample v x).timer = p.timer ∧
      (p.trackSample v x).pairing = p.pairing ∧ (p.trackSample v x).maps = p.maps ∧
      (p.trackSample v x).setup = p.setup ∧ (p.trackSample v x).waitCount = p.waitCount ∧
      (p.trackSample v x).fresh = p.fresh ∧ (∀ w, (p.trackSample v x).map w = p.map w) ∧
      (∀ w, (p.trackSample v x).driverFault w = p.driverFault w) ∧ (p.trackSample v x).lines.safe = p.lines.safe ∧
      (p.trackSample v x).lines.dflt = p.lines.dflt ∧ (p.trackSample v x).lines.mode = p.lines.mode ∧
      (p.trackSample v x).journal.write = p.journal.write ∧ (p.trackSample v x).journal.read = p.journal.read ∧
      (p.trackSample v x).journal.alarm = p.journal.alarm ∧
      (p.trackSample v x).journal.threshold = p.journal.threshold ∧ (p.trackSample v x).journal.attn = p.journal.attn := by
  unfold Part.trackSample; (try dsimp only); (repeat' split) <;> simp

/-- The units takeSample leaves alone. -/
@[simp] theorem takeSample_units (p : Part) (v : ValveId) (x : Sample) :
    (p.takeSample v x).bridge = p.bridge ∧ (p.takeSample v x).port = p.port ∧ (p.takeSample v x).timer = p.timer ∧
      (p.takeSample v x).pairing = p.pairing ∧ (p.takeSample v x).maps = p.maps ∧ (p.takeSample v x).setup = p.setup ∧
      (p.takeSample v x).waitCount = p.waitCount ∧ (p.takeSample v x).fresh = p.fresh ∧
      (∀ w, (p.takeSample v x).map w = p.map w) ∧ (∀ w, (p.takeSample v x).driverFault w = p.driverFault w) ∧
      (p.takeSample v x).lines.safe = p.lines.safe ∧ (p.takeSample v x).lines.dflt = p.lines.dflt ∧
      (p.takeSample v x).lines.mode = p.lines.mode ∧ (p.takeSample v x).journal.write = p.journal.write ∧
      (p.takeSample v x).journal.read = p.journal.read ∧ (p.takeSample v x).journal.alarm = p.journal.alarm ∧
      (p.takeSample v x).journal.threshold = p.journal.threshold ∧ (p.takeSample v x).journal.attn = p.journal.attn := by
  unfold Part.takeSample; (try dsimp only); (repeat' split) <;> simp

/-- The units safeChannel leaves alone. -/
@[simp] theorem safeChannel_units (p : Part) (v : ValveId) :
    (p.safeChannel v).bridge = p.bridge ∧ (p.safeChannel v).port = p.port ∧ (p.safeChannel v).timer = p.timer ∧
      (p.safeChannel v).pairing = p.pairing ∧ (p.safeChannel v).maps = p.maps ∧ (p.safeChannel v).setup = p.setup ∧
      (p.safeChannel v).waitCount = p.waitCount ∧ (p.safeChannel v).fresh = p.fresh ∧
      (∀ w, (p.safeChannel v).map w = p.map w) ∧ (∀ w, (p.safeChannel v).driverFault w = p.driverFault w) ∧
      (p.safeChannel v).lines.safe = p.lines.safe ∧ (p.safeChannel v).lines.dflt = p.lines.dflt ∧
      (p.safeChannel v).lines.mode = p.lines.mode ∧ (p.safeChannel v).journal.write = p.journal.write ∧
      (p.safeChannel v).journal.read = p.journal.read ∧ (p.safeChannel v).journal.alarm = p.journal.alarm ∧
      (p.safeChannel v).journal.threshold = p.journal.threshold ∧ (p.safeChannel v).journal.attn = p.journal.attn := by
  unfold Part.safeChannel; (try dsimp only); (repeat' split) <;> simp

/-- The units safeBlock leaves alone. -/
@[simp] theorem safeBlock_units (p : Part) (b : CornerId ⊕ ValveId) :
    (p.safeBlock b).bridge = p.bridge ∧ (p.safeBlock b).port = p.port ∧ (p.safeBlock b).timer = p.timer ∧
      (p.safeBlock b).pairing = p.pairing ∧ (p.safeBlock b).maps = p.maps ∧ (p.safeBlock b).setup = p.setup ∧
      (p.safeBlock b).waitCount = p.waitCount ∧ (p.safeBlock b).fresh = p.fresh ∧
      (∀ w, (p.safeBlock b).map w = p.map w) ∧ (∀ w, (p.safeBlock b).driverFault w = p.driverFault w) ∧
      (p.safeBlock b).lines.safe = p.lines.safe ∧ (p.safeBlock b).lines.dflt = p.lines.dflt ∧
      (p.safeBlock b).lines.mode = p.lines.mode ∧ (p.safeBlock b).journal.write = p.journal.write ∧
      (p.safeBlock b).journal.read = p.journal.read ∧ (p.safeBlock b).journal.alarm = p.journal.alarm ∧
      (p.safeBlock b).journal.threshold = p.journal.threshold ∧ (p.safeBlock b).journal.attn = p.journal.attn := by
  cases b <;> simp [Part.safeBlock]

end Sys2Proof.Machine
end

