-- ==== Sys2Proof/Laws/Memory.lean ====
section
/-! SUPPORT. Memory: what a read gives after a write, and that every write keeps the canonical form. -/

namespace Sys2Proof.Machine

variable {α : Type} [DecidableEq α]

/-! ### Cells -/

/-- A larger bound below is the stronger canonical form. -/
theorem Cells.wfAbove_mono {d : α} : ∀ {l : List (Nat × α)} {low high : Option Nat},
    (∀ b, low = some b → ∃ c, high = some c ∧ b ≤ c) → Cells.wfAbove d high l = true → Cells.wfAbove d low l = true
  | [], _, _, _, _ => rfl
  | (k, x) :: t, low, high, h, w => by
    simp only [Cells.wfAbove, Bool.and_eq_true] at w ⊢
    refine ⟨⟨?_, w.1.2⟩, w.2⟩
    cases low with
    | none => simp
    | some b =>
      obtain ⟨c, hc, hbc⟩ := h b rfl
      have hw := w.1.1
      subst hc
      simp only [Option.all_some, decide_eq_true_eq] at hw ⊢
      omega

theorem Cells.wfAbove_weaken {d : α} {l : List (Nat × α)} {k : Nat} {low : Option Nat}
    (h : low.all (fun b => decide (b < k)) = true) (w : Cells.wfAbove d (some k) l = true) :
    Cells.wfAbove d low l = true := by
  refine Cells.wfAbove_mono ?_ w
  intro b hb
  subst hb
  exact ⟨k, rfl, by simp at h; omega⟩

/-- A write keeps the canonical form above a bound that lies below the address. -/
theorem Cells.wfAbove_set (d : α) : ∀ (l : List (Nat × α)) (low : Option Nat) (a : Nat) (x : α),
    low.all (fun b => decide (b < a)) = true → Cells.wfAbove d low l = true →
    Cells.wfAbove d low (Cells.set d l a x) = true
  | [], low, a, x, hl, _ => by
    unfold Cells.set
    split <;> simp_all [Cells.wfAbove]
  | (k, y) :: t, low, a, x, hl, w => by
    have w' := w
    simp only [Cells.wfAbove, Bool.and_eq_true] at w'
    unfold Cells.set
    split
    · rename_i hak
      split
      · exact w
      · simp only [Cells.wfAbove, Bool.and_eq_true]
        refine ⟨⟨hl, by simpa⟩, ⟨⟨by simpa, w'.1.2⟩, w'.2⟩⟩
    · rename_i hak
      split
      · rename_i hk
        split
        · exact Cells.wfAbove_weaken w'.1.1 w'.2
        · simp only [Cells.wfAbove, Bool.and_eq_true]
          subst hk
          exact ⟨⟨hl, by simpa⟩, w'.2⟩
      · rename_i hk
        simp only [Cells.wfAbove, Bool.and_eq_true]
        exact ⟨w'.1, Cells.wfAbove_set d t (some k) a x (by simp; omega) w'.2⟩

/-- Below every listed address a canonical list reads as unlisted. -/
theorem Cells.get_below (d : α) : ∀ (l : List (Nat × α)) (k a : Nat), Cells.wfAbove d (some k) l = true → a ≤ k →
    Cells.get d l a = d
  | [], _, _, _, _ => rfl
  | (j, y) :: t, k, a, w, h => by
    simp only [Cells.wfAbove, Bool.and_eq_true, Option.all_some, decide_eq_true_eq] at w
    have hj : j ≠ a := by omega
    simp only [Cells.get, hj, if_false]
    exact Cells.get_below d t j a w.2 (by omega)

/-- A read after a write, in a canonical list. -/
theorem Cells.get_set (d : α) : ∀ (l : List (Nat × α)) (low : Option Nat) (a b : Nat) (x : α),
    Cells.wfAbove d low l = true → Cells.get d (Cells.set d l a x) b = if b = a then x else Cells.get d l b
  | [], _, a, b, x, _ => by
    unfold Cells.set
    by_cases hb : b = a
    · subst hb; rw [if_pos rfl]; split_ifs with h <;> simp [Cells.get, h]
    · have hb' : a ≠ b := fun e => hb e.symm
      rw [if_neg hb]; split_ifs with h <;> simp [Cells.get, hb']
  | (k, y) :: t, low, a, b, x, w => by
    simp only [Cells.wfAbove, Bool.and_eq_true] at w
    unfold Cells.set
    by_cases hb : b = a
    · subst hb
      rw [if_pos rfl]
      split_ifs with h1 h2 h3 h4
      · have hk : k ≠ b := by omega
        simp only [Cells.get, hk, if_false]
        rw [h2]; exact Cells.get_below d t k b w.2 (by omega)
      · simp [Cells.get]
      · rw [h4]; exact Cells.get_below d t k b w.2 (by omega)
      · simp [Cells.get]
      · have hk : k ≠ b := by omega
        simp only [Cells.get, hk, if_false]
        rw [Cells.get_set d t (some k) b b x w.2, if_pos rfl]
    · have hb' : a ≠ b := fun e => hb e.symm
      rw [if_neg hb]
      split_ifs with h1 h2 h3 h4
      · rfl
      · simp [Cells.get, hb']
      · subst h3; simp [Cells.get, hb']
      · subst h3; simp [Cells.get, hb']
      · simp only [Cells.get]
        rw [Cells.get_set d t (some k) a b x w.2, if_neg hb]

/-! ### Bytes -/

omit [DecidableEq α] in
theorem Memory.wf_iff (m : Memory) :
    m.wf = true ↔ Cells.wfAbove Config.unlistedByte none m.bytes = true ∧
      Cells.wfAbove Config.unlistedParity none m.parity = true := by
  simp [Memory.wf]

/-- Writing a byte keeps the canonical form. -/
theorem Memory.wf_writeByte {m : Memory} (h : m.wf = true) (a : Nat) (b : Byte) (q : Bool) :
    (m.writeByte a b q).wf = true := by
  rw [Memory.wf_iff] at h ⊢
  exact ⟨Cells.wfAbove_set _ _ _ _ _ rfl h.1, Cells.wfAbove_set _ _ _ _ _ rfl h.2⟩

theorem Memory.byte_writeByte {m : Memory} (h : m.wf = true) (a c : Nat) (b : Byte) (q : Bool) :
    (m.writeByte a b q).byte c = if c = a then b else m.byte c :=
  Cells.get_set _ _ none _ _ _ ((Memory.wf_iff m).1 h).1

theorem Memory.parityBit_writeByte {m : Memory} (h : m.wf = true) (a c : Nat) (b : Byte) (q : Bool) :
    (m.writeByte a b q).parityBit c = if c = a then q else m.parityBit c :=
  Cells.get_set _ _ none _ _ _ ((Memory.wf_iff m).1 h).2

/-! ### Lanes and beats -/

theorem Memory.wf_writeLane {m : Memory} (h : m.wf = true) (base : Nat) (b : Beat) (k : Nat) :
    (m.writeLane base b k).wf = true := by
  unfold Memory.writeLane; split
  · exact Memory.wf_writeByte h _ _ _
  · exact h

/-- Writing a beat keeps the canonical form. -/
theorem Memory.wf_writeBeat {m : Memory} (h : m.wf = true) (base : Nat) (b : Beat) : (m.writeBeat base b).wf = true :=
  Memory.wf_writeLane (Memory.wf_writeLane (Memory.wf_writeLane (Memory.wf_writeLane h _ _ _) _ _ _) _ _ _) _ _ _

theorem Memory.byte_writeLane {m : Memory} (h : m.wf = true) (base : Nat) (b : Beat) (k c : Nat) :
    (m.writeLane base b k).byte c = if b.lanes.getLsbD k = true ∧ c = base + k then laneByte b.data k else m.byte c := by
  unfold Memory.writeLane; split
  · rename_i hk; simp [hk, Memory.byte_writeByte h]
  · rename_i hk; simp [hk]

theorem Memory.parityBit_writeLane {m : Memory} (h : m.wf = true) (base : Nat) (b : Beat) (k c : Nat) :
    (m.writeLane base b k).parityBit c =
      if b.lanes.getLsbD k = true ∧ c = base + k then b.parity.getLsbD k else m.parityBit c := by
  unfold Memory.writeLane; split
  · rename_i hk; simp [hk, Memory.parityBit_writeByte h]
  · rename_i hk; simp [hk]

/-- A byte outside the enabled lanes of a beat is left alone. -/
theorem Memory.byte_writeBeat_other {m : Memory} (h : m.wf = true) (base : Nat) (b : Beat) (c : Nat)
    (hc : ∀ k, k < 4 → b.lanes.getLsbD k = true → c ≠ base + k) : (m.writeBeat base b).byte c = m.byte c := by
  have h0 := Memory.wf_writeLane h base b 0
  have h1 := Memory.wf_writeLane h0 base b 1
  have h2 := Memory.wf_writeLane h1 base b 2
  unfold Memory.writeBeat
  rw [Memory.byte_writeLane h2, Memory.byte_writeLane h1, Memory.byte_writeLane h0, Memory.byte_writeLane h,
    if_neg (fun e => hc 3 (by omega) e.1 e.2), if_neg (fun e => hc 2 (by omega) e.1 e.2),
    if_neg (fun e => hc 1 (by omega) e.1 e.2), if_neg (fun e => hc 0 (by omega) e.1 e.2)]

theorem Memory.parityBit_writeBeat_other {m : Memory} (h : m.wf = true) (base : Nat) (b : Beat) (c : Nat)
    (hc : ∀ k, k < 4 → b.lanes.getLsbD k = true → c ≠ base + k) :
    (m.writeBeat base b).parityBit c = m.parityBit c := by
  have h0 := Memory.wf_writeLane h base b 0
  have h1 := Memory.wf_writeLane h0 base b 1
  have h2 := Memory.wf_writeLane h1 base b 2
  unfold Memory.writeBeat
  rw [Memory.parityBit_writeLane h2, Memory.parityBit_writeLane h1, Memory.parityBit_writeLane h0,
    Memory.parityBit_writeLane h, if_neg (fun e => hc 3 (by omega) e.1 e.2), if_neg (fun e => hc 2 (by omega) e.1 e.2),
    if_neg (fun e => hc 1 (by omega) e.1 e.2), if_neg (fun e => hc 0 (by omega) e.1 e.2)]

/-- An enabled lane of a beat reads as written. -/
theorem Memory.byte_writeBeat_lane {m : Memory} (h : m.wf = true) (base : Nat) (b : Beat) (k : Nat) (hk : k < 4)
    (hl : b.lanes.getLsbD k = true) : (m.writeBeat base b).byte (base + k) = laneByte b.data k := by
  have h0 := Memory.wf_writeLane h base b 0
  have h1 := Memory.wf_writeLane h0 base b 1
  have h2 := Memory.wf_writeLane h1 base b 2
  unfold Memory.writeBeat
  rw [Memory.byte_writeLane h2, Memory.byte_writeLane h1, Memory.byte_writeLane h0, Memory.byte_writeLane h]
  have hcases : k = 0 ∨ k = 1 ∨ k = 2 ∨ k = 3 := by omega
  rcases hcases with rfl | rfl | rfl | rfl <;> simp_all

theorem Memory.parityBit_writeBeat_lane {m : Memory} (h : m.wf = true) (base : Nat) (b : Beat) (k : Nat) (hk : k < 4)
    (hl : b.lanes.getLsbD k = true) : (m.writeBeat base b).parityBit (base + k) = b.parity.getLsbD k := by
  have h0 := Memory.wf_writeLane h base b 0
  have h1 := Memory.wf_writeLane h0 base b 1
  have h2 := Memory.wf_writeLane h1 base b 2
  unfold Memory.writeBeat
  rw [Memory.parityBit_writeLane h2, Memory.parityBit_writeLane h1, Memory.parityBit_writeLane h0,
    Memory.parityBit_writeLane h]
  have hcases : k = 0 ∨ k = 1 ∨ k = 2 ∨ k = 3 := by omega
  rcases hcases with rfl | rfl | rfl | rfl <;> simp_all

end Sys2Proof.Machine
end

