-- ==== Sys2Proof/Laws/Access.lean ====
section
/-! SUPPORT. The units that no captured write, no setup command and no publish notice touches: the Path Bridge and its
read port, the wait count, the sampled lines; and what a forwarded access does to the state. -/

set_option linter.unusedTactic false
set_option linter.unnecessarySeqFocus false
set_option linter.unreachableTactic false
set_option linter.unusedSimpArgs false

namespace Sys2Proof.Machine

/-! ### Slot Capture -/

/-- The units stageDemand leaves alone. -/
@[simp] theorem stageDemand_access (p : Part) (i : SlotId) (w : Nat) (b : Beat) (bad : Lanes) :
    (p.stageDemand i w b bad).bridge = p.bridge ∧ (p.stageDemand i w b bad).port = p.port ∧
      (p.stageDemand i w b bad).waitCount = p.waitCount ∧ (p.stageDemand i w b bad).fresh = p.fresh ∧
      (p.stageDemand i w b bad).lines.safe = p.lines.safe ∧ (p.stageDemand i w b bad).lines.dflt = p.lines.dflt := by
  unfold Part.stageDemand; (try dsimp only); (repeat' split) <;> simp

/-- The units stageUrgent leaves alone. -/
@[simp] theorem stageUrgent_access (p : Part) (c : CornerId) (w : Nat) (b : Beat) (bad : Lanes) :
    (p.stageUrgent c w b bad).bridge = p.bridge ∧ (p.stageUrgent c w b bad).port = p.port ∧
      (p.stageUrgent c w b bad).waitCount = p.waitCount ∧ (p.stageUrgent c w b bad).fresh = p.fresh ∧
      (p.stageUrgent c w b bad).lines.safe = p.lines.safe ∧ (p.stageUrgent c w b bad).lines.dflt = p.lines.dflt := by
  unfold Part.stageUrgent; (try dsimp only); (repeat' split) <;> simp

/-- The units queueHigh leaves alone. -/
@[simp] theorem queueHigh_access (p : Part) (c : CornerId) (m n : Nat) :
    (p.queueHigh c m n).bridge = p.bridge ∧ (p.queueHigh c m n).port = p.port ∧
      (p.queueHigh c m n).waitCount = p.waitCount ∧ (p.queueHigh c m n).fresh = p.fresh ∧
      (p.queueHigh c m n).lines.safe = p.lines.safe ∧ (p.queueHigh c m n).lines.dflt = p.lines.dflt := by
  unfold Part.queueHigh; (try dsimp only); (repeat' split) <;> simp

/-- The units takeDemand leaves alone. -/
@[simp] theorem takeDemand_access (p : Part) (i : SlotId) (r : DemandRecord) (sel : ValveSelect) :
    (p.takeDemand i r sel).bridge = p.bridge ∧ (p.takeDemand i r sel).port = p.port ∧
      (p.takeDemand i r sel).waitCount = p.waitCount ∧ (p.takeDemand i r sel).fresh = p.fresh ∧
      (p.takeDemand i r sel).lines.safe = p.lines.safe ∧ (p.takeDemand i r sel).lines.dflt = p.lines.dflt := by
  unfold Part.takeDemand; (try dsimp only); (repeat' split) <;> simp

/-- The units refuseDemand leaves alone. -/
@[simp] theorem refuseDemand_access (p : Part) (i : SlotId) (r : RefusalReason) (f : Frame) :
    (p.refuseDemand i r f).bridge = p.bridge ∧ (p.refuseDemand i r f).port = p.port ∧
      (p.refuseDemand i r f).waitCount = p.waitCount ∧ (p.refuseDemand i r f).fresh = p.fresh ∧
      (p.refuseDemand i r f).lines.safe = p.lines.safe ∧ (p.refuseDemand i r f).lines.dflt = p.lines.dflt := by
  unfold Part.refuseDemand; (try dsimp only); (repeat' split) <;> simp

/-- The units validateDemand leaves alone. -/
@[simp] theorem validateDemand_access (p : Part) (i : SlotId) (cw : ClosingWord) :
    (p.validateDemand i cw).bridge = p.bridge ∧ (p.validateDemand i cw).port = p.port ∧
      (p.validateDemand i cw).waitCount = p.waitCount ∧ (p.validateDemand i cw).fresh = p.fresh ∧
      (p.validateDemand i cw).lines.safe = p.lines.safe ∧ (p.validateDemand i cw).lines.dflt = p.lines.dflt := by
  unfold Part.validateDemand; (try dsimp only); (repeat' split) <;> simp

/-- The units closeDemand leaves alone. -/
@[simp] theorem closeDemand_access (p : Part) (i : SlotId) (cw : ClosingWord) :
    (p.closeDemand i cw).bridge = p.bridge ∧ (p.closeDemand i cw).port = p.port ∧
      (p.closeDemand i cw).waitCount = p.waitCount ∧ (p.closeDemand i cw).fresh = p.fresh ∧
      (p.closeDemand i cw).lines.safe = p.lines.safe ∧ (p.closeDemand i cw).lines.dflt = p.lines.dflt := by
  unfold Part.closeDemand; (try dsimp only); (repeat' split) <;> simp

/-- The units startOverrides leaves alone. -/
@[simp] theorem startOverrides_access (p : Part) (c : CornerId) (sel : ValveSelect) (m n : Nat) :
    (p.startOverrides c sel m n).bridge = p.bridge ∧ (p.startOverrides c sel m n).port = p.port ∧
      (p.startOverrides c sel m n).waitCount = p.waitCount ∧ (p.startOverrides c sel m n).fresh = p.fresh ∧
      (p.startOverrides c sel m n).lines.safe = p.lines.safe ∧ (p.startOverrides c sel m n).lines.dflt = p.lines.dflt := by
  unfold Part.startOverrides; (try dsimp only); (repeat' split) <;> simp

/-- The units takeUrgent leaves alone. -/
@[simp] theorem takeUrgent_access (p : Part) (c : CornerId) (r : UrgentRecord) (sel : ValveSelect) :
    (p.takeUrgent c r sel).bridge = p.bridge ∧ (p.takeUrgent c r sel).port = p.port ∧
      (p.takeUrgent c r sel).waitCount = p.waitCount ∧ (p.takeUrgent c r sel).fresh = p.fresh ∧
      (p.takeUrgent c r sel).lines.safe = p.lines.safe ∧ (p.takeUrgent c r sel).lines.dflt = p.lines.dflt := by
  unfold Part.takeUrgent; (try dsimp only); (repeat' split) <;> simp

/-- The units refuseUrgent leaves alone. -/
@[simp] theorem refuseUrgent_access (p : Part) (c : CornerId) (r : RefusalReason) (f : Frame) :
    (p.refuseUrgent c r f).bridge = p.bridge ∧ (p.refuseUrgent c r f).port = p.port ∧
      (p.refuseUrgent c r f).waitCount = p.waitCount ∧ (p.refuseUrgent c r f).fresh = p.fresh ∧
      (p.refuseUrgent c r f).lines.safe = p.lines.safe ∧ (p.refuseUrgent c r f).lines.dflt = p.lines.dflt := by
  unfold Part.refuseUrgent; (try dsimp only); (repeat' split) <;> simp

/-- The units validateUrgent leaves alone. -/
@[simp] theorem validateUrgent_access (p : Part) (c : CornerId) (cw : ClosingWord) :
    (p.validateUrgent c cw).bridge = p.bridge ∧ (p.validateUrgent c cw).port = p.port ∧
      (p.validateUrgent c cw).waitCount = p.waitCount ∧ (p.validateUrgent c cw).fresh = p.fresh ∧
      (p.validateUrgent c cw).lines.safe = p.lines.safe ∧ (p.validateUrgent c cw).lines.dflt = p.lines.dflt := by
  unfold Part.validateUrgent; (try dsimp only); (repeat' split) <;> simp

/-- The units cancelHold leaves alone. -/
@[simp] theorem cancelHold_access (p : Part) (c : CornerId) (h : Hold) (n : Nat) :
    (p.cancelHold c h n).bridge = p.bridge ∧ (p.cancelHold c h n).port = p.port ∧
      (p.cancelHold c h n).waitCount = p.waitCount ∧ (p.cancelHold c h n).fresh = p.fresh ∧
      (p.cancelHold c h n).lines.safe = p.lines.safe ∧ (p.cancelHold c h n).lines.dflt = p.lines.dflt := by
  unfold Part.cancelHold; (try dsimp only); (repeat' split) <;> simp

/-- The units closeActive leaves alone. -/
@[simp] theorem closeActive_access (p : Part) (c : CornerId) (cw : ClosingWord) :
    (p.closeActive c cw).bridge = p.bridge ∧ (p.closeActive c cw).port = p.port ∧
      (p.closeActive c cw).waitCount = p.waitCount ∧ (p.closeActive c cw).fresh = p.fresh ∧
      (p.closeActive c cw).lines.safe = p.lines.safe ∧ (p.closeActive c cw).lines.dflt = p.lines.dflt := by
  unfold Part.closeActive; (try dsimp only); (repeat' split) <;> simp

/-- The units closeUrgent leaves alone. -/
@[simp] theorem closeUrgent_access (p : Part) (c : CornerId) (cw : ClosingWord) :
    (p.closeUrgent c cw).bridge = p.bridge ∧ (p.closeUrgent c cw).port = p.port ∧
      (p.closeUrgent c cw).waitCount = p.waitCount ∧ (p.closeUrgent c cw).fresh = p.fresh ∧
      (p.closeUrgent c cw).lines.safe = p.lines.safe ∧ (p.closeUrgent c cw).lines.dflt = p.lines.dflt := by
  unfold Part.closeUrgent; (try dsimp only); (repeat' split) <;> simp

/-! ### The Map Store -/

/-- The units stageMap leaves alone. -/
@[simp] theorem stageMap_access (p : Part) (v : ValveId) (w : Nat) (b : Beat) (bad : Lanes) :
    (p.stageMap v w b bad).bridge = p.bridge ∧ (p.stageMap v w b bad).port = p.port ∧
      (p.stageMap v w b bad).waitCount = p.waitCount ∧ (p.stageMap v w b bad).fresh = p.fresh ∧
      (p.stageMap v w b bad).lines.safe = p.lines.safe ∧ (p.stageMap v w b bad).lines.dflt = p.lines.dflt := by
  unfold Part.stageMap; (try dsimp only); (repeat' split) <;> simp

/-- The units closeMap leaves alone. -/
@[simp] theorem closeMap_access (p : Part) (v : ValveId) (cw : ClosingWord) :
    (p.closeMap v cw).bridge = p.bridge ∧ (p.closeMap v cw).port = p.port ∧
      (p.closeMap v cw).waitCount = p.waitCount ∧ (p.closeMap v cw).fresh = p.fresh ∧
      (p.closeMap v cw).lines.safe = p.lines.safe ∧ (p.closeMap v cw).lines.dflt = p.lines.dflt := by
  unfold Part.closeMap; (try dsimp only); (repeat' split) <;> simp

/-- The units promote leaves alone. -/
@[simp] theorem promote_access (p : Part) (v : ValveId) :
    (p.promote v).bridge = p.bridge ∧ (p.promote v).port = p.port ∧ (p.promote v).waitCount = p.waitCount ∧
      (p.promote v).fresh = p.fresh ∧ (p.promote v).lines.safe = p.lines.safe ∧
      (p.promote v).lines.dflt = p.lines.dflt := by
  unfold Part.promote; (try dsimp only); (repeat' split) <;> simp

/-! ### The Setup Decoder and its owners -/

/-- The units judgeFramePeriod leaves alone. -/
@[simp] theorem judgeFramePeriod_access (p : Part) (n : Nat) :
    (p.judgeFramePeriod n).1.bridge = p.bridge ∧ (p.judgeFramePeriod n).1.port = p.port ∧
      (p.judgeFramePeriod n).1.waitCount = p.waitCount ∧ (p.judgeFramePeriod n).1.fresh = p.fresh ∧
      (p.judgeFramePeriod n).1.lines.safe = p.lines.safe ∧ (p.judgeFramePeriod n).1.lines.dflt = p.lines.dflt := by
  unfold Part.judgeFramePeriod; (try dsimp only); (repeat' split) <;> simp

/-- The units judgeStartFrames leaves alone. -/
@[simp] theorem judgeStartFrames_access (p : Part)  :
    p.judgeStartFrames.1.bridge = p.bridge ∧ p.judgeStartFrames.1.port = p.port ∧
      p.judgeStartFrames.1.waitCount = p.waitCount ∧ p.judgeStartFrames.1.fresh = p.fresh ∧
      p.judgeStartFrames.1.lines.safe = p.lines.safe ∧ p.judgeStartFrames.1.lines.dflt = p.lines.dflt := by
  unfold Part.judgeStartFrames; (try dsimp only); (repeat' split) <;> simp

/-- The units judgeRunCorner leaves alone. -/
@[simp] theorem judgeRunCorner_access (p : Part) (c : CornerId) :
    (p.judgeRunCorner c).1.bridge = p.bridge ∧ (p.judgeRunCorner c).1.port = p.port ∧
      (p.judgeRunCorner c).1.waitCount = p.waitCount ∧ (p.judgeRunCorner c).1.fresh = p.fresh ∧
      (p.judgeRunCorner c).1.lines.safe = p.lines.safe ∧ (p.judgeRunCorner c).1.lines.dflt = p.lines.dflt := by
  unfold Part.judgeRunCorner; (try dsimp only); (repeat' split) <;> simp

/-- The units judgeIdleCorner leaves alone. -/
@[simp] theorem judgeIdleCorner_access (p : Part) (c : CornerId) :
    (p.judgeIdleCorner c).1.bridge = p.bridge ∧ (p.judgeIdleCorner c).1.port = p.port ∧
      (p.judgeIdleCorner c).1.waitCount = p.waitCount ∧ (p.judgeIdleCorner c).1.fresh = p.fresh ∧
      (p.judgeIdleCorner c).1.lines.safe = p.lines.safe ∧ (p.judgeIdleCorner c).1.lines.dflt = p.lines.dflt := by
  unfold Part.judgeIdleCorner; (try dsimp only); (repeat' split) <;> simp

/-- The units enterPrepare leaves alone. -/
@[simp] theorem enterPrepare_access (p : Part) (v : ValveId) :
    (p.enterPrepare v).bridge = p.bridge ∧ (p.enterPrepare v).port = p.port ∧
      (p.enterPrepare v).waitCount = p.waitCount ∧ (p.enterPrepare v).fresh = p.fresh ∧
      (p.enterPrepare v).lines.safe = p.lines.safe ∧ (p.enterPrepare v).lines.dflt = p.lines.dflt := by
  unfold Part.enterPrepare; (try dsimp only); (repeat' split) <;> simp

/-- The units judgeEnable leaves alone. -/
@[simp] theorem judgeEnable_access (p : Part) (v : ValveId) :
    (p.judgeEnable v).1.bridge = p.bridge ∧ (p.judgeEnable v).1.port = p.port ∧
      (p.judgeEnable v).1.waitCount = p.waitCount ∧ (p.judgeEnable v).1.fresh = p.fresh ∧
      (p.judgeEnable v).1.lines.safe = p.lines.safe ∧ (p.judgeEnable v).1.lines.dflt = p.lines.dflt := by
  unfold Part.judgeEnable; (try dsimp only); (repeat' split) <;> simp

/-- The units disable leaves alone. -/
@[simp] theorem disable_access (p : Part) (v : ValveId) :
    (p.disable v).bridge = p.bridge ∧ (p.disable v).port = p.port ∧ (p.disable v).waitCount = p.waitCount ∧
      (p.disable v).fresh = p.fresh ∧ (p.disable v).lines.safe = p.lines.safe ∧
      (p.disable v).lines.dflt = p.lines.dflt := by
  unfold Part.disable; (try dsimp only); (repeat' split) <;> simp

/-- The units judgeDisable leaves alone. -/
@[simp] theorem judgeDisable_access (p : Part) (v : ValveId) :
    (p.judgeDisable v).1.bridge = p.bridge ∧ (p.judgeDisable v).1.port = p.port ∧
      (p.judgeDisable v).1.waitCount = p.waitCount ∧ (p.judgeDisable v).1.fresh = p.fresh ∧
      (p.judgeDisable v).1.lines.safe = p.lines.safe ∧ (p.judgeDisable v).1.lines.dflt = p.lines.dflt := by
  unfold Part.judgeDisable; (try dsimp only); (repeat' split) <;> simp

/-- The units judgeClearFault leaves alone. -/
@[simp] theorem judgeClearFault_access (p : Part) (v : ValveId) :
    (p.judgeClearFault v).1.bridge = p.bridge ∧ (p.judgeClearFault v).1.port = p.port ∧
      (p.judgeClearFault v).1.waitCount = p.waitCount ∧ (p.judgeClearFault v).1.fresh = p.fresh ∧
      (p.judgeClearFault v).1.lines.safe = p.lines.safe ∧ (p.judgeClearFault v).1.lines.dflt = p.lines.dflt := by
  unfold Part.judgeClearFault; (try dsimp only); (repeat' split) <;> simp

/-- The units judgeRetune leaves alone. -/
@[simp] theorem judgeRetune_access (p : Part) (v : ValveId) :
    (p.judgeRetune v).1.bridge = p.bridge ∧ (p.judgeRetune v).1.port = p.port ∧
      (p.judgeRetune v).1.waitCount = p.waitCount ∧ (p.judgeRetune v).1.fresh = p.fresh ∧
      (p.judgeRetune v).1.lines.safe = p.lines.safe ∧ (p.judgeRetune v).1.lines.dflt = p.lines.dflt := by
  unfold Part.judgeRetune; (try dsimp only); (repeat' split) <;> simp

/-- The units judgePromote leaves alone. -/
@[simp] theorem judgePromote_access (p : Part) (v : ValveId) :
    (p.judgePromote v).1.bridge = p.bridge ∧ (p.judgePromote v).1.port = p.port ∧
      (p.judgePromote v).1.waitCount = p.waitCount ∧ (p.judgePromote v).1.fresh = p.fresh ∧
      (p.judgePromote v).1.lines.safe = p.lines.safe ∧ (p.judgePromote v).1.lines.dflt = p.lines.dflt := by
  unfold Part.judgePromote; (try dsimp only); (repeat' split) <;> simp

/-- The units judgeLimpFirmness leaves alone. -/
@[simp] theorem judgeLimpFirmness_access (p : Part) (n : Nat) (c : CornerId) :
    (p.judgeLimpFirmness n c).1.bridge = p.bridge ∧ (p.judgeLimpFirmness n c).1.port = p.port ∧
      (p.judgeLimpFirmness n c).1.waitCount = p.waitCount ∧ (p.judgeLimpFirmness n c).1.fresh = p.fresh ∧
      (p.judgeLimpFirmness n c).1.lines.safe = p.lines.safe ∧ (p.judgeLimpFirmness n c).1.lines.dflt = p.lines.dflt := by
  unfold Part.judgeLimpFirmness; (try dsimp only); (repeat' split) <;> simp

/-- The units judgeLimpRamp leaves alone. -/
@[simp] theorem judgeLimpRamp_access (p : Part) (n : Nat) (c : CornerId) :
    (p.judgeLimpRamp n c).1.bridge = p.bridge ∧ (p.judgeLimpRamp n c).1.port = p.port ∧
      (p.judgeLimpRamp n c).1.waitCount = p.waitCount ∧ (p.judgeLimpRamp n c).1.fresh = p.fresh ∧
      (p.judgeLimpRamp n c).1.lines.safe = p.lines.safe ∧ (p.judgeLimpRamp n c).1.lines.dflt = p.lines.dflt := by
  unfold Part.judgeLimpRamp; (try dsimp only); (repeat' split) <;> simp

/-- The units judgeSilenceLimit leaves alone. -/
@[simp] theorem judgeSilenceLimit_access (p : Part) (n : Nat) (c : CornerId) :
    (p.judgeSilenceLimit n c).1.bridge = p.bridge ∧ (p.judgeSilenceLimit n c).1.port = p.port ∧
      (p.judgeSilenceLimit n c).1.waitCount = p.waitCount ∧ (p.judgeSilenceLimit n c).1.fresh = p.fresh ∧
      (p.judgeSilenceLimit n c).1.lines.safe = p.lines.safe ∧ (p.judgeSilenceLimit n c).1.lines.dflt = p.lines.dflt := by
  unfold Part.judgeSilenceLimit; (try dsimp only); (repeat' split) <;> simp

/-- The units judgeWatermarks leaves alone. -/
@[simp] theorem judgeWatermarks_access (p : Part) (n : Nat) (c : CornerId) :
    (p.judgeWatermarks n c).1.bridge = p.bridge ∧ (p.judgeWatermarks n c).1.port = p.port ∧
      (p.judgeWatermarks n c).1.waitCount = p.waitCount ∧ (p.judgeWatermarks n c).1.fresh = p.fresh ∧
      (p.judgeWatermarks n c).1.lines.safe = p.lines.safe ∧ (p.judgeWatermarks n c).1.lines.dflt = p.lines.dflt := by
  unfold Part.judgeWatermarks; (try dsimp only); (repeat' split) <;> simp

/-- The units judgeSettleTimeout leaves alone. -/
@[simp] theorem judgeSettleTimeout_access (p : Part) (n : Nat) (v : ValveId) :
    (p.judgeSettleTimeout n v).1.bridge = p.bridge ∧ (p.judgeSettleTimeout n v).1.port = p.port ∧
      (p.judgeSettleTimeout n v).1.waitCount = p.waitCount ∧ (p.judgeSettleTimeout n v).1.fresh = p.fresh ∧
      (p.judgeSettleTimeout n v).1.lines.safe = p.lines.safe ∧ (p.judgeSettleTimeout n v).1.lines.dflt = p.lines.dflt := by
  unfold Part.judgeSettleTimeout; (try dsimp only); (repeat' split) <;> simp

/-- The units judgeSearchReach leaves alone. -/
@[simp] theorem judgeSearchReach_access (p : Part) (n : Nat) (v : ValveId) :
    (p.judgeSearchReach n v).1.bridge = p.bridge ∧ (p.judgeSearchReach n v).1.port = p.port ∧
      (p.judgeSearchReach n v).1.waitCount = p.waitCount ∧ (p.judgeSearchReach n v).1.fresh = p.fresh ∧
      (p.judgeSearchReach n v).1.lines.safe = p.lines.safe ∧ (p.judgeSearchReach n v).1.lines.dflt = p.lines.dflt := by
  unfold Part.judgeSearchReach; (try dsimp only); (repeat' split) <;> simp

/-- The units setHeat leaves alone. -/
@[simp] theorem setHeat_access (p : Part) (v : ValveId) (h : Heat) :
    (p.setHeat v h).bridge = p.bridge ∧ (p.setHeat v h).port = p.port ∧ (p.setHeat v h).waitCount = p.waitCount ∧
      (p.setHeat v h).fresh = p.fresh ∧ (p.setHeat v h).lines.safe = p.lines.safe ∧
      (p.setHeat v h).lines.dflt = p.lines.dflt := by
  unfold Part.setHeat; (try dsimp only); (repeat' split) <;> simp

/-- The units judgeWarmLevel leaves alone. -/
@[simp] theorem judgeWarmLevel_access (p : Part) (n : Nat) (v : ValveId) :
    (p.judgeWarmLevel n v).1.bridge = p.bridge ∧ (p.judgeWarmLevel n v).1.port = p.port ∧
      (p.judgeWarmLevel n v).1.waitCount = p.waitCount ∧ (p.judgeWarmLevel n v).1.fresh = p.fresh ∧
      (p.judgeWarmLevel n v).1.lines.safe = p.lines.safe ∧ (p.judgeWarmLevel n v).1.lines.dflt = p.lines.dflt := by
  unfold Part.judgeWarmLevel; (try dsimp only); (repeat' split) <;> simp

/-- The units judgeHotLevel leaves alone. -/
@[simp] theorem judgeHotLevel_access (p : Part) (n : Nat) (v : ValveId) :
    (p.judgeHotLevel n v).1.bridge = p.bridge ∧ (p.judgeHotLevel n v).1.port = p.port ∧
      (p.judgeHotLevel n v).1.waitCount = p.waitCount ∧ (p.judgeHotLevel n v).1.fresh = p.fresh ∧
      (p.judgeHotLevel n v).1.lines.safe = p.lines.safe ∧ (p.judgeHotLevel n v).1.lines.dflt = p.lines.dflt := by
  unfold Part.judgeHotLevel; (try dsimp only); (repeat' split) <;> simp

/-- The units recomputeIn leaves alone. -/
@[simp] theorem recomputeIn_access (p : Part) (v : ValveId) (l : ThermalLevel) :
    (p.recomputeIn v l).bridge = p.bridge ∧ (p.recomputeIn v l).port = p.port ∧
      (p.recomputeIn v l).waitCount = p.waitCount ∧ (p.recomputeIn v l).fresh = p.fresh ∧
      (p.recomputeIn v l).lines.safe = p.lines.safe ∧ (p.recomputeIn v l).lines.dflt = p.lines.dflt := by
  unfold Part.recomputeIn; (try dsimp only); (repeat' split) <;> simp

/-- The units judgeWarmCeiling leaves alone. -/
@[simp] theorem judgeWarmCeiling_access (p : Part) (n : Nat) (v : ValveId) :
    (p.judgeWarmCeiling n v).1.bridge = p.bridge ∧ (p.judgeWarmCeiling n v).1.port = p.port ∧
      (p.judgeWarmCeiling n v).1.waitCount = p.waitCount ∧ (p.judgeWarmCeiling n v).1.fresh = p.fresh ∧
      (p.judgeWarmCeiling n v).1.lines.safe = p.lines.safe ∧ (p.judgeWarmCeiling n v).1.lines.dflt = p.lines.dflt := by
  unfold Part.judgeWarmCeiling; (try dsimp only); (repeat' split) <;> simp

/-- The units judgeHotCeiling leaves alone. -/
@[simp] theorem judgeHotCeiling_access (p : Part) (n : Nat) (v : ValveId) :
    (p.judgeHotCeiling n v).1.bridge = p.bridge ∧ (p.judgeHotCeiling n v).1.port = p.port ∧
      (p.judgeHotCeiling n v).1.waitCount = p.waitCount ∧ (p.judgeHotCeiling n v).1.fresh = p.fresh ∧
      (p.judgeHotCeiling n v).1.lines.safe = p.lines.safe ∧ (p.judgeHotCeiling n v).1.lines.dflt = p.lines.dflt := by
  unfold Part.judgeHotCeiling; (try dsimp only); (repeat' split) <;> simp

/-- The units judgeArmTrace leaves alone. -/
@[simp] theorem judgeArmTrace_access (p : Part) (v : ValveId) :
    (p.judgeArmTrace v).1.bridge = p.bridge ∧ (p.judgeArmTrace v).1.port = p.port ∧
      (p.judgeArmTrace v).1.waitCount = p.waitCount ∧ (p.judgeArmTrace v).1.fresh = p.fresh ∧
      (p.judgeArmTrace v).1.lines.safe = p.lines.safe ∧ (p.judgeArmTrace v).1.lines.dflt = p.lines.dflt := by
  unfold Part.judgeArmTrace; (try dsimp only); (repeat' split) <;> simp

/-- The units judgeDryRun leaves alone. -/
@[simp] theorem judgeDryRun_access (p : Part) (n : Nat) (c : CornerId) :
    (p.judgeDryRun n c).1.bridge = p.bridge ∧ (p.judgeDryRun n c).1.port = p.port ∧
      (p.judgeDryRun n c).1.waitCount = p.waitCount ∧ (p.judgeDryRun n c).1.fresh = p.fresh ∧
      (p.judgeDryRun n c).1.lines.safe = p.lines.safe ∧ (p.judgeDryRun n c).1.lines.dflt = p.lines.dflt := by
  unfold Part.judgeDryRun; (try dsimp only); (repeat' split) <;> simp

/-- The units judgeAxlePairing leaves alone. -/
@[simp] theorem judgeAxlePairing_access (p : Part) (n : Nat) :
    (p.judgeAxlePairing n).1.bridge = p.bridge ∧ (p.judgeAxlePairing n).1.port = p.port ∧
      (p.judgeAxlePairing n).1.waitCount = p.waitCount ∧ (p.judgeAxlePairing n).1.fresh = p.fresh ∧
      (p.judgeAxlePairing n).1.lines.safe = p.lines.safe ∧ (p.judgeAxlePairing n).1.lines.dflt = p.lines.dflt := by
  unfold Part.judgeAxlePairing; (try dsimp only); (repeat' split) <;> simp

/-- The units judgeReadyMode leaves alone. -/
@[simp] theorem judgeReadyMode_access (p : Part) (n : Nat) :
    (p.judgeReadyMode n).1.bridge = p.bridge ∧ (p.judgeReadyMode n).1.port = p.port ∧
      (p.judgeReadyMode n).1.waitCount = p.waitCount ∧ (p.judgeReadyMode n).1.fresh = p.fresh ∧
      (p.judgeReadyMode n).1.lines.safe = p.lines.safe ∧ (p.judgeReadyMode n).1.lines.dflt = p.lines.dflt := by
  unfold Part.judgeReadyMode; (try dsimp only); (repeat' split) <;> simp

/-- The units judgeAttnThreshold leaves alone. -/
@[simp] theorem judgeAttnThreshold_access (p : Part) (n : Nat) :
    (p.judgeAttnThreshold n).1.bridge = p.bridge ∧ (p.judgeAttnThreshold n).1.port = p.port ∧
      (p.judgeAttnThreshold n).1.waitCount = p.waitCount ∧ (p.judgeAttnThreshold n).1.fresh = p.fresh ∧
      (p.judgeAttnThreshold n).1.lines.safe = p.lines.safe ∧ (p.judgeAttnThreshold n).1.lines.dflt = p.lines.dflt := by
  unfold Part.judgeAttnThreshold; (try dsimp only); (repeat' split) <;> simp

/-- The units restartFlush leaves alone. -/
@[simp] theorem restartFlush_access (p : Part) (c : CornerId) :
    (p.restartFlush c).bridge = p.bridge ∧ (p.restartFlush c).port = p.port ∧
      (p.restartFlush c).waitCount = p.waitCount ∧ (p.restartFlush c).fresh = p.fresh ∧
      (p.restartFlush c).lines.safe = p.lines.safe ∧ (p.restartFlush c).lines.dflt = p.lines.dflt := by
  unfold Part.restartFlush; (try dsimp only); (repeat' split) <;> simp

/-- The corners' flushes at RESTART leave the same alone. -/
@[simp] theorem restartFlushes_access (p : Part) (l : List CornerId) :
    (l.foldl Part.restartFlush p).bridge = p.bridge ∧ (l.foldl Part.restartFlush p).port = p.port ∧
      (l.foldl Part.restartFlush p).waitCount = p.waitCount ∧ (l.foldl Part.restartFlush p).fresh = p.fresh ∧
      (l.foldl Part.restartFlush p).lines.safe = p.lines.safe ∧
      (l.foldl Part.restartFlush p).lines.dflt = p.lines.dflt := by
  induction l generalizing p with
  | nil => simp
  | cons c l ih => simpa using ih (p.restartFlush c)

/-- The units restart leaves alone. -/
@[simp] theorem restart_access (p : Part) (order : List Nat) :
    (p.restart order).bridge = p.bridge ∧ (p.restart order).port = p.port ∧
      (p.restart order).waitCount = p.waitCount ∧ (p.restart order).fresh = p.fresh ∧
      (p.restart order).lines.safe = p.lines.safe ∧ (p.restart order).lines.dflt = p.lines.dflt := by
  unfold Part.restart; simp

/-- The units judgeOwner leaves alone. -/
@[simp] theorem judgeOwner_access (p : Part) (k : Kind) (n : Nat) (order : List Nat) (t : Nat) :
    (p.judgeOwner k n order t).1.bridge = p.bridge ∧ (p.judgeOwner k n order t).1.port = p.port ∧
      (p.judgeOwner k n order t).1.waitCount = p.waitCount ∧ (p.judgeOwner k n order t).1.fresh = p.fresh ∧
      (p.judgeOwner k n order t).1.lines.safe = p.lines.safe ∧ (p.judgeOwner k n order t).1.lines.dflt = p.lines.dflt := by
  cases k <;> simp [Part.judgeOwner]

/-- The units judgeTarget leaves alone. -/
@[simp] theorem judgeTarget_access (p : Part) (k : Kind) (n : Nat) (order : List Nat) (t : Nat) :
    (p.judgeTarget k n order t).1.bridge = p.bridge ∧ (p.judgeTarget k n order t).1.port = p.port ∧
      (p.judgeTarget k n order t).1.waitCount = p.waitCount ∧ (p.judgeTarget k n order t).1.fresh = p.fresh ∧
      (p.judgeTarget k n order t).1.lines.safe = p.lines.safe ∧
      (p.judgeTarget k n order t).1.lines.dflt = p.lines.dflt := by
  unfold Part.judgeTarget; split <;> simp

/-- The units judgeAll leaves alone. -/
@[simp] theorem judgeAll_access (p : Part) (k : Kind) (n : Nat) (order : List Nat) (l : List Nat) :
    (p.judgeAll k n order l).1.bridge = p.bridge ∧ (p.judgeAll k n order l).1.port = p.port ∧
      (p.judgeAll k n order l).1.waitCount = p.waitCount ∧ (p.judgeAll k n order l).1.fresh = p.fresh ∧
      (p.judgeAll k n order l).1.lines.safe = p.lines.safe ∧ (p.judgeAll k n order l).1.lines.dflt = p.lines.dflt := by
  induction l generalizing p with
  | nil => simp [Part.judgeAll]
  | cons t l ih => simpa [Part.judgeAll] using ih (p.judgeTarget k n order t).1

/-- The units fixReply leaves alone. -/
@[simp] theorem fixReply_access (p : Part) (js : List Judgement) (r : Reply) :
    (p.fixReply js r).bridge = p.bridge ∧ (p.fixReply js r).port = p.port ∧
      (p.fixReply js r).waitCount = p.waitCount ∧ (p.fixReply js r).fresh = p.fresh ∧
      (p.fixReply js r).lines.safe = p.lines.safe ∧ (p.fixReply js r).lines.dflt = p.lines.dflt := by
  unfold Part.fixReply; (try dsimp only); (repeat' split) <;> simp

/-- The units refuseCommand leaves alone. -/
@[simp] theorem refuseCommand_access (p : Part) (cmd : Command) (r : ReplyReason) :
    (p.refuseCommand cmd r).bridge = p.bridge ∧ (p.refuseCommand cmd r).port = p.port ∧
      (p.refuseCommand cmd r).waitCount = p.waitCount ∧ (p.refuseCommand cmd r).fresh = p.fresh ∧
      (p.refuseCommand cmd r).lines.safe = p.lines.safe ∧ (p.refuseCommand cmd r).lines.dflt = p.lines.dflt := by
  unfold Part.refuseCommand; (try dsimp only); (repeat' split) <;> simp

/-- The units gather leaves alone. -/
@[simp] theorem gather_access (p : Part) (k : Kind) (cmd : Command) (js : List Judgement) (out : List Nat) :
    (p.gather k cmd js out).bridge = p.bridge ∧ (p.gather k cmd js out).port = p.port ∧
      (p.gather k cmd js out).waitCount = p.waitCount ∧ (p.gather k cmd js out).fresh = p.fresh ∧
      (p.gather k cmd js out).lines.safe = p.lines.safe ∧
      (p.gather k cmd js out).lines.dflt = p.lines.dflt := by
  unfold Part.gather; (try dsimp only); (repeat' split) <;> simp

/-- The units dispatch leaves alone. -/
@[simp] theorem dispatch_access (p : Part) (k : Kind) (cmd : Command) (order : List Nat) (n : Nat) :
    (p.dispatch k cmd order n).bridge = p.bridge ∧ (p.dispatch k cmd order n).port = p.port ∧
      (p.dispatch k cmd order n).waitCount = p.waitCount ∧ (p.dispatch k cmd order n).fresh = p.fresh ∧
      (p.dispatch k cmd order n).lines.safe = p.lines.safe ∧
      (p.dispatch k cmd order n).lines.dflt = p.lines.dflt := by
  unfold Part.dispatch; (try dsimp only); (repeat' split) <;> simp

/-- The units judgeNext leaves alone. -/
@[simp] theorem judgeNext_access (p : Part) :
    p.judgeNext.bridge = p.bridge ∧ p.judgeNext.port = p.port ∧
      p.judgeNext.waitCount = p.waitCount ∧ p.judgeNext.fresh = p.fresh ∧
      p.judgeNext.lines.safe = p.lines.safe ∧
      p.judgeNext.lines.dflt = p.lines.dflt := by
  unfold Part.judgeNext; (try dsimp only); (repeat' split) <;> simp

/-- The units judgeOutstanding leaves alone. -/
@[simp] theorem judgeOutstanding_access (p : Part) (n : Nat) :
    (p.judgeOutstanding n).bridge = p.bridge ∧ (p.judgeOutstanding n).port = p.port ∧
      (p.judgeOutstanding n).waitCount = p.waitCount ∧ (p.judgeOutstanding n).fresh = p.fresh ∧
      (p.judgeOutstanding n).lines.safe = p.lines.safe ∧
      (p.judgeOutstanding n).lines.dflt = p.lines.dflt := by
  induction n generalizing p with
  | zero => simp [Part.judgeOutstanding]
  | succ n ih => simpa [Part.judgeOutstanding] using ih p.judgeNext

/-- The units promotionsFirst leaves alone. -/
@[simp] theorem promotionsFirst_access (p : Part) :
    p.promotionsFirst.bridge = p.bridge ∧ p.promotionsFirst.port = p.port ∧
      p.promotionsFirst.waitCount = p.waitCount ∧ p.promotionsFirst.fresh = p.fresh ∧
      p.promotionsFirst.lines.safe = p.lines.safe ∧
      p.promotionsFirst.lines.dflt = p.lines.dflt := by
  unfold Part.promotionsFirst; (try dsimp only); (repeat' split) <;> simp

/-- The units writePoint leaves alone. -/
@[simp] theorem writePoint_access (p : Part) (v : ValveId) (w : Nat) (b : Beat) (bad : Lanes) :
    (p.writePoint v w b bad).bridge = p.bridge ∧ (p.writePoint v w b bad).port = p.port ∧
      (p.writePoint v w b bad).waitCount = p.waitCount ∧ (p.writePoint v w b bad).fresh = p.fresh ∧
      (p.writePoint v w b bad).lines.safe = p.lines.safe ∧
      (p.writePoint v w b bad).lines.dflt = p.lines.dflt := by
  unfold Part.writePoint; (try dsimp only); (repeat' split) <;> simp

/-- The units writeHeader leaves alone. -/
@[simp] theorem writeHeader_access (p : Part) (v : ValveId) (cw : ClosingWord) :
    (p.writeHeader v cw).bridge = p.bridge ∧ (p.writeHeader v cw).port = p.port ∧
      (p.writeHeader v cw).waitCount = p.waitCount ∧ (p.writeHeader v cw).fresh = p.fresh ∧
      (p.writeHeader v cw).lines.safe = p.lines.safe ∧
      (p.writeHeader v cw).lines.dflt = p.lines.dflt := by
  unfold Part.writeHeader; simp

/-- The units judgeCommand leaves alone. -/
@[simp] theorem judgeCommand_access (p : Part) (cmd : Command) (lanes bad : Lanes) (order : List Nat) (n : Nat) :
    (p.judgeCommand cmd lanes bad order n).bridge = p.bridge ∧ (p.judgeCommand cmd lanes bad order n).port = p.port ∧
      (p.judgeCommand cmd lanes bad order n).waitCount = p.waitCount ∧ (p.judgeCommand cmd lanes bad order n).fresh = p.fresh ∧
      (p.judgeCommand cmd lanes bad order n).lines.safe = p.lines.safe ∧
      (p.judgeCommand cmd lanes bad order n).lines.dflt = p.lines.dflt := by
  unfold Part.judgeCommand; (try dsimp only); (repeat' split) <;> simp

/-- The units overrun leaves alone. -/
@[simp] theorem overrun_access (p : Part) (cmd : Command) :
    (p.overrun cmd).bridge = p.bridge ∧ (p.overrun cmd).port = p.port ∧ (p.overrun cmd).waitCount = p.waitCount ∧
      (p.overrun cmd).fresh = p.fresh ∧ (p.overrun cmd).lines.safe = p.lines.safe ∧
      (p.overrun cmd).lines.dflt = p.lines.dflt := by
  unfold Part.overrun; (try dsimp only); (repeat' split) <;> simp

/-- The units receiveCommand leaves alone. -/
@[simp] theorem receiveCommand_access (p : Part) (b : Beat) (bad : Lanes) (order : List Nat) (n : Nat) :
    (p.receiveCommand b bad order n).bridge = p.bridge ∧ (p.receiveCommand b bad order n).port = p.port ∧
      (p.receiveCommand b bad order n).waitCount = p.waitCount ∧ (p.receiveCommand b bad order n).fresh = p.fresh ∧
      (p.receiveCommand b bad order n).lines.safe = p.lines.safe ∧
      (p.receiveCommand b bad order n).lines.dflt = p.lines.dflt := by
  unfold Part.receiveCommand; (try dsimp only); (repeat' split) <;> simp

/-- The units badReadIndex leaves alone. -/
@[simp] theorem badReadIndex_access (p : Part) (cause : IndexFailure) (x : Word) :
    (p.badReadIndex cause x).bridge = p.bridge ∧ (p.badReadIndex cause x).port = p.port ∧
      (p.badReadIndex cause x).waitCount = p.waitCount ∧ (p.badReadIndex cause x).fresh = p.fresh ∧
      (p.badReadIndex cause x).lines.safe = p.lines.safe ∧ (p.badReadIndex cause x).lines.dflt = p.lines.dflt := by
  unfold Part.badReadIndex; (try dsimp only); (repeat' split) <;> simp

/-- The units readIndexWrite leaves alone. -/
@[simp] theorem readIndexWrite_access (p : Part) (b : Beat) (bad : Lanes) :
    (p.readIndexWrite b bad).bridge = p.bridge ∧ (p.readIndexWrite b bad).port = p.port ∧
      (p.readIndexWrite b bad).waitCount = p.waitCount ∧ (p.readIndexWrite b bad).fresh = p.fresh ∧
      (p.readIndexWrite b bad).lines.safe = p.lines.safe ∧ (p.readIndexWrite b bad).lines.dflt = p.lines.dflt := by
  unfold Part.readIndexWrite; (try dsimp only); (repeat' split) <;> simp

/-! ### The Write-Back Engine -/

/-- The units chooseItem leaves alone. -/
@[simp] theorem chooseItem_access (p : Part)  :
    p.chooseItem.bridge = p.bridge ∧ p.chooseItem.port = p.port ∧ p.chooseItem.waitCount = p.waitCount ∧
      p.chooseItem.fresh = p.fresh ∧ p.chooseItem.lines.safe = p.lines.safe ∧ p.chooseItem.lines.dflt = p.lines.dflt := by
  unfold Part.chooseItem; (try dsimp only); (repeat' split) <;> simp

/-- The units publishTrace leaves alone. -/
@[simp] theorem publishTrace_access (p : Part)  :
    p.publishTrace.bridge = p.bridge ∧ p.publishTrace.port = p.port ∧ p.publishTrace.waitCount = p.waitCount ∧
      p.publishTrace.fresh = p.fresh ∧ p.publishTrace.lines.safe = p.lines.safe ∧
      p.publishTrace.lines.dflt = p.lines.dflt := by
  unfold Part.publishTrace; (try dsimp only); (repeat' split) <;> simp

/-- The units publish leaves alone. -/
@[simp] theorem publish_access (p : Part) (n : Notice) :
    (p.publish n).bridge = p.bridge ∧ (p.publish n).port = p.port ∧ (p.publish n).waitCount = p.waitCount ∧
      (p.publish n).fresh = p.fresh ∧ (p.publish n).lines.safe = p.lines.safe ∧
      (p.publish n).lines.dflt = p.lines.dflt := by
  cases n <;> simp [Part.publish]

/-- The units publishWord leaves alone. -/
@[simp] theorem publishWord_access (p : Part) (w : EngineWord) :
    (p.publishWord w).bridge = p.bridge ∧ (p.publishWord w).port = p.port ∧
      (p.publishWord w).waitCount = p.waitCount ∧ (p.publishWord w).fresh = p.fresh ∧
      (p.publishWord w).lines.safe = p.lines.safe ∧ (p.publishWord w).lines.dflt = p.lines.dflt := by
  unfold Part.publishWord; (try dsimp only); (repeat' split) <;> simp

/-! ### Captures by address -/

/-- The units captureDemand leaves alone. -/
@[simp] theorem captureDemand_access (p : Part) (i : SlotId) (w : Nat) (b : Beat) (bad : Lanes) :
    (p.captureDemand i w b bad).bridge = p.bridge ∧ (p.captureDemand i w b bad).port = p.port ∧
      (p.captureDemand i w b bad).waitCount = p.waitCount ∧ (p.captureDemand i w b bad).fresh = p.fresh ∧
      (p.captureDemand i w b bad).lines.safe = p.lines.safe ∧ (p.captureDemand i w b bad).lines.dflt = p.lines.dflt := by
  unfold Part.captureDemand; (try dsimp only); (repeat' split) <;> simp

/-- The units captureUrgent leaves alone. -/
@[simp] theorem captureUrgent_access (p : Part) (c : CornerId) (w : Nat) (b : Beat) (bad : Lanes) :
    (p.captureUrgent c w b bad).bridge = p.bridge ∧ (p.captureUrgent c w b bad).port = p.port ∧
      (p.captureUrgent c w b bad).waitCount = p.waitCount ∧ (p.captureUrgent c w b bad).fresh = p.fresh ∧
      (p.captureUrgent c w b bad).lines.safe = p.lines.safe ∧ (p.captureUrgent c w b bad).lines.dflt = p.lines.dflt := by
  unfold Part.captureUrgent; (try dsimp only); (repeat' split) <;> simp

/-- The units captureMap leaves alone. -/
@[simp] theorem captureMap_access (p : Part) (v : ValveId) (w : Nat) (b : Beat) (bad : Lanes) :
    (p.captureMap v w b bad).bridge = p.bridge ∧ (p.captureMap v w b bad).port = p.port ∧
      (p.captureMap v w b bad).waitCount = p.waitCount ∧ (p.captureMap v w b bad).fresh = p.fresh ∧
      (p.captureMap v w b bad).lines.safe = p.lines.safe ∧ (p.captureMap v w b bad).lines.dflt = p.lines.dflt := by
  unfold Part.captureMap; (try dsimp only); (repeat' split) <;> simp

/-- The units captureSetup leaves alone. -/
@[simp] theorem captureSetup_access (p : Part) (w : Nat) (b : Beat) (bad : Lanes) :
    (p.captureSetup w b bad).bridge = p.bridge ∧ (p.captureSetup w b bad).port = p.port ∧
      (p.captureSetup w b bad).waitCount = p.waitCount ∧ (p.captureSetup w b bad).fresh = p.fresh ∧
      (p.captureSetup w b bad).lines.safe = p.lines.safe ∧
      (p.captureSetup w b bad).lines.dflt = p.lines.dflt := by
  unfold Part.captureSetup; (try dsimp only); (repeat' split) <;> simp

/-- The units captureAt leaves alone. -/
@[simp] theorem captureAt_access (p : Part) (o : Nat) (b : Beat) (bad : Lanes) :
    (p.captureAt o b bad).bridge = p.bridge ∧ (p.captureAt o b bad).port = p.port ∧
      (p.captureAt o b bad).waitCount = p.waitCount ∧ (p.captureAt o b bad).fresh = p.fresh ∧
      (p.captureAt o b bad).lines.safe = p.lines.safe ∧ (p.captureAt o b bad).lines.dflt = p.lines.dflt := by
  unfold Part.captureAt; (try dsimp only); (repeat' split) <;> simp

/-- The units captureWord leaves alone. -/
@[simp] theorem captureWord_access (p : Part) (addr : BitVec 22) (b : Beat) (bad : Lanes) :
    (p.captureWord addr b bad).bridge = p.bridge ∧ (p.captureWord addr b bad).port = p.port ∧
      (p.captureWord addr b bad).waitCount = p.waitCount ∧ (p.captureWord addr b bad).fresh = p.fresh ∧
      (p.captureWord addr b bad).lines.safe = p.lines.safe ∧ (p.captureWord addr b bad).lines.dflt = p.lines.dflt := by
  unfold Part.captureWord; (try dsimp only); (repeat' split) <;> simp

end Sys2Proof.Machine
end

