-- ==== Sys2Proof/Laws/Entries.lean ====
section
/-! SUPPORT. What leaving a corner's work, a limp ramp, entry to the corner states and the stopping of a channel leave,
in the words of Safety.lean. -/

namespace Sys2Proof.Machine

/-! ### Corners and their valves -/

@[simp] theorem cornerOf_compressionValve (c : CornerId) : cornerOf (compressionValve c) = c := by
  fin_cases c <;> rfl

@[simp] theorem cornerOf_reboundValve (c : CornerId) : cornerOf (reboundValve c) = c := by
  fin_cases c <;> rfl

theorem valve_of_corner {v : ValveId} {c : CornerId} (h : cornerOf v = c) :
    v = compressionValve c ∨ v = reboundValve c := by
  subst h; revert v; decide

theorem compression_ne_rebound (c : CornerId) : compressionValve c ≠ reboundValve c := by
  revert c; decide

theorem rebound_ne_compression (c : CornerId) : reboundValve c ≠ compressionValve c := by
  revert c; decide

theorem partnerOf_ne (c : CornerId) : partnerOf c ≠ c := by revert c; decide

/-! ### Recomputation on equal loops -/

theorem SameLoops.channel {p q : Part} (h : SameLoops p q) (v : ValveId) : q.channel v = p.channel v := by
  unfold Part.channel; rw [h.1]

theorem SameLoops.setChannel {p q : Part} (h : SameLoops p q) (v : ValveId) (x : Channel) :
    SameLoops (p.setChannel v x) (q.setChannel v x) :=
  ⟨by simp only [Part.setChannel, h.1], h.2⟩

theorem SameLoops.trackTrigger {p q : Part} (h : SameLoops p q) (v : ValveId) :
    SameLoops (p.trackTrigger v) (q.trackTrigger v) := by
  have ht : q.takeable = p.takeable := by unfold Part.takeable; simp only [h.2, h.channel]
  unfold Part.trackTrigger
  rw [ht, h.2, h.channel]
  split
  · exact ⟨h.1, rfl⟩
  · exact h

theorem SameLoops.replaceTarget {p q : Part} (h : SameLoops p q) (v : ValveId) (b : Nat) :
    SameLoops (p.replaceTarget v b) (q.replaceTarget v b) := by
  unfold Part.replaceTarget
  rw [h.channel]
  dsimp only
  split
  · exact (h.setChannel v _).trackTrigger v
  · exact h.setChannel v _

/-- A recomputation of one channel reads and writes the channels, the maps and the analyzer alone. -/
theorem SameLoops.recompute {p q : Part} (h : SameLoops p q) (hm : q.maps = p.maps) (v : ValveId) :
    SameLoops (p.recompute v) (q.recompute v) := by
  have hc : ∀ f, q.currentAt v f = p.currentAt v f := by
    intro f; unfold Part.currentAt Part.map; rw [h.channel, hm]
  unfold Part.recompute
  simp only [h.channel, hc]
  split
  · exact h.replaceTarget v _
  · exact h

theorem redriven_sameLoops {p q : Part} (h : SameLoops p q) (hm : q.maps = p.maps) (v : ValveId) (x : Channel) :
    SameLoops (p.redriven v x) (q.redriven v x) :=
  (h.setChannel v x).recompute hm v

theorem phaseDropped_sameLoops {p q : Part} (h : SameLoops p q) (hm : q.maps = p.maps) (v : ValveId) :
    SameLoops (p.phaseDropped v) (q.phaseDropped v) := by
  unfold Part.phaseDropped
  rw [h.channel]
  exact redriven_sameLoops h hm v _

theorem phaseDropped_eq (p : Part) (v : ValveId) : p.overrideDrop v = p.phaseDropped v := rfl

theorem dropped_sameLoops {p q : Part} (h : SameLoops p q) (hm : q.maps = p.maps) (c : CornerId) :
    SameLoops (p.dropped c) (q.dropped c) := by
  unfold Part.dropped
  apply phaseDropped_sameLoops
  · exact phaseDropped_sameLoops h hm _
  · simp only [← phaseDropped_eq, overrideDrop_units]; exact hm

theorem valveRamped_eq (p : Part) (c : CornerId) (f : Frame) (v : ValveId) :
    p.sendRamp v { target := (p.corner c).limpFirmness, length := (p.corner c).limpRamp, frame := f } =
      p.valveRamped c f v := by
  unfold Part.sendRamp Part.valveRamped Part.receiveRamp Part.redriven
  by_cases h : p.timer.running = true
  · rw [if_pos h, if_pos h]
  · rw [if_neg h, if_neg h]
    simp [Channel.receive, Channel.step, h]

/-- The limp ramp at each of a corner's valves (R61). -/
theorem sendLimpRamp_eq (p : Part) (c : CornerId) (f : Frame) : p.sendLimpRamp c f = p.limpRamped c f := by
  have hk : (p.valveRamped c f (compressionValve c)).corner c = p.corner c := by
    rw [← valveRamped_eq]; simp
  unfold Part.sendLimpRamp Part.limpRamped
  dsimp only
  rw [valveRamped_eq, ← valveRamped_eq _ c f (reboundValve c), hk]

theorem valveRamped_sameLoops {p q : Part} (h : SameLoops p q) (hm : q.maps = p.maps) {c : CornerId}
    (ht : q.timer = p.timer)
    (hk : (q.corner c).limpFirmness = (p.corner c).limpFirmness ∧ (q.corner c).limpRamp = (p.corner c).limpRamp)
    (f : Frame) (v : ValveId) : SameLoops (p.valveRamped c f v) (q.valveRamped c f v) := by
  unfold Part.valveRamped
  rw [h.channel, ht, hk.1, hk.2]
  split
  · exact h.setChannel v _
  · exact redriven_sameLoops h hm v _

theorem limpRamped_sameLoops {p q : Part} (h : SameLoops p q) (hm : q.maps = p.maps) {c : CornerId}
    (ht : q.timer = p.timer)
    (hk : (q.corner c).limpFirmness = (p.corner c).limpFirmness ∧ (q.corner c).limpRamp = (p.corner c).limpRamp)
    (f : Frame) : SameLoops (p.limpRamped c f) (q.limpRamped c f) := by
  unfold Part.limpRamped
  apply valveRamped_sameLoops
  · exact valveRamped_sameLoops h hm ht hk f _
  · simp only [← valveRamped_eq, sendRamp_units]; exact hm
  · simp only [← valveRamped_eq, sendRamp_units]; exact ht
  · simp only [← valveRamped_eq, sendRamp_units]; exact hk

/-! ### Leaving the work -/

theorem retire_slot (p : Part) (i j : SlotId) (d : DemandFinal) :
    (p.retire i d).demandSlot j =
      if j = i then { p.demandSlot i with state := .retiring, final := some d } else p.demandSlot j := by
  exact demandSlot_setDemand p i j _

theorem endHold_slot (p : Part) (c d : CornerId) (x : UrgentFinal) :
    (p.endHold c x).urgentSlot d =
      if d = c then
        { p.urgentSlot c with state := .owed, final := some x, cancel := Vector.replicate 12 .clear }
      else p.urgentSlot d := by
  exact urgentSlot_setUrgent (p.setCorner c { p.corner c with hold := none }) c d _

theorem retireAll_slots (cause : FlushCause) (f : Frame) (l : List Entry) (p : Part) :
    (∀ i, (p.retireAll cause f l).demandSlot i = flushedSlots l cause f p.demandSlot i) ∧
      (p.retireAll cause f l).engine =
        { p.engine with demand := l.foldl (fun m e => offered m e.slot) p.engine.demand } := by
  unfold Part.retireAll
  induction l generalizing p with
  | nil => exact ⟨fun i => by simp [flushedSlots], rfl⟩
  | cons e l ih =>
    obtain ⟨h1, h2⟩ := ih (p.retire e.slot (.flushed cause f))
    refine ⟨fun i => ?_, ?_⟩
    · rw [List.foldl_cons, h1]
      unfold flushedSlots
      rw [retire_slot]
      by_cases hi : i = e.slot
      · subst hi
        rw [if_pos rfl, List.any_cons, beq_self_eq_true, Bool.true_or, if_pos rfl]
        split <;> rfl
      · have : (e.slot == i) = false := by simp [Ne.symm hi]
        rw [if_neg hi, List.any_cons, this, Bool.false_or]
    · rw [List.foldl_cons, h2]
      rfl

/-- What the flush of a corner's work leaves of the slots and the engine. -/
theorem leaveRun_slots (p : Part) (c : CornerId) (cause : FlushCause) :
    (∀ i, (p.leaveRun c cause).demandSlot i =
      flushedSlots (p.corner c).list cause (p.corner c).frame p.demandSlot i) ∧
    (∀ d, (p.leaveRun c cause).urgentSlot d =
      if d = c then flushedUrgent (p.corner c).hold cause (p.corner c).frame (p.urgentSlot c) else p.urgentSlot d) ∧
    (p.leaveRun c cause).engine =
      { p.engine with
        demand := (p.corner c).list.foldl (fun l e => offered l e.slot) p.engine.demand
        urgent := if (p.corner c).hold.isSome = true then offered p.engine.urgent c else p.engine.urgent } := by
  have hs := retireAll_slots cause (p.corner c).frame (p.corner c).list (p.setCorner c { p.corner c with list := [] })
  have e1 : ∀ i, (p.flushList c cause).demandSlot i =
      flushedSlots (p.corner c).list cause (p.corner c).frame p.demandSlot i := by
    intro i; unfold Part.flushList; rw [hs.1]; simp [flushedSlots]
  have e2 : (p.flushList c cause).engine =
      { p.engine with demand := (p.corner c).list.foldl (fun l e => offered l e.slot) p.engine.demand } := by
    unfold Part.flushList; rw [hs.2]; simp
  have hh : ((p.flushList c cause).corner c).hold = (p.corner c).hold := (flushList_corner p c cause).2.2.2.2.2.1 c
  have hf : ((p.flushList c cause).corner c).frame = (p.corner c).frame :=
    (flushList_corner p c cause).2.2.2.2.2.2.2.2.2.2.2.2.1 c
  refine ⟨fun i => ?_, fun d => ?_, ?_⟩
  · unfold Part.leaveRun; simp [e1]
  · unfold Part.leaveRun
    simp only [overrideDrop_units]
    unfold Part.flushHold
    rw [hh]
    cases hc : (p.corner c).hold with
    | none => by_cases hd : d = c <;> simp [flushedUrgent, hd]
    | some x =>
      dsimp only
      rw [endHold_slot, hf, (flushList_units p c cause).2.2.2.2.2.2.2.2.2.2.2.2.2.1,
        (flushList_units p c cause).2.2.2.2.2.2.2.2.2.2.2.2.2.1]
      rfl
  · unfold Part.leaveRun
    simp only [overrideDrop_units]
    unfold Part.flushHold
    rw [hh]
    cases hc : (p.corner c).hold with
    | none => simp [e2]
    | some x => simp [Part.endHold, Part.offerUrgent, e2]

/-- What leaving the work does to the channels and the analyzer (R53, R60). -/
theorem leaveRun_loops (p : Part) (c : CornerId) (cause : FlushCause) :
    SameLoops (p.dropped c) (p.leaveRun c cause) := by
  refine dropped_sameLoops (p := p) (q := (p.flushList c cause).flushHold c cause) ⟨?_, ?_⟩ ?_ c <;> simp

theorem leaveRun_corners (p : Part) (c : CornerId) (cause : FlushCause) (w : CornerId) :
    (p.leaveRun c cause).corner w =
      if w = c then { p.corner c with list := [], hold := none } else p.corner w := by
  unfold Part.leaveRun
  simp only [overrideDrop_units]
  have hl : ∀ w, (p.flushList c cause).corner w = if w = c then { p.corner c with list := [] } else p.corner w := by
    intro w
    unfold Part.flushList
    dsimp only
    rw [(retireAll_units _ _ _ _).2.2.2.2.2.2.2.2.2.2.2.2.2.2.2.1, corner_setCorner]
  unfold Part.flushHold
  cases hh : ((p.flushList c cause).corner c).hold with
  | none =>
    dsimp only
    rw [hl, if_pos rfl] at hh
    rw [hl]
    by_cases hw : w = c
    · subst hw; rw [if_pos rfl, if_pos rfl, ← hh]
    · rw [if_neg hw, if_neg hw]
  | some x =>
    dsimp only
    have := corner_setCorner (p.flushList c cause) c w { (p.flushList c cause).corner c with hold := none }
    refine Eq.trans this ?_
    by_cases hw : w = c
    · subst hw; rw [if_pos rfl, if_pos rfl, hl, if_pos rfl]
    · rw [if_neg hw, if_neg hw, hl, if_neg hw]

/-- The work left, whatever the corner's state and its limp ramp then become. -/
theorem workLeft_of {p q : Part} {c : CornerId} {cause : FlushCause}
    (hd : ∀ i, q.demandSlot i = (p.leaveRun c cause).demandSlot i)
    (hu : ∀ d, q.urgentSlot d = (p.leaveRun c cause).urgentSlot d)
    (he : q.engine = (p.leaveRun c cause).engine)
    (hx : q.bridge = p.bridge ∧ q.port = p.port ∧ q.timer = p.timer ∧ q.pairing = p.pairing ∧ q.maps = p.maps ∧
      q.setup = p.setup ∧ q.waitCount = p.waitCount ∧ q.fresh = p.fresh) : WorkLeft p q c cause := by
  obtain ⟨s1, s2, s3⟩ := leaveRun_slots p c cause
  exact ⟨fun i => (hd i).trans (s1 i), fun d => (hu d).trans (s2 d), he.trans s3, hx⟩

/-! ### Readiness -/

/-- A corner that is not ready reports it. -/
theorem evalReady_unready {p : Part} {c : CornerId} (h : p.readyCondition c = false) :
    (∀ w, (p.evalReady c).corner w = if w = c then { p.corner c with ready := false } else p.corner w) ∧
      (p.evalReady c).lines = p.unready c := by
  unfold Part.evalReady
  rw [h]
  exact ⟨fun w => corner_setCorner p c w _, rfl⟩

theorem notReady_of_state {p : Part} {c : CornerId} (h : (p.corner c).state ≠ .run) : p.readyCondition c = false := by
  unfold Part.readyCondition
  have : ((p.corner c).state == .run) = false := by simp [h]
  rw [this]; rfl

/-! ### Entry to LIMP and IDLE -/

theorem limpCause_ne_none (d : LimpDetail) : d.cause ≠ .none := by cases d <;> simp [LimpDetail.cause]

/-- The end of an entry to LIMP: its event, its partner notice, readiness. -/
theorem limpTail (p : Part) (c : CornerId) (d : LimpDetail) (f g : Frame) (h : (p.corner c).state ≠ .run) :
    let q := ((p.hand (.cornerLimp c d) g).sendPartnerNotice c f d).evalReady c
    (∀ w, q.corner w =
      if w = c then { p.corner c with ready := false }
      else if w = partnerOf c ∧ p.pairing = true ∧ d.cause ≠ .partner then
        { p.corner (partnerOf c) with notices := (p.corner (partnerOf c)).notices ++ [{ sender := c, frame := f }] }
      else p.corner w) ∧
    q.lines = p.unready c ∧
    q = { p with corners := q.corners, lines := q.lines, journal := p.journal.hand (.cornerLimp c d) g } := by
  have hk : ∀ w, ((p.hand (.cornerLimp c d) g).sendPartnerNotice c f d).corner w =
      if w = partnerOf c ∧ p.pairing = true ∧ d.cause ≠ .partner then
        { p.corner (partnerOf c) with notices := (p.corner (partnerOf c)).notices ++ [{ sender := c, frame := f }] }
      else p.corner w := by
    intro w
    unfold Part.sendPartnerNotice
    rw [(hand_units _ _ _).2.2.2.2.2.2.1]
    by_cases hs : p.pairing = true ∧ d.cause ≠ .partner
    · rw [if_pos hs, corner_setCorner]
      simp only [hand_units]
      by_cases hw : w = partnerOf c <;> simp [hw, hs]
    · rw [if_neg hs, if_neg (by tauto)]
      simp only [hand_units]
  have hc := hk c
  rw [if_neg (fun x => partnerOf_ne c x.1.symm)] at hc
  have hnr : ((p.hand (.cornerLimp c d) g).sendPartnerNotice c f d).readyCondition c = false :=
    notReady_of_state (by rw [hc]; exact h)
  obtain ⟨v1, v2⟩ := evalReady_unready hnr
  refine ⟨fun w => ?_, ?_, ?_⟩
  · rw [v1, hc, hk]
  · rw [v2]; unfold Part.unready; simp
  · unfold Part.evalReady Part.sendPartnerNotice; split <;> rfl

/-- The beginning of an entry to IDLE or LIMP: the work left, the corner's state, the limp ramp. -/
theorem limpHead (p : Part) (c : CornerId) (st : CornerState) (lc : LimpCause) (cause : FlushCause) (f : Frame) :
    let q := ((p.leaveRun c cause).setCornerState c st lc).sendLimpRamp c f
    WorkLeft p q c cause ∧ SameLoops ((p.dropped c).limpRamped c f) q ∧
      (∀ w, q.corner w =
        if w = c then { p.corner c with state := st, limpCause := lc, list := [], hold := none } else p.corner w) ∧
      q.lines = p.lines ∧ q.journal = p.journal ∧ q.pairing = p.pairing := by
  have hc : ∀ w, ((p.leaveRun c cause).setCornerState c st lc).corner w =
      if w = c then { p.corner c with state := st, limpCause := lc, list := [], hold := none } else p.corner w := by
    intro w
    unfold Part.setCornerState
    rw [corner_setCorner, leaveRun_corners, leaveRun_corners]
    by_cases hw : w = c
    · rw [if_pos hw, if_pos hw, if_pos rfl]
    · rw [if_neg hw, if_neg hw, if_neg hw]
  refine ⟨workLeft_of ?_ ?_ ?_ ?_, ?_, ?_, ?_, ?_, ?_⟩
  · simp
  · simp
  · simp
  · simp
  · rw [sendLimpRamp_eq]
    have hd : (p.dropped c).maps = p.maps ∧ (p.dropped c).timer = p.timer ∧ (p.dropped c).corner c = p.corner c := by
      unfold Part.dropped; simp only [← phaseDropped_eq, overrideDrop_units, and_self]
    have hcc := hc c
    rw [if_pos rfl] at hcc
    refine limpRamped_sameLoops ?_ ?_ ?_ ?_ f
    · have := leaveRun_loops p c cause
      exact ⟨by simpa using this.1, by simpa using this.2⟩
    · rw [hd.1]; simp
    · rw [hd.2.1]; simp
    · rw [hd.2.2, hcc]; exact ⟨rfl, rfl⟩
  · intro w; rw [← hc]; simp
  · simp
  · simp
  · simp

theorem enterLimp_entered (p : Part) (c : CornerId) (d : LimpDetail) (f : Frame) :
    LimpEntered p (p.enterLimp c d f) c d f := by
  obtain ⟨h1, h2, h3, h4, h5, h6⟩ := limpHead p c .limp d.cause .limp f
  unfold Part.enterLimp
  dsimp only at h1 h2 h3 h4 h5 h6 ⊢
  generalize ((p.leaveRun c .limp).setCornerState c .limp d.cause).sendLimpRamp c f = p1 at *
  have hc := h3 c
  rw [if_pos rfl] at hc
  obtain ⟨t1, t2, t3⟩ := limpTail p1 c d f (p1.corner c).frame (by rw [hc]; simp)
  dsimp only at t1 t2 t3
  generalize ((p1.hand (.cornerLimp c d) (p1.corner c).frame).sendPartnerNotice c f d).evalReady c = q at *
  have hp := h3 (partnerOf c)
  rw [if_neg (partnerOf_ne c)] at hp
  refine ⟨⟨?_, ?_, ?_, ?_⟩, ?_, ?_, ?_, ?_, ?_, ?_⟩
  · intro i; rw [← h1.slots]; rw [t3]; rfl
  · intro e; rw [← h1.urgent]; rw [t3]; rfl
  · rw [← h1.owed]; rw [t3]
  · have := h1.elsewhere; rw [t3]; exact this
  · rw [t1, if_pos rfl, hc]
  · rw [t3]; exact h2
  · rw [t3]; dsimp only; rw [h5, hc]
  · rw [t1, if_neg (partnerOf_ne c), hp, h6]
    simp only [true_and]
  · intro e he hep
    rw [t1, if_neg he, if_neg (fun x => hep x.1), h3, if_neg he]
  · rw [t2]; unfold Part.unready; rw [h4]

/-- Entry to IDLE by IDLE CORNERS (R59, R60, R61). -/
theorem enterIdle_entered (p : Part) (c : CornerId) :
    WorkLeft p (p.enterIdle c) c .idle ∧
      (∀ w, (p.enterIdle c).corner w =
        if w = c then
          { p.corner c with state := .idle, limpCause := .none, list := [], hold := none, ready := false }
        else p.corner w) ∧
      SameLoops ((p.dropped c).limpRamped c ((p.corner c).frame + 1)) (p.enterIdle c) ∧
      (p.enterIdle c).lines = p.unready c ∧
      (p.enterIdle c).journal = p.journal.hand (.cornerIdle c (p.corner c).state) (p.corner c).frame := by
  obtain ⟨h1, h2, h3, h4, h5, -⟩ := limpHead p c .idle .none .idle (p.nextFrame c)
  unfold Part.enterIdle
  dsimp only at h1 h2 h3 h4 h5 ⊢
  generalize ((p.leaveRun c .idle).setCornerState c .idle .none).sendLimpRamp c (p.nextFrame c) = p1 at *
  have hc := h3 c
  rw [if_pos rfl] at hc
  have hnr : (p1.hand (.cornerIdle c (p.corner c).state) (p1.corner c).frame).readyCondition c = false := by
    apply notReady_of_state; rw [(hand_units _ _ _).2.2.2.2.2.2.2.2.2.2.2.2.2.2.2.2.2.1, hc]; simp
  obtain ⟨v1, v2⟩ := evalReady_unready hnr
  have hk : ∀ w, (p1.hand (.cornerIdle c (p.corner c).state) (p1.corner c).frame).corner w = p1.corner w := by simp
  refine ⟨⟨?_, ?_, ?_, ?_⟩, ?_, ?_, ?_, ?_⟩
  · intro i; rw [← h1.slots]; simp
  · intro e; rw [← h1.urgent]; simp
  · rw [← h1.owed]; simp
  · have := h1.elsewhere; simpa using this
  · intro w
    rw [v1, hk, hk, h3, h3]
    by_cases hw : w = c <;> simp [hw]
  · exact ⟨by simpa [Part.nextFrame] using h2.1, by simpa [Part.nextFrame] using h2.2⟩
  · rw [v2]; unfold Part.unready; simp [h4]
  · simp [Part.hand, h5, hc]

/-! ### A channel stopped -/

theorem notReady_of_channel {p : Part} {v : ValveId} (h : (p.channel v).state.isTrack = false) :
    p.readyCondition (cornerOf v) = false := by
  unfold Part.readyCondition
  rcases valve_of_corner (rfl : cornerOf v = cornerOf v) with e | e
  · rw [← e, h]; simp
  · rw [← e, h]; simp

theorem abortFor_keeps (p : Part) (v : ValveId) :
    p.abortFor v = { p with analyzer := (p.abortFor v).analyzer, engine := (p.abortFor v).engine } := by
  unfold Part.abortFor Part.abortSearch Part.abortTrace
  dsimp only
  (repeat' split) <;> rfl

/-- What letting go of a valve leaves of the analyzer and of the engine (R108, R114, R118, R119). -/
theorem abortFor_left (p : Part) (v : ValveId) :
    (p.abortFor v).analyzer = p.analyzerLeft v ∧
      (p.abortFor v).engine =
        if p.analyzed v ∧ (p.analyzer.trace = .capturing ∨ (p.channel v).state = .track) then
          { p.engine with trace := true }
        else p.engine := by
  unfold Part.abortFor Part.analyzerLeft Part.analyzed Part.abortSearch Part.abortTrace Analyzer.traceAborted
    Part.offerTrace
  cases hs : (p.channel v).state with
  | tune sub =>
    cases sub with
    | waiting => simp
    | searching =>
      by_cases h1 : p.analyzer.state.searchesFor v = true <;> by_cases h2 : p.analyzer.trace = .capturing <;> simp [h1, h2]
  | track => by_cases h1 : p.analyzer.state = .capturing v <;> simp [h1]
  | _ => simp

theorem stopChannel_stopped (p : Part) (v : ValveId) (entered : ChannelState) (h : entered.isTrack = false) :
    ChannelStopped p (p.stopChannel v entered) v entered := by
  have ha := abortFor_keeps p v
  unfold Part.stopChannel
  dsimp only
  have hch : ∀ u, (p.abortFor v).channel u = p.channel u := by intro u; rw [ha]; rfl
  have hco : ∀ u, (p.abortFor v).corner u = p.corner u := by intro u; rw [ha]; rfl
  have hli : (p.abortFor v).lines = p.lines := by rw [ha]
  have hx : ∀ x : Channel, x.state = entered →
      ((p.abortFor v).setChannel v x).readyCondition (cornerOf v) = false := by
    intro x hx; apply notReady_of_channel; rw [channel_setChannel_self, hx, h]
  obtain ⟨v1, v2⟩ := evalReady_unready
    (hx { (p.abortFor v).channel v with state := entered, target := 0, settle := none, misses := 0 } rfl)
  have hee : ∀ x : Channel, (((p.abortFor v).setChannel v x).evalReady (cornerOf v)).engine = (p.abortFor v).engine ∧
      (((p.abortFor v).setChannel v x).evalReady (cornerOf v)).analyzer = (p.abortFor v).analyzer := by
    intro x; simp
  refine ⟨?_, ?_, ?_, ?_, ?_, ?_, ?_, ?_⟩
  · rw [(evalReady_units _ _).2.2.2.2.2.2.2.2.2.2.2.2.2.2.2.2.1, channel_setChannel_self, hch]
  · intro u hu
    rw [(evalReady_units _ _).2.2.2.2.2.2.2.2.2.2.2.2.2.2.2.2.1, channel_setChannel_ne _ _ hu, hch]
  · rw [v1, if_pos rfl, corner_setChannel, hco]
  · intro c hc; rw [v1, if_neg hc, corner_setChannel, hco]
  · rw [v2]; unfold Part.unready; rw [lines_setChannel, hli]
  · rw [(hee _).2, (abortFor_left p v).1]
  · rw [(hee _).1, (abortFor_left p v).2]
  · simp
    rw [ha]
    simp

theorem limpNotice_entered {p : Part} {c : CornerId} (h : (p.corner c).state = .run) (d : LimpDetail) :
    LimpEntered p (p.limpNotice c d) c d ((p.corner c).frame + 1) := by
  unfold Part.limpNotice
  rw [if_pos h]
  exact enterLimp_entered p c d _

/-- A channel that leaves for OFF or FAULT, its event handed, and its corner's notice. -/
theorem channelLost_of (p : Part) (v : ValveId) (entered : ChannelState) (e : Event) (d : LimpDetail)
    (h : entered.isTrack = false) :
    ChannelLost p (((p.stopChannel v entered).hand e ((p.stopChannel v entered).channel v).frame).limpNotice (cornerOf v) d)
      v entered e d := by
  have hs := stopChannel_stopped p v entered h
  generalize p.stopChannel v entered = q1 at *
  refine ⟨q1, hs, ?_⟩
  have hf : (q1.channel v).frame = (p.channel v).frame := by rw [hs.channel]
  have hc := hs.corner
  rw [hf]
  show if (p.corner (cornerOf v)).state = .run then
      LimpEntered (q1.hand e (p.channel v).frame) ((q1.hand e (p.channel v).frame).limpNotice (cornerOf v) d) (cornerOf v) d
        ((p.corner (cornerOf v)).frame + 1)
    else (q1.hand e (p.channel v).frame).limpNotice (cornerOf v) d = q1.hand e (p.channel v).frame
  have hk : (q1.hand e (p.channel v).frame).corner (cornerOf v) = { p.corner (cornerOf v) with ready := false } := by
    simpa using hc
  split
  · rename_i hr
    have := limpNotice_entered (p := q1.hand e (p.channel v).frame) (c := cornerOf v) (by rw [hk]; exact hr) d
    rw [hk] at this
    exact this
  · rename_i hr
    unfold Part.limpNotice
    rw [hk, if_neg hr]

/-- Entry to FAULT (R102, R104, R105). -/
theorem enterFault_entered (p : Part) (v : ValveId) (cause : FaultCause) (figure : Nat) :
    FaultEntered p (p.enterFault v cause figure) v cause figure :=
  channelLost_of p v _ _ _ rfl

/-- DISABLE VALVES at a valve (R99, R100). -/
theorem disable_lost (p : Part) (v : ValveId) :
    ChannelLost p (p.disable v) v .off (.channelState v (p.channel v).state.name .off .disable) (.valveLost v) := by
  have h := channelLost_of p v .off (.channelState v (p.channel v).state.name .off .disable) (.valveLost v) rfl
  have hs := stopChannel_stopped p v .off rfl
  unfold Part.disable Part.handChange
  have : ((p.stopChannel v .off).channel v).state.name = .off := by rw [hs.channel]; rfl
  rw [this]
  exact h

end Sys2Proof.Machine
end

