-- ==== Sys2Proof/Laws/Layout.lean ====
section
/-! SUPPORT. The layouts as arithmetic: the lanes of a word, word addresses and offsets of the Control Region, and the
fields of a packed word. -/

namespace Sys2Proof.Machine

/-! ### Words side by side -/

theorem toNat_append_add {n m : Nat} (x : BitVec n) (y : BitVec m) :
    (x ++ y).toNat = x.toNat * 2 ^ m + y.toNat := by
  rw [BitVec.toNat_append, ← Nat.shiftLeft_add_eq_or_of_lt y.isLt, Nat.shiftLeft_eq]

/-! ### Four lanes -/

theorem lanes_bit0 (a b c d : Bool) :
    (BitVec.ofBool d ++ BitVec.ofBool c ++ BitVec.ofBool b ++ BitVec.ofBool a).getLsbD 0 = a := by
  cases a <;> cases b <;> cases c <;> cases d <;> rfl

theorem lanes_bit1 (a b c d : Bool) :
    (BitVec.ofBool d ++ BitVec.ofBool c ++ BitVec.ofBool b ++ BitVec.ofBool a).getLsbD 1 = b := by
  cases a <;> cases b <;> cases c <;> cases d <;> rfl

theorem lanes_bit2 (a b c d : Bool) :
    (BitVec.ofBool d ++ BitVec.ofBool c ++ BitVec.ofBool b ++ BitVec.ofBool a).getLsbD 2 = c := by
  cases a <;> cases b <;> cases c <;> cases d <;> rfl

theorem lanes_bit3 (a b c d : Bool) :
    (BitVec.ofBool d ++ BitVec.ofBool c ++ BitVec.ofBool b ++ BitVec.ofBool a).getLsbD 3 = d := by
  cases a <;> cases b <;> cases c <;> cases d <;> rfl

/-- A bad lane of a write is an enabled lane that is not good. -/
theorem beatBadLanes_bit (sense : ParitySense) (b : Beat) (k : Nat) (hk : k < 4) :
    (beatBadLanes sense b).getLsbD k =
      (b.lanes.getLsbD k && !laneGood sense (laneByte b.data k) (b.parity.getLsbD k)) := by
  unfold beatBadLanes
  rw [BitVec.getLsbD_and]
  unfold badLanes
  have hcases : k = 0 ∨ k = 1 ∨ k = 2 ∨ k = 3 := by omega
  rcases hcases with rfl | rfl | rfl | rfl
  · rw [lanes_bit0]
  · rw [lanes_bit1]
  · rw [lanes_bit2]
  · rw [lanes_bit3]

theorem laneGood_goodParityBit (sense : ParitySense) (b : Byte) : laneGood sense b (goodParityBit sense b) = true := by
  cases sense <;> simp [laneGood, goodParityBit]

/-- The parity the part supplies is good on every lane. -/
theorem badLanes_goodParity (sense : ParitySense) (data : Word) : badLanes sense data (goodParity sense data) = 0 := by
  unfold badLanes goodParity
  rw [lanes_bit0, lanes_bit1, lanes_bit2, lanes_bit3]
  simp only [laneGood_goodParityBit]
  rfl

/-! ### Word addresses and offsets -/

theorem Bridge.wordAddress_toNat (b : Bridge) (o : Nat) (h : o < 2 ^ 20) :
    (b.wordAddress o).toNat = b.region.toNat * 2 ^ 18 + o / 4 := by
  unfold Bridge.wordAddress
  rw [BitVec.toNat_append, BitVec.toNat_ofNat, Nat.mod_eq_of_lt (by omega), Nat.shiftLeft_eq,
    ← Nat.shiftLeft_eq, Nat.shiftLeft_add_eq_or_of_lt (by omega : o / 4 < 2 ^ 18)]

theorem Bridge.offset_eq (b : Bridge) (addr : BitVec 22) :
    b.offset addr =
      if b.region.toNat * 2 ^ 20 ≤ 4 * addr.toNat ∧ 4 * addr.toNat < b.region.toNat * 2 ^ 20 + 16384 then
        some (4 * addr.toNat - b.region.toNat * 2 ^ 20)
      else none := by
  unfold Bridge.offset
  have h1 : (addr.extractLsb' 18 4 = b.region ∧ addr.extractLsb' 12 6 = 0#6) ↔
      (b.region.toNat * 2 ^ 20 ≤ 4 * addr.toNat ∧ 4 * addr.toNat < b.region.toNat * 2 ^ 20 + 16384) := by
    rw [← BitVec.toNat_inj, ← BitVec.toNat_inj]
    simp only [BitVec.extractLsb'_toNat, BitVec.toNat_ofNat, Nat.shiftRight_eq_div_pow]
    have := addr.isLt
    have := b.region.isLt
    omega
  by_cases h : b.region.toNat * 2 ^ 20 ≤ 4 * addr.toNat ∧ 4 * addr.toNat < b.region.toNat * 2 ^ 20 + 16384
  · rw [if_pos h, if_pos (h1.2 h)]
    simp only [BitVec.extractLsb'_toNat, Nat.shiftRight_eq_div_pow, Option.some.injEq]
    omega
  · rw [if_neg h, if_neg (fun e => h (h1.1 e))]

/-- The word at an offset of the Control Region has that offset. -/
theorem Bridge.offset_wordAddress (b : Bridge) (o : Nat) (h : o < 16384) (h4 : 4 ∣ o) :
    b.offset (b.wordAddress o) = some o := by
  rw [Bridge.offset_eq, Bridge.wordAddress_toNat b o (by omega)]
  have := b.region.isLt
  rw [if_pos (by omega)]
  congr 1; omega

/-! ### The areas of the Control Region -/

theorem classOfOffset_setup (w : Nat) (h : w < 64) : classOfOffset (setupOffset w) = .setupBlock := by
  have h1 : setupOffset w < 0x100 := by unfold setupOffset; omega
  unfold classOfOffset; exact if_pos h1

theorem classOfOffset_urgent (c : CornerId) (w : Nat) (h : w < 8) :
    classOfOffset (urgentOffset c w) = .urgentSlot := by
  have h1 : 0x100 ≤ urgentOffset c w ∧ urgentOffset c w < 0x180 := by unfold urgentOffset; omega
  unfold classOfOffset; split_ifs <;> first | rfl | omega

theorem classOfOffset_demand (i : SlotId) (w : Nat) (h : w < 8) :
    classOfOffset (demandOffset i w) = .demandSlot := by
  have h1 : 0x400 ≤ demandOffset i w ∧ demandOffset i w < 0xC00 := by unfold demandOffset; omega
  unfold classOfOffset; split_ifs <;> first | rfl | omega

theorem classOfOffset_map (v : ValveId) (w : Nat) (h : w < 32) : classOfOffset (mapOffset v w) = .mapBlock := by
  have h1 : 0xC00 ≤ mapOffset v w ∧ mapOffset v w < 0x1000 := by unfold mapOffset; omega
  unfold classOfOffset; split_ifs <;> first | rfl | omega

theorem classOfOffset_window (w : Nat) (h : w < 64) : classOfOffset (windowOffset w) = .statusWindow := by
  have h1 : 0x1000 ≤ windowOffset w ∧ windowOffset w < 0x1100 := by unfold windowOffset; omega
  unfold classOfOffset; split_ifs <;> first | rfl | omega

theorem classOfOffset_ring (i : BitVec 7) (w : Nat) (h : w < 4) : classOfOffset (ringOffset i w) = .journalRing := by
  have h1 : 0x1800 ≤ ringOffset i w ∧ ringOffset i w < 0x2000 := by
    have := i.isLt
    unfold ringOffset; omega
  unfold classOfOffset; split_ifs <;> first | rfl | omega

theorem classOfOffset_sample (k : Nat) (h : k < 64) : classOfOffset (sampleOffset k) = .traceArea := by
  have h1 : 0x2000 ≤ sampleOffset k ∧ sampleOffset k < 0x2104 := by unfold sampleOffset; omega
  unfold classOfOffset; split_ifs <;> first | rfl | omega

/-! ### Bytes of a word -/

theorem laneByte_append (a b c d : Byte) :
    laneByte (d ++ c ++ b ++ a) 0 = a ∧ laneByte (d ++ c ++ b ++ a) 1 = b ∧ laneByte (d ++ c ++ b ++ a) 2 = c ∧
      laneByte (d ++ c ++ b ++ a) 3 = d := by
  unfold laneByte
  refine ⟨?_, ?_, ?_, ?_⟩ <;>
    (apply BitVec.eq_of_toNat_eq
     simp only [BitVec.extractLsb'_toNat, BitVec.toNat_append, Nat.shiftRight_eq_div_pow]
     have ha := a.isLt
     have hb := b.isLt
     have hc := c.isLt
     have hd := d.isLt
     rw [← Nat.shiftLeft_add_eq_or_of_lt ha, ← Nat.shiftLeft_add_eq_or_of_lt hb, ← Nat.shiftLeft_add_eq_or_of_lt hc]
     simp only [Nat.shiftLeft_eq]
     omega)

/-- The bytes of a command word. -/
theorem commandWord_lanes (kind : BitVec 8) (w : CommandWrite) :
    laneByte (commandWord kind w) 0 = kind ∧ laneByte (commandWord kind w) 1 = w.mask ∧
      laneByte (commandWord kind w) 2 = w.arg.extractLsb' 0 4 ++ w.tag ∧
      laneByte (commandWord kind w) 3 = w.arg.extractLsb' 4 8 := by
  have e : commandWord kind w = w.arg.extractLsb' 4 8 ++ (w.arg.extractLsb' 0 4 ++ w.tag) ++ w.mask ++ kind := by
    apply BitVec.eq_of_toNat_eq
    unfold commandWord
    simp only [toNat_append_add, BitVec.extractLsb'_toNat, Nat.shiftRight_eq_div_pow]
    have hk := kind.isLt
    have hm := w.mask.isLt
    have ht := w.tag.isLt
    have ha := w.arg.isLt
    omega
  rw [e]
  exact laneByte_append _ _ _ _

/-- The word a full write shows is its data. -/
theorem seenWord_full (b : Beat) (h : b.lanes = 15) : seenWord b = b.data := by
  unfold seenWord
  rw [h]
  apply BitVec.eq_of_toNat_eq
  have h0 : (15 : Lanes).getLsbD 0 = true ∧ (15 : Lanes).getLsbD 1 = true ∧ (15 : Lanes).getLsbD 2 = true ∧
      (15 : Lanes).getLsbD 3 = true := by decide
  dsimp only
  rw [if_pos h0.1, if_pos h0.2.1, if_pos h0.2.2.1, if_pos h0.2.2.2]
  simp only [laneByte, toNat_append_add, BitVec.extractLsb'_toNat, Nat.shiftRight_eq_div_pow]
  have := b.data.isLt
  omega

/-- A full command write carries its four fields. -/
theorem commandOf_full (code : BitVec 8) (w : CommandWrite) (h : w.lanes = 15) :
    commandOf (seenWord (commandBeat code w)) = { kind := code, mask := w.mask, tag := w.tag, arg := w.arg } := by
  rw [seenWord_full _ h]
  have hk := code.isLt
  have hm := w.mask.isLt
  have ht := w.tag.isLt
  have ha := w.arg.isLt
  have e1 : (commandWord code w).extractLsb' 0 8 = code := by
    apply BitVec.eq_of_toNat_eq
    unfold commandWord
    simp only [toNat_append_add, BitVec.extractLsb'_toNat, Nat.shiftRight_eq_div_pow]
    omega
  have e2 : (commandWord code w).extractLsb' 8 8 = w.mask := by
    apply BitVec.eq_of_toNat_eq
    unfold commandWord
    simp only [toNat_append_add, BitVec.extractLsb'_toNat, Nat.shiftRight_eq_div_pow]
    omega
  have e3 : (commandWord code w).extractLsb' 16 4 = w.tag := by
    apply BitVec.eq_of_toNat_eq
    unfold commandWord
    simp only [toNat_append_add, BitVec.extractLsb'_toNat, Nat.shiftRight_eq_div_pow]
    omega
  have e4 : (commandWord code w).extractLsb' 20 12 = w.arg := by
    apply BitVec.eq_of_toNat_eq
    unfold commandWord
    simp only [toNat_append_add, BitVec.extractLsb'_toNat, Nat.shiftRight_eq_div_pow]
    omega
  unfold commandOf commandBeat
  dsimp only
  rw [e1, e2, e3, e4]

/-! ### Packed words -/

/-- The bit of one field of a packed word. -/
theorem packWord_cons_bit (lo len v : Nat) (fs : List (Nat × Nat × Nat)) (k : Nat) (hk : k < 32) :
    (packWord ((lo, len, v) :: fs)).getLsbD k =
      ((decide (lo ≤ k) && (decide (k - lo < len) && v.testBit (k - lo))) || (packWord fs).getLsbD k) := by
  unfold packWord
  rw [List.foldr_cons, BitVec.getLsbD_or, BitVec.getLsbD_shiftLeft, BitVec.getLsbD_setWidth, BitVec.getLsbD_ofNat]
  by_cases h : lo ≤ k
  · have : k - lo < 32 := by omega
    simp [h, hk, this, Nat.not_lt.2 h]
  · simp [h, Nat.lt_of_not_le h]

theorem packWord_nil : packWord [] = 0#32 := rfl

/-- The field of a word from its bits. -/
theorem field_testBit (w : Word) (lo len j : Nat) :
    (field w lo len).testBit j = (decide (j < len) && w.getLsbD (lo + j)) := by
  unfold field
  rw [BitVec.testBit_toNat, BitVec.getLsbD_extractLsb']

/-- The bits of a packed word: those of its fields. -/
theorem packWord_bit (fs : List (Nat × Nat × Nat)) (k : Nat) (hk : k < 32) :
    (packWord fs).getLsbD k =
      fs.any fun f => decide (f.1 ≤ k) && (decide (k - f.1 < f.2.1) && f.2.2.testBit (k - f.1)) := by
  induction fs with
  | nil => rw [packWord_nil]; simp
  | cons f fs ih =>
    obtain ⟨lo, len, v⟩ := f
    rw [packWord_cons_bit lo len v fs k hk, ih, List.any_cons]

/-- A field of a packed word that no other field overlaps holds its value, cut to its width. -/
theorem field_packWord (fs : List (Nat × Nat × Nat)) (lo len v : Nat) (hmem : (lo, len, v) ∈ fs)
    (hfit : lo + len ≤ 32) (hdis : ∀ f ∈ fs, f = (lo, len, v) ∨ f.1 + f.2.1 ≤ lo ∨ lo + len ≤ f.1) :
    field (packWord fs) lo len = v % 2 ^ len := by
  apply Nat.eq_of_testBit_eq
  intro j
  rw [field_testBit, Nat.testBit_mod_two_pow]
  by_cases hj : j < len
  · rw [packWord_bit fs (lo + j) (by omega)]
    simp only [hj, decide_true, Bool.true_and]
    cases hv : v.testBit j with
    | true =>
      rw [List.any_eq_true]
      exact ⟨_, hmem, by simp [hj, hv]⟩
    | false =>
      rw [List.any_eq_false]
      intro f hf
      rcases hdis f hf with rfl | h | h
      · simp [hj, hv]
      · have : ¬ (lo + j - f.1 < f.2.1) := by omega
        simp [this]
      · have : ¬ (f.1 ≤ lo + j) := by omega
        simp [this]
  · simp [hj]

/-- The value of a list of fields. -/
def packValue : List (Nat × Nat × Nat) → Nat
  | [] => 0
  | f :: fs => f.2.2 % 2 ^ f.2.1 * 2 ^ f.1 + packValue fs

/-- The fields stand in rising order from bit `low` up, without overlap, within 32 bits. -/
def packOrdered : Nat → List (Nat × Nat × Nat) → Bool
  | low, [] => decide (low ≤ 32)
  | low, f :: fs => decide (low ≤ f.1) && packOrdered (f.1 + f.2.1) fs

theorem packOrdered_le : ∀ (fs : List (Nat × Nat × Nat)) (low : Nat), packOrdered low fs = true → low ≤ 32
  | [], low, h => by simpa [packOrdered] using h
  | f :: fs, low, h => by
    rw [packOrdered, Bool.and_eq_true, decide_eq_true_eq] at h
    have := packOrdered_le fs _ h.2
    omega

/-- Fields in order stand side by side: the word's number is the sum of its fields, and its other bits are 0. -/
theorem packWord_toNat : ∀ (fs : List (Nat × Nat × Nat)) (low : Nat), packOrdered low fs = true →
    (packWord fs).toNat = packValue fs ∧ 2 ^ low ∣ packValue fs
  | [], low, _ => ⟨rfl, Dvd.intro 0 rfl⟩
  | (lo, len, v) :: fs, low, h => by
    rw [packOrdered, Bool.and_eq_true, decide_eq_true_eq] at h
    obtain ⟨h1, h2⟩ := h
    dsimp only at h1 h2
    obtain ⟨ih1, ih2⟩ := packWord_toNat fs (lo + len) h2
    have hle := packOrdered_le fs _ h2
    have hlt : v % 2 ^ len * 2 ^ lo < 2 ^ (lo + len) := by
      rw [Nat.pow_add, Nat.mul_comm]
      exact Nat.mul_lt_mul_of_pos_left (Nat.mod_lt _ (Nat.two_pow_pos len)) (Nat.two_pow_pos lo)
    have hx : (((BitVec.ofNat len v).setWidth 32 <<< lo : BitVec 32)).toNat = v % 2 ^ len * 2 ^ lo := by
      rw [BitVec.toNat_shiftLeft, BitVec.toNat_setWidth, BitVec.toNat_ofNat, Nat.shiftLeft_eq]
      have hl : v % 2 ^ len < 2 ^ 32 :=
        lt_of_lt_of_le (Nat.mod_lt _ (Nat.two_pow_pos len)) (Nat.pow_le_pow_right (by omega) (by omega))
      rw [Nat.mod_eq_of_lt hl, Nat.mod_eq_of_lt (lt_of_lt_of_le hlt (Nat.pow_le_pow_right (by omega) hle))]
    constructor
    · show ((BitVec.ofNat len v).setWidth 32 <<< lo ||| packWord fs : BitVec 32).toNat = _
      rw [BitVec.toNat_or, hx, ih1]
      obtain ⟨m, hm⟩ := ih2
      show _ = v % 2 ^ len * 2 ^ lo + packValue fs
      rw [hm, Nat.or_comm, Nat.mul_comm (2 ^ (lo + len)) m, ← Nat.shiftLeft_eq m (lo + len),
        ← Nat.shiftLeft_add_eq_or_of_lt hlt]
      omega
    · show 2 ^ low ∣ v % 2 ^ len * 2 ^ lo + packValue fs
      refine Nat.dvd_add ?_ (dvd_trans (Nat.pow_dvd_pow 2 (by omega)) ih2)
      exact dvd_trans (Nat.pow_dvd_pow 2 h1) (Dvd.intro_left _ rfl)

/-- The number of a packed word, for a list whose order Lean can check. -/
theorem packWord_value (fs : List (Nat × Nat × Nat)) (h : packOrdered 0 fs = true) :
    (packWord fs).toNat = packValue fs := (packWord_toNat fs 0 h).1

end Sys2Proof.Machine
end

