-- ==== Sys2Proof/Laws/Path.lean ====
section
/-! SUPPORT. What a grant, a forwarded write and a command's write do to the state: the queue and the Path Bridge stand,
memory keeps its canonical form, and every write command is a forwarded write with some capture. -/

namespace Sys2Proof.Machine

/-! ### The engine's word -/

theorem State.engineWord_none {s : State} (h : s.part.engine.hand = none) : s.engineWord = s := by
  unfold State.engineWord; rw [h]

@[simp] theorem State.engineWord_pending (s : State) : s.engineWord.pending = s.pending := by
  unfold State.engineWord; (repeat' split) <;> rfl

@[simp] theorem State.engineWord_access (s : State) :
    s.engineWord.part.bridge = s.part.bridge ∧ s.engineWord.part.port = s.part.port ∧
      s.engineWord.part.fresh = s.part.fresh ∧ s.engineWord.part.lines.safe = s.part.lines.safe ∧
      s.engineWord.part.lines.dflt = s.part.lines.dflt := by
  unfold State.engineWord; (repeat' split) <;> simp [State.grantWord]

theorem State.engineWord_wf {s : State} (h : s.mem.wf = true) : s.engineWord.mem.wf = true := by
  unfold State.engineWord; (repeat' split)
  · exact Memory.wf_writeBeat h _ _
  · exact h
  · exact h

/-! ### The grant -/

theorem Part.chooseItem_units (p : Part) :
    p.chooseItem = { p with engine := p.chooseItem.engine } := by
  unfold Part.chooseItem; (repeat' split) <;> rfl

theorem State.forcedWord_eq (s : State) :
    s.forcedWord = { s.engineWord with part := s.engineWord.part.chooseItem } := rfl

@[simp] theorem State.forcedWord_pending (s : State) : s.forcedWord.pending = s.pending := s.engineWord_pending

@[simp] theorem State.forcedWord_access (s : State) :
    s.forcedWord.part.bridge = s.part.bridge ∧ s.forcedWord.part.port = s.part.port ∧
      s.forcedWord.part.fresh = s.part.fresh ∧ s.forcedWord.part.lines.safe = s.part.lines.safe ∧
      s.forcedWord.part.lines.dflt = s.part.lines.dflt := by
  rw [State.forcedWord_eq, Part.chooseItem_units]; exact s.engineWord_access

theorem State.forcedWord_wf {s : State} (h : s.mem.wf = true) : s.forcedWord.mem.wf = true := State.engineWord_wf h

theorem State.grantAccess_none {s : State} (h : s.part.engine.hand = none) : s.grantAccess = s := by
  unfold State.grantAccess; simp [h]

@[simp] theorem State.grantAccess_pending (s : State) : s.grantAccess.pending = s.pending := by
  unfold State.grantAccess; dsimp only; (repeat' split) <;> simp

@[simp] theorem State.grantAccess_access (s : State) :
    s.grantAccess.part.bridge = s.part.bridge ∧ s.grantAccess.part.port = s.part.port ∧
      s.grantAccess.part.fresh = s.part.fresh ∧ s.grantAccess.part.lines.safe = s.part.lines.safe ∧
      s.grantAccess.part.lines.dflt = s.part.lines.dflt := by
  unfold State.grantAccess; dsimp only; (repeat' split) <;> simp

theorem State.grantAccess_wf {s : State} (h : s.mem.wf = true) : s.grantAccess.mem.wf = true := by
  unfold State.grantAccess; dsimp only; (repeat' split) <;> simp [h, State.forcedWord_wf]

/-! ### Forwarded writes -/

@[simp] theorem Part.reportP_access (p : Part) (addr : BitVec 22) (bad : Lanes) :
    (p.reportP addr bad).bridge.region = p.bridge.region ∧ (p.reportP addr bad).bridge.psense = p.bridge.psense ∧
      (p.reportP addr bad).setup = p.setup ∧ (p.reportP addr bad).engine = p.engine ∧
      (p.reportP addr bad).timer = p.timer ∧ (p.reportP addr bad).channels = p.channels ∧
      (p.reportP addr bad).corners = p.corners ∧ (p.reportP addr bad).demand = p.demand ∧
      (p.reportP addr bad).urgent = p.urgent ∧ (p.reportP addr bad).maps = p.maps ∧
      (p.reportP addr bad).analyzer = p.analyzer ∧ (p.reportP addr bad).lines = p.lines ∧
      (p.reportP addr bad).pairing = p.pairing ∧ (p.reportP addr bad).fresh = p.fresh := by
  unfold Part.reportP; split <;> simp

@[simp] theorem State.forwarded_pending (s : State) (addr : BitVec 22) (b : Beat) :
    (s.forwarded addr b).pending = s.pending := by
  unfold State.forwarded; simp

theorem State.forwarded_mem (s : State) (addr : BitVec 22) (b : Beat) :
    (s.forwarded addr b).mem = s.grantAccess.mem.writeBeat (byteAddress addr) b := rfl

theorem State.forwarded_part (s : State) (addr : BitVec 22) (b : Beat) :
    (s.forwarded addr b).part = s.grantAccess.part.reportP addr (s.badOf b) := by
  unfold State.forwarded State.badOf; simp

@[simp] theorem State.forwarded_psense (s : State) (addr : BitVec 22) (b : Beat) :
    (s.forwarded addr b).part.bridge.psense = s.part.bridge.psense := by
  rw [State.forwarded_part]; simp

@[simp] theorem State.forwarded_region (s : State) (addr : BitVec 22) (b : Beat) :
    (s.forwarded addr b).part.bridge.region = s.part.bridge.region := by
  rw [State.forwarded_part]; simp

theorem State.forwarded_wf {s : State} (h : s.mem.wf = true) (addr : BitVec 22) (b : Beat) :
    (s.forwarded addr b).mem.wf = true := Memory.wf_writeBeat (State.grantAccess_wf h) _ _

/-- A forwarded write is the write as it stands, with the captor's effect on the part. -/
theorem State.forwardWrite_eq (s : State) (addr : BitVec 22) (b : Beat) (capture : Lanes → Part → Part) :
    s.forwardWrite addr b capture =
      { s.forwarded addr b with part := capture (s.badOf b) (s.forwarded addr b).part } := by
  unfold State.forwardWrite State.badOf; simp

theorem State.regionWrite_eq (s : State) (o : Nat) (b : Beat) (capture : Lanes → Part → Part) :
    s.regionWrite o b capture = { s.arrived o b with part := capture (s.badOf b) (s.arrived o b).part } :=
  State.forwardWrite_eq s _ b capture

theorem State.setupCommand_forwardWrite (s : State) (code : BitVec 8) (w : CommandWrite) :
    ∃ capture, s.setupCommand code w =
      s.forwardWrite (s.part.bridge.wordAddress (setupOffset 0)) (commandBeat code w) capture :=
  ⟨fun bad p => p.receiveCommand (commandBeat code w) bad w.order w.later, rfl⟩

theorem State.setupCommand_eq (s : State) (code : BitVec 8) (w : CommandWrite) :
    s.setupCommand code w =
      { s.commandArrived code w with
        part := (s.commandArrived code w).part.receiveCommand (commandBeat code w) (s.badOf (commandBeat code w))
          w.order w.later } :=
  State.regionWrite_eq s _ _ _

/-- Every setup row is a write of the command word. -/
theorem exec_setupRow {c : Instr} {code : BitVec 8} {w : CommandWrite} (h : setupRow c = some (code, w)) (s : State) :
    exec c s = .next (s.setupCommand code w) := by
  cases c <;> simp only [setupRow, Option.some.injEq, Prod.mk.injEq, reduceCtorEq] at h <;>
    (obtain ⟨rfl, rfl⟩ := h; rfl)

/-- Every command that is a processor write is a forwarded write with some capture. -/
theorem exec_writeOf {c : Instr} {s : State} {addr : BitVec 22} {b : Beat}
    (h : writeOf s.part.bridge c = some (addr, b)) :
    ∃ capture, exec c s = .next (s.forwardWrite addr b capture) := by
  cases hr : setupRow c with
  | some r =>
    obtain ⟨code, w⟩ := r
    have hw : (s.part.bridge.wordAddress (setupOffset 0), commandBeat code w) = (addr, b) := by
      cases c <;> first
        | (simp only [setupRow, reduceCtorEq] at hr; done)
        | (simp only [writeOf, hr, Option.map_some, Option.some.injEq] at h; exact h)
    obtain ⟨rfl, rfl⟩ := Prod.mk.injEq _ _ _ _ ▸ hw
    obtain ⟨capture, e⟩ := s.setupCommand_forwardWrite code w
    exact ⟨capture, e ▸ exec_setupRow hr s⟩
  | none =>
    cases c <;> first
      | (simp only [setupRow, reduceCtorEq] at hr; done)
      | (simp only [writeOf, hr, Option.map_none, reduceCtorEq] at h; done)
      | (simp only [writeOf, Option.some.injEq, Prod.mk.injEq] at h
         obtain ⟨rfl, rfl⟩ := h
         exact ⟨_, rfl⟩)

end Sys2Proof.Machine
end

