-- ==== Sys2Proof/Laws/Setup.lean ====
section
/-! SUPPORT. A setup command that is received: judged as a whole, dispatched, judged at its one target, and answered. -/

namespace Sys2Proof.Machine

/-! ### Targets -/

theorem targets_valve {k : Kind} (hk : k.cls = .valve) {w : CommandWrite} {v : ValveId} (h : w.namesValve v) :
    k.targets w.mask = [v.val] := by
  have e : ∀ t ∈ [0, 1, 2, 3, 4, 5, 6, 7], w.mask.getLsbD t = decide (t = v.val) := by
    intro t ht
    have hlt : t < 8 := by simp only [List.mem_cons, List.not_mem_nil, or_false] at ht; omega
    rw [h ⟨t, hlt⟩]
    simp [Fin.ext_iff, beq_eq_decide]
  unfold Kind.targets
  rw [hk]
  simp only
  rw [List.filter_congr e]
  fin_cases v <;> rfl

theorem targets_corner {k : Kind} (hk : k.cls = .corner) {w : CommandWrite} {c : CornerId} (h : w.namesCorner c) :
    k.targets w.mask = [c.val] := by
  have e : ∀ t ∈ [0, 1, 2, 3], w.mask.getLsbD t = decide (t = c.val) := by
    intro t ht
    have hlt : t < 4 := by simp only [List.mem_cons, List.not_mem_nil, or_false] at ht; omega
    rw [h ⟨t, hlt⟩]
    simp [Fin.ext_iff, beq_eq_decide]
  unfold Kind.targets
  rw [hk]
  simp only
  rw [List.filter_congr e]
  fin_cases c <;> rfl

theorem targets_global {k : Kind} (hk : k.cls = .global) (m : BitVec 8) : k.targets m = [0] := by
  unfold Kind.targets; rw [hk]

/-- One target is what every kind needs at least and ARM TRACE needs exactly. -/
theorem targetsOk_one {k : Kind} {m : BitVec 8} {t : Nat} (h : k.targets m = [t]) : k.targetsOk m = true := by
  unfold Kind.targetsOk
  cases k <;> simp [h]

@[simp] theorem valveOf_val (v : ValveId) : valveOf v.val = v := by
  unfold valveOf; exact Fin.ext (Nat.mod_eq_of_lt v.isLt)

@[simp] theorem cornerAt_val (c : CornerId) : cornerAt c.val = c := by
  unfold cornerAt; exact Fin.ext (Nat.mod_eq_of_lt c.isLt)

@[simp] theorem arrange_one {α : Type} (order : List Nat) (x : α) : arrange order [x] = [x] := by
  cases order <;> simp [arrange, Nat.mod_one]

/-! ### Receiving -/

@[simp] theorem commandBeat_lanes (code : BitVec 8) (w : CommandWrite) : (commandBeat code w).lanes = w.lanes := rfl

/-- The command word of a full write is the row's own fields. -/
theorem commandOf_received {code : BitVec 8} {w : CommandWrite} (h : w.lanes = 15) :
    commandOf (seenWord (commandBeat code w)) = ⟨code, w.mask, w.tag, w.arg⟩ := commandOf_full code w h

/-- The reply of a command with one target. -/
theorem reply_one (k : Kind) (t : Nat) (ht : t < 8) (x : Option ReplyReason) :
    resultOf [⟨t, x⟩] = (if x.isNone then .done else .refused) ∧ lowestReason [⟨t, x⟩] = x ∧
      refusedMask k [⟨t, x⟩] = (if k.cls = .global ∨ x = none then 0 else targetBit t) := by
  refine ⟨?_, ?_, ?_⟩
  · cases x <;> simp [resultOf]
  · have : t ∈ [0, 1, 2, 3, 4, 5, 6, 7] := by
      simp only [List.mem_cons, List.not_mem_nil, or_false]; omega
    unfold lowestReason
    fin_cases this <;> cases x <;> simp [List.findSome?]
  · unfold refusedMask targetBit
    cases x <;> split <;> simp_all

/-- A received command that names targets: dispatched. -/
theorem exec_dispatched {c : Instr} {code : BitVec 8} {w : CommandWrite} {s : State} {k : Kind}
    (hc : setupRow c = some (code, w)) (hr : s.hears code w) (hk : Kind.ofCode code.toNat = some k)
    (ht : k.targetsOk w.mask = true) :
    exec c s = .next { s.commandArrived code w with
      part := (s.met code w).dispatch k ⟨code, w.mask, w.tag, w.arg⟩ w.order w.later } := by
  obtain ⟨hl, hb, hf⟩ := hr
  rw [exec_setupRow hc, State.setupCommand_eq]
  unfold Part.receiveCommand
  have h0 : ¬w.lanes = 0 := by rw [hl]; decide
  simp only [commandBeat_lanes, h0, if_false, hf, if_true, commandOf_received hl]
  unfold Part.judgeCommand
  simp only [hl, hb, ne_eq, not_true_eq_false, if_false, hk, ht, if_true]
  rfl

/-- A received command whose one target is judged within the write's step: judged there, and answered. -/
theorem exec_one {c : Instr} {code : BitVec 8} {w : CommandWrite} {s : State} {k : Kind} {t : Nat}
    (hc : setupRow c = some (code, w)) (hr : s.hears code w) (hk : Kind.ofCode code.toNat = some k)
    (ht : k.targets w.mask = [t]) (hlt : t < 8) (hn : k.atOnce 1 w.later = 1) :
    exec c s =
      .next { s.commandArrived code w with
        part :=
          ((s.met code w).judgeTarget k w.arg.toNat w.order t).1.owing
            [⟨t, ((s.met code w).judgeTarget k w.arg.toNat w.order t).2⟩]
            { kind := code, tag := w.tag
              result := if ((s.met code w).judgeTarget k w.arg.toNat w.order t).2.isNone then .done else .refused
              refusedMask :=
                if k.cls = .global ∨ ((s.met code w).judgeTarget k w.arg.toNat w.order t).2 = none then 0
                else targetBit t
              reason := ((s.met code w).judgeTarget k w.arg.toNat w.order t).2 } } := by
  rw [exec_dispatched hc hr hk (targetsOk_one ht)]
  unfold Part.dispatch Part.gather
  simp only [ht, arrange_one, List.length_singleton, hn, List.take_succ_cons, List.take_zero, List.drop_succ_cons,
    List.drop_zero, Part.judgeAll]
  obtain ⟨r1, r2, r3⟩ := reply_one k t hlt ((s.met code w).judgeTarget k w.arg.toNat w.order t).2
  rw [r1, r2, r3]
  rfl

/-- With no target later, all are judged within the write's step; RESTART's, READY MODE's and ATTN THRESHOLD's always. -/
theorem atOnce_now {k : Kind} {n later : Nat} (h : later = 0) : k.atOnce n later = n := by
  subst h; unfold Kind.atOnce; split <;> rfl

@[simp] theorem atOnce_restart (n later : Nat) : Kind.restart.atOnce n later = n := rfl

@[simp] theorem atOnce_readyMode (n later : Nat) : Kind.readyMode.atOnce n later = n := rfl

@[simp] theorem atOnce_attnThreshold (n later : Nat) : Kind.attnThreshold.atOnce n later = n := rfl

/-- The same, as the outcome that the statements name: a refusal that leaves the part as it met it, or a take. -/
theorem exec_judged {c : Instr} {code : BitVec 8} {w : CommandWrite} {s : State} {k : Kind} {t : Nat}
    (hc : setupRow c = some (code, w)) (hr : s.receives code w) (hk : Kind.ofCode code.toNat = some k)
    (ht : k.targets w.mask = [t]) (hlt : t < 8) (x : Option ReplyReason) (q : Part)
    (hj : (s.met code w).judgeTarget k w.arg.toNat w.order t =
      match x with | some r => (s.met code w, some r) | none => (q, none)) :
    exec c s = .next (s.judged code w t (if k.cls = .global then 0 else targetBit t) x q) := by
  rw [exec_one hc hr.1 hk ht hlt (atOnce_now hr.2), hj]
  cases x <;> simp [State.judged, State.taken, State.turnedAway]

/-! ### Judging, target by target -/

/-- The targets that a mask names are among the eight, each once. -/
theorem targets_lt (k : Kind) (m : BitVec 8) : (k.targets m).Nodup ∧ ∀ t ∈ k.targets m, t < 8 := by
  unfold Kind.targets
  split
  · refine ⟨List.Nodup.filter _ (by decide), fun t h => ?_⟩
    have := (List.mem_filter.mp h).1
    fin_cases this <;> decide
  · refine ⟨List.Nodup.filter _ (by decide), fun t h => ?_⟩
    have := (List.mem_filter.mp h).1
    fin_cases this <;> decide
  · decide

/-- A list of targets judged one after another: one judgement each, by the state that the targets before it left. -/
theorem judgeAll_spec (p : Part) (k : Kind) (n : Nat) (o l : List Nat) :
    (p.judgeAll k n o l).2.map (fun j => j.target) = l ∧
      (p.judgeAll k n o l).1 = (p.judgeAll k n o l).2.foldl (fun p j => (p.judgeTarget k n o j.target).1) p ∧
      ∀ a j r, (p.judgeAll k n o l).2 = a ++ j :: r →
        j.refusal = ((a.foldl (fun p j => (p.judgeTarget k n o j.target).1) p).judgeTarget k n o j.target).2 := by
  induction l generalizing p with
  | nil => simp [Part.judgeAll]
  | cons t l ih =>
    obtain ⟨h1, h2, h3⟩ := ih (p.judgeTarget k n o t).1
    simp only [Part.judgeAll]
    refine ⟨by simp [h1], by simpa using h2, ?_⟩
    intro a j r h
    cases a with
    | nil => simp at h; obtain ⟨rfl, _⟩ := h; rfl
    | cons b a =>
      simp at h; obtain ⟨rfl, h⟩ := h
      exact h3 a j r h

/-- The flushes at RESTART leave the decoder as it is. -/
theorem restartFlushes_setup (l : List CornerId) (p : Part) : (l.foldl Part.restartFlush p).setup = p.setup := by
  induction l generalizing p with
  | nil => rfl
  | cons c l ih => rw [List.foldl_cons, ih]; simp [Part.restartFlush]

@[simp] theorem recomputeIn_setup (p : Part) (v : ValveId) (l : ThermalLevel) :
    (p.recomputeIn v l).setup = p.setup := by
  unfold Part.recomputeIn; split <;> simp

/-- Judging a target leaves the decoder as it is, but for the two settings that it holds itself (R138, R139). -/
theorem Part.judgeOwner_setup (p : Part) (k : Kind) (n : Nat) (order : List Nat) (t : Nat) :
    (p.judgeOwner k n order t).1.setup =
      { p.setup with
        readyMode := (p.judgeOwner k n order t).1.setup.readyMode
        attnThreshold := (p.judgeOwner k n order t).1.setup.attnThreshold } := by
  have e : ∀ q : Part, q.setup = p.setup →
      q.setup = { p.setup with readyMode := q.setup.readyMode, attnThreshold := q.setup.attnThreshold } := by
    intro q h; rw [h]
  cases k
  case restart => simp [Part.judgeOwner, Part.restart, restartFlushes_setup]
  case readyMode => rfl
  case attnThreshold => rfl
  all_goals
    apply e
    simp only [Part.judgeOwner, Part.judgeFramePeriod, Part.judgeStartFrames, Part.judgeRunCorner, Part.judgeIdleCorner,
      Part.judgeEnable, Part.enterPrepare, Part.judgeDisable, Part.disable, Part.judgeClearFault,
      Part.judgeRetune, Part.judgePromote, Part.judgeLimpFirmness, Part.judgeLimpRamp, Part.judgeSilenceLimit,
      Part.judgeWatermarks, Part.judgeSettleTimeout, Part.judgeSearchReach, Part.setHeat, Part.judgeWarmLevel,
      Part.judgeHotLevel, Part.judgeWarmCeiling, Part.judgeHotCeiling, Part.judgeArmTrace, Part.judgeDryRun,
      Part.judgeAxlePairing, Part.promote]
    (repeat' split) <;> simp

theorem judgeTarget_setup (p : Part) (k : Kind) (n : Nat) (order : List Nat) (t : Nat) :
    (p.judgeTarget k n order t).1.setup =
      { p.setup with
        readyMode := (p.judgeTarget k n order t).1.setup.readyMode
        attnThreshold := (p.judgeTarget k n order t).1.setup.attnThreshold } := by
  unfold Part.judgeTarget
  split
  · exact p.judgeOwner_setup k n order t
  · rfl

/-! ### The reply that the judgements fix -/

/-- The reason of the reply is the lowest refused target's. -/
theorem lowestReason_eq (js : List Judgement) (hn : (js.map fun j => j.target).Nodup) (hlt : ∀ j ∈ js, j.target < 8) :
    ((∀ j ∈ js, j.refusal = none) → lowestReason js = none) ∧
      ∀ j ∈ js, j.refusal ≠ none → (∀ i ∈ js, i.refusal ≠ none → j.target ≤ i.target) → lowestReason js = j.refusal := by
  have find : ∀ j ∈ js, js.find? (fun i => i.target == j.target) = some j := by
    intro j hj
    rw [List.find?_eq_some_iff_append]
    obtain ⟨l, r, rfl⟩ := List.append_of_mem hj
    refine ⟨by simp, l, r, rfl, fun a ha => ?_⟩
    simp only [List.map_append, List.map_cons] at hn
    have := (List.nodup_append.mp hn).2.2 a.target (List.mem_map.mpr ⟨a, ha, rfl⟩) j.target (by simp)
    simp [this]
  constructor
  · intro h
    unfold lowestReason
    rw [List.findSome?_eq_none_iff]
    intro t _
    cases e : js.find? (fun j => j.target == t) with
    | none => rfl
    | some j => exact h j (List.mem_of_find?_eq_some e)
  · intro j hj hr hmin
    unfold lowestReason
    obtain ⟨x, hx⟩ := Option.ne_none_iff_exists'.mp hr
    rw [hx, List.findSome?_eq_some_iff]
    have ht := hlt j hj
    refine ⟨List.range j.target, j.target, List.range' (j.target + 1) (7 - j.target), ?_, ?_, ?_⟩
    · generalize j.target = n at ht ⊢; interval_cases n <;> rfl
    · rw [find j hj]; exact hx
    · intro t htm
      have : t < j.target := by simpa using htm
      cases e : js.find? (fun j => j.target == t) with
      | none => rfl
      | some i =>
        have hi := List.mem_of_find?_eq_some e
        have : i.target = t := by simpa using List.find?_some e
        show i.refusal = none
        by_contra hc
        have := hmin i hi hc; omega

theorem resultOf_eq (js : List Judgement) : resultOf js =
    if ∀ j ∈ js, j.refusal = none then .done else if ∃ j ∈ js, j.refusal = none then .partly else .refused := by
  unfold resultOf; simp

/-- The bit of a target in the refused mask. -/
theorem refusedBits (js : List Judgement) (m : BitVec 8) (t : Nat) (ht : t < 8) :
    (js.foldl (fun m j => if j.refusal.isSome then m ||| BitVec.ofNat 8 (2 ^ j.target) else m) m).getLsbD t = true ↔
      m.getLsbD t = true ∨ ∃ j ∈ js, j.target = t ∧ j.refusal ≠ none := by
  induction js generalizing m with
  | nil => simp
  | cons j js ih =>
    simp only [List.foldl_cons]; rw [ih]
    have hb : (BitVec.ofNat 8 (2 ^ j.target)).getLsbD t = true ↔ j.target = t := by
      rw [BitVec.getLsbD_ofNat, Nat.testBit_two_pow]; simp [ht]
    cases hr : j.refusal with
    | none => simp [hr]
    | some x =>
      simp only [Option.isSome_some, if_true, BitVec.getLsbD_or, Bool.or_eq_true, hb, List.mem_cons, exists_eq_or_imp, hr]
      simp [or_assoc]

/-- What gathering judgements does, where each is of a target of its own. -/
theorem gather_gathered {k : Kind} {cmd : Command} {js : List Judgement} {rest : List Nat} {p : Part}
    (hn : (js.map fun j => j.target).Nodup) (hlt : ∀ j ∈ js, j.target < 8) :
    Gathered k cmd js rest p (p.gather k cmd js rest) := by
  constructor
  · intro h
    cases rest with
    | nil => exact absurd rfl h
    | cons t r => rfl
  · rintro rfl
    refine ⟨_, ?_, rfl⟩
    obtain ⟨l1, l2⟩ := lowestReason_eq js hn hlt
    refine ⟨rfl, rfl, resultOf_eq js, ?_, l1, l2⟩
    intro t ht
    show (refusedMask k js).getLsbD t = true ↔ _
    unfold refusedMask
    split
    · simp_all
    · rw [refusedBits js 0 t ht]; simp_all

/-! ### Outstanding targets -/

/-- With no target outstanding nothing reaches an owner. -/
theorem judgeNext_none {p : Part} (h : p.setup.outstanding = []) : p.judgeNext = p := by
  unfold Part.judgeNext; rw [h]; split <;> first | rfl | simp_all

/-- The next outstanding target is judged against the part as it stands, and its judgement joins those before it. -/
theorem judgeNext_some {p : Part} {cmd : Command} {t : Nat} {rest : List Nat} {k : Kind} (hs : p.setup.state = .judging)
    (hc : p.setup.inHand = some cmd) (ho : p.setup.outstanding = t :: rest) (hk : Kind.ofCode cmd.kind.toNat = some k) :
    p.judgeNext =
      (p.judgeTarget k cmd.arg.toNat [] t).1.gather k cmd
        (p.setup.judgements ++ [⟨t, (p.judgeTarget k cmd.arg.toNat [] t).2⟩]) rest := by
  unfold Part.judgeNext; simp only [hs, hc, ho, hk]

theorem judgeOutstanding_none {p : Part} (h : p.judgeNext = p) (n : Nat) : p.judgeOutstanding n = p := by
  induction n with
  | zero => rfl
  | succ n ih => unfold Part.judgeOutstanding; rw [h, ih]

/-- With no target of a PROMOTE MAP outstanding nothing comes before a map write. -/
theorem promotionsFirst_none {p : Part} (h : p.setup.outstanding = []) : p.promotionsFirst = p := by
  unfold Part.promotionsFirst; (repeat' split) <;> first | rfl | exact judgeOutstanding_none (judgeNext_none h) _

/-- A step on an empty queue. -/
theorem step_empty {s : State} (h : s.pending = []) : step s = .next { s with part := s.part.judgeNext } := by
  unfold step; rw [h]

end Sys2Proof.Machine
end

