-- ==== Sys2Proof/Laws/Slots.lean ====
section
/-! SUPPORT. A closing write at a demand slot: what validation chooses, what a refusal leaves and what a take leaves. -/

namespace Sys2Proof.Machine

theorem insertEntry_length (n : Frame) (e : Entry) (l : List Entry) : (insertEntry n e l).length = l.length + 1 := by
  induction l with
  | nil => rfl
  | cons x l ih => unfold insertEntry; split <;> simp [ih]

/-- A closing write to a slot in FREE or FILLING is validated (R7). -/
theorem closeDemand_open {p : Part} {i : SlotId} {cw : ClosingWord}
    (h : (p.demandSlot i).state = .free ∨ (p.demandSlot i).state = .filling) :
    p.closeDemand i cw = p.validateDemand i cw := by
  unfold Part.closeDemand; rcases h with h | h <;> rw [h]

/-- What a refusal leaves: the slot REFUSING with its final owed and offered, and the event (R13). -/
theorem refuseDemand_captured (p : Part) (i : SlotId) (cw : ClosingWord) (reason : RefusalReason) (f : Frame) :
    (p.setDemand i { p.demandSlot i with closing := some cw }).refuseDemand i reason f =
      { p with
        demand := p.demand.set i
          { p.demandSlot i with state := .refusing, closing := some cw, final := some (.refused reason f) }
        engine := { p.engine with demand := offered p.engine.demand i }
        journal := p.journal.hand (.recordRefused i.val reason) f } := by
  simp [Part.refuseDemand, Part.setDemand, Part.offerDemand, Part.setEngine, Part.hand, Part.setJournal,
    Part.demandSlot]

/-- What a take leaves: the slot HELD with its take owed and offered, the entry listed, the last sequence and the silence
count, and QUEUE HIGH at the crossing (R12, R24, R34). -/
theorem takeDemand_captured (p : Part) (i : SlotId) (cw : ClosingWord) (r : DemandRecord) (sel : ValveSelect) :
    (p.setDemand i { p.demandSlot i with closing := some cw }).takeDemand i r sel =
      { p with
        demand := p.demand.set i
          { p.demandSlot i with state := .held, closing := some cw, take := some ⟨(p.corner r.corner).frame⟩ }
        engine := { p.engine with demand := offered p.engine.demand i }
        corners := p.corners.set r.corner
          { p.corner r.corner with
            list := insertEntry (p.corner r.corner).frame (entryOf i r sel (p.corner r.corner).frame)
              (p.corner r.corner).list
            lastTaken := some r.sequence, silence := 0 }
        journal :=
          if (p.corner r.corner).list.length < (p.corner r.corner).highMark ∧
              (p.corner r.corner).highMark ≤ (p.corner r.corner).list.length + 1 then
            p.journal.hand
              (.queueHigh r.corner ((p.corner r.corner).list.length + 1) (p.corner r.corner).highMark)
              (p.corner r.corner).frame
          else p.journal } := by
  unfold Part.takeDemand Part.queueHigh
  simp [insertEntry_length]
  split <;> simp_all [Part.setDemand, Part.setCorner, Part.offerDemand, Part.setEngine, Part.hand, Part.setJournal,
    Part.demandSlot, Part.corner]

end Sys2Proof.Machine
end

