-- ==== Sys2Proof/Tests/Slice0.lean ====
section
/-! SUPPORT. Small checks: the ill-formed commands that the well-formedness check refuses, figures that the spec works
out, and for each statement with hypotheses states and operands that meet them, clause by clause (`test_meets_…`). -/

namespace Sys2Proof.Tests

open Sys2Proof.Machine

set_option Elab.async false

/-! ## Helpers -/

/-- The reset state with its part changed. -/
def partWith (f : Part → Part) : State := { State.reset with part := f Part.reset }

/-- The reset state with channel 0 changed. -/
def channelWith (f : Channel → Channel) : State := partWith fun p => p.setChannel 0 (f (p.channel 0))

/-- The reset state with corner 0 changed. -/
def cornerWith (f : Corner → Corner) : State := partWith fun p => p.setCorner 0 (f (p.corner 0))

/-- A timer that has passed to frame 1 while corners and channels stand at frame 0. -/
def due : Timer := ⟨true, 1, 2⟩

/-- A beat on all lanes with good parity. -/
def fullGood (data : Word) : Beat := ⟨15, data, goodParity .odd data⟩

/-- A setup command's write on all lanes with good parity. -/
def command (code mask : BitVec 8) (arg : BitVec 12) : CommandWrite :=
  { mask := mask, tag := 1, arg := arg, lanes := 15, order := [], later := 0
    parity := goodParity .odd (arg ++ (1 : BitVec 4) ++ mask ++ code) }

/-- The state a command answers with. -/
def after (c : Instr) (s : State) : State :=
  match exec c s with
  | .next t => t
  | .fault _ => s
  | .refused _ => s

/-- The result and the reason of the reply that a command leaves owed. -/
def answer (c : Instr) (s : State) : Option (ReplyResult × Option ReplyReason) :=
  (after c s).part.setup.reply.map fun r => (r.result, r.reason)

/-- Twelve staged bytes that hold three words. -/
def staged (w0 w1 w2 : Word) : Vector StagedByte 12 :=
  Vector.ofFn fun k =>
    ⟨laneByte (if k.val < 4 then w0 else if k.val < 8 then w1 else w2) (k.val % 4), true, false⟩

/-- The right word 3 for a staging: its check code and the slot's number. -/
def closing (staging : Vector StagedByte 12) (number : Nat) : Word :=
  BitVec.ofNat 32 ((checkCode (staging.toList.map fun b => b.value)).toNat + 65536 * number)

/-- A pending list entry. -/
def entry (slot : SlotId) (sequence : Sequence) (target : Frame) : Entry :=
  { slot := slot, select := .both, timing := .atFrame, sequence := sequence, target := target, ramp := 4
    compression := 800, rebound := 500, takenAt := 0 }

/-- A two-point map from 200 mA to 1800 mA. -/
def line : List MapPoint := [⟨0, 200⟩, ⟨1000, 1800⟩]

/-- Channel 0 in TRACK on a map, with a tuned gain, at the current the map gives for its setpoint. -/
def tracking (ch : Channel) : Channel := { ch with state := .track, tunedGain := some 3, target := 1160 }

/-- A part whose valve 0 has the map and whose channel 0 tracks it, changed. -/
def trackWith (f : Channel → Channel) : State :=
  partWith fun p =>
    { p.setMap 0 { p.map 0 with active := some line } with
      channels := p.channels.set 0 (f (tracking (p.channel 0))), timer := due }

/-- A sample. -/
def sample (current : BitVec 12) (voltage : BitVec 16) : Sample := ⟨current, voltage⟩

/-! ## Well-formed commands -/

theorem test_wellFormed_refuses_known_kinds :
    (Instr.unknownKindCommand 1 (command 1 0 0)).wellFormed = false ∧
    (Instr.unknownKindCommand 25 (command 25 0 0)).wellFormed = false ∧
    (Instr.unknownKindCommand 0 (command 0 0 0)).wellFormed = true ∧
    (Instr.unknownKindCommand 26 (command 26 0 0)).wellFormed = true := by decide

theorem test_wellFormed_refuses_currents_out_of_range :
    (Instr.testCurrentReach 0 (sample 2501 0)).wellFormed = false ∧
    (Instr.resistanceMeasurementEnd 0 (sample 2501 0)).wellFormed = false ∧
    (Instr.settleSuccess 0 (sample 2501 0)).wellFormed = false ∧
    (Instr.trialEnd (sample 2501 0)).wellFormed = false ∧ (Instr.captureEnd (sample 2501 0)).wellFormed = false ∧
    (Instr.coilCurrentSample 0 (sample 2501 0)).wellFormed = false ∧
    (Instr.coilCurrentSample 0 (sample 2500 25000)).wellFormed = true := by decide

theorem test_wellFormed_refuses_voltages_out_of_range :
    (Instr.testCurrentReach 0 (sample 0 25001)).wellFormed = false ∧
    (Instr.resistanceMeasurementEnd 0 (sample 0 25001)).wellFormed = false ∧
    (Instr.settleSuccess 0 (sample 0 25001)).wellFormed = false ∧
    (Instr.trialEnd (sample 0 25001)).wellFormed = false ∧ (Instr.captureEnd (sample 0 25001)).wellFormed = false ∧
    (Instr.coilCurrentSample 0 (sample 0 25001)).wellFormed = false := by decide

theorem test_no_word_spells_a_command : decodeTableWord 32 0x1234 = none := rfl

/-! ## Figures of the spec -/

theorem test_check_code_of_the_digits :
    checkCode [0x31, 0x32, 0x33, 0x34, 0x35, 0x36, 0x37, 0x38, 0x39] = 0x29B1 := by decide +kernel

/-! ## Steps, reset and the memory path -/

theorem test_meets_StepPerformsTheFrontCommand :
    ({ State.reset with pending := [.frameBoundary, .queueLook] } : State).pending = .frameBoundary :: [.queueLook] ∧
    State.reset.pending = [] ∧ State.reset.part.setup.outstanding = [] := ⟨rfl, rfl, rfl⟩

/-- Commands of the rows that write slots, maps, the read index and plain words. -/
def blockWrites : List Instr :=
  [.demandSlotWrite 63 2 (fullGood 1), .demandClosingWrite 63 1 15, .urgentSlotWrite 3 2 (fullGood 1),
    .urgentClosingWrite 3 1 15, .mapPointWrite 7 15 (fullGood 1), .mapClosingWrite 7 1 15,
    .journalReadIndex (fullGood 1), .plainWrite 0x3FFFFF (fullGood 1)]

/-- Setup commands of the part, of corners and of an unknown kind. -/
def partAndCornerWrites : List Instr :=
  [.unknownKindCommand 26 (command 26 0 0), .framePeriod (command 1 0 0), .startFrames (command 2 0 0),
    .runCorners (command 3 1 0), .idleCorners (command 4 1 0), .limpFirmness (command 10 1 0),
    .limpRamp (command 11 1 0), .silenceLimit (command 12 1 2), .watermarks (command 13 1 0x71),
    .dryRun (command 21 1 1), .axlePairing (command 22 0 0), .readyMode (command 23 0 3),
    .attnThreshold (command 24 0 127), .restart (command 25 0 0)]

/-- Setup commands of valves. -/
def valveWrites : List Instr :=
  [.enableValves (command 5 1 0), .disableValves (command 6 1 0), .clearFault (command 7 1 0), .retune (command 8 1 0),
    .promoteMap (command 9 1 0), .settleTimeout (command 14 1 1), .searchReach (command 15 1 1),
    .warmLevel (command 16 1 1), .hotLevel (command 17 1 2047), .warmCeiling (command 18 1 2000),
    .hotCeiling (command 19 1 0), .armTrace (command 20 1 0)]

theorem test_meets_ForwardedWrite :
    State.reset.mem.wf = true ∧ (∀ c ∈ blockWrites, (writeOf State.reset.part.bridge c).isSome = true) ∧
    (∀ c ∈ partAndCornerWrites, (writeOf State.reset.part.bridge c).isSome = true) ∧
    (∀ c ∈ valveWrites, (writeOf State.reset.part.bridge c).isSome = true) := by decide +kernel

theorem test_meets_LaneParity :
    beatBadLanes .odd ⟨15, 0, 7⟩ = 8 ∧ beatBadLanes .even ⟨15, 0, 7⟩ = 7 ∧ beatBadLanes .odd ⟨6, 0, 0⟩ = 6 := by
  decide

/-- One word in hand at the engine, the wait count as given. -/
def waiting (n : Nat) : State :=
  partWith fun p =>
    { p with
      waitCount := n
      engine := { p.engine with hand := some ⟨.reply, [⟨setupOffset 1, .fixed 5, some .reply⟩]⟩ } }

theorem test_meets_AccessGrant :
    State.reset.part.engine.hand = none ∧
    ((waiting 7).part.engine.hand.isSome = true ∧ (waiting 7).part.waitCount < 8) ∧
    ((waiting 8).part.engine.hand.isSome = true ∧ 8 ≤ (waiting 8).part.waitCount) ∧
    (waiting 7).grantAccess.part.waitCount = 8 ∧ (waiting 8).grantAccess.part.waitCount = 0 := by decide +kernel

/-- The word in hand is the last of its item, and slot 63 owes a refusal behind it. -/
def waitingTwo : State :=
  let p := (waiting 8).part
  { waiting 8 with
    part :=
      { p with
        demand := p.demand.set 63 { p.demandSlot 63 with state := .refusing, final := some (.refused .check 9) }
        engine := { p.engine with demand := [63] } } }

/-- The word that the next item presents has waited out the access that forced the last one. -/
theorem test_meets_AccessGrant_next_item :
    waitingTwo.part.engine.hand.isSome = true ∧ 8 ≤ waitingTwo.part.waitCount ∧
    waitingTwo.grantAccess.part.engine.hand.map (fun x => x.kind) = some (.demand 63) ∧
    waitingTwo.grantAccess.part.waitCount = 1 := by decide +kernel

theorem test_engineWord_is_written_whole :
    ((after .engineWordWrite (waiting 0)).mem.word 4) = 5 ∧
    ((after .engineWordWrite (waiting 0)).part.setup.state) = .free := by decide +kernel

theorem test_meets_RegionLayout_first_and_last_words :
    classOfOffset (setupOffset 0) = .setupBlock ∧ classOfOffset (setupOffset 63) = .setupBlock ∧
    classOfOffset (urgentOffset 0 0) = .urgentSlot ∧ classOfOffset (urgentOffset 3 7) = .urgentSlot ∧
    classOfOffset (demandOffset 0 0) = .demandSlot ∧ classOfOffset (demandOffset 63 7) = .demandSlot ∧
    classOfOffset (mapOffset 0 0) = .mapBlock ∧ classOfOffset (mapOffset 7 31) = .mapBlock ∧
    classOfOffset (windowOffset 0) = .statusWindow ∧ classOfOffset (windowOffset 63) = .statusWindow ∧
    classOfOffset (ringOffset 0 0) = .journalRing ∧ classOfOffset (ringOffset 127 3) = .journalRing ∧
    classOfOffset (sampleOffset 0) = .traceArea ∧ classOfOffset (sampleOffset 63) = .traceArea := by decide +kernel

theorem test_meets_RegionLayout_between_the_blocks :
    (∀ o ∈ [0x180, 0x3FF, 0x1100, 0x17FF, 0x2104, 16383], classOfOffset o = .plain) ∧
    (⟨15, .odd, false, false⟩ : Bridge).offset ((⟨15, .odd, false, false⟩ : Bridge).wordAddress 16380) = some 16380 ∧
    (⟨1, .odd, false, false⟩ : Bridge).offset 0x3FFFF = none ∧
    (⟨1, .odd, false, false⟩ : Bridge).offset 0x40000 = some 0 ∧
    (⟨1, .odd, false, false⟩ : Bridge).offset 0x41000 = none := by decide +kernel

theorem test_meets_WritesByAddress_uncaptured :
    let b := State.reset.part.bridge
    b.offset 0x1000 = none ∧
    b.offset (b.wordAddress 0x180) = some 0x180 ∧ classOfOffset 0x180 = .plain ∧
    classOfOffset (setupOffset 1) = .setupBlock ∧ setupOffset 1 / 4 = 1 ∧
    classOfOffset (setupOffset 63) = .setupBlock ∧ setupOffset 63 / 4 = 63 ∧
    classOfOffset (urgentOffset 3 4) = .urgentSlot ∧ urgentOffset 3 4 / 4 % 8 = 4 ∧ urgentOffset 3 7 / 4 % 8 = 7 ∧
    classOfOffset (demandOffset 63 4) = .demandSlot ∧ demandOffset 63 4 / 4 % 8 = 4 ∧
    classOfOffset (mapOffset 7 1) = .mapBlock ∧ mapOffset 7 1 / 4 % 32 = 1 ∧ mapOffset 7 18 / 4 % 32 = 18 ∧
    classOfOffset (windowOffset 0) = .statusWindow := by decide +kernel

theorem test_meets_WritesByAddress_captured :
    (fullGood 0).lanes = 15 ∧ ((⟨14, 0, 15⟩ : Beat).lanes ≠ 15) ∧
    setupRow (.framePeriod (command 1 0 14)) = some (1, command 1 0 14) ∧ (command 1 0 14).order = [] ∧
    (command 1 0 14).later = 0 ∧
    answer (.plainWrite 0 (commandBeat 1 (command 1 0 14))) State.reset = some (.done, none) := by decide +kernel

theorem test_meets_ProcessorReads :
    State.reset.part.bridge.classOf 0x41000 = .plain ∧ State.reset.part.bridge.classOf 0 = .setupBlock ∧
    (after (.forwardedRead 0x3FFFFF) State.reset).part.port = ⟨0, 15⟩ ∧
    (after (.resetn 0 .even false 0) State.reset).part.bridge.psense = .even ∧
    (after (.forwardedRead 0) (after (.resetn 0 .even false 0) State.reset)).part.bridge.stickyM = true := by
  decide +kernel

theorem test_resetn_under_safe :
    ((after (.resetn 15 .even true 0x81) State.reset).part.corner 3).state = .safe ∧
    (after (.resetn 15 .even true 0x81) State.reset).part.driverFault 7 = true ∧
    (after (.resetn 15 .even true 0x81) State.reset).part.driverFault 1 = false := by decide +kernel

theorem test_statusWindow_of_reset :
    (after (.statusWindowRead 0) State.reset).part.port.data = 0x200000 ∧
    (after (.statusWindowRead 4) State.reset).part.port.data = 0xFFFFFFFF ∧
    (after (.statusWindowRead 63) State.reset).part.port.data = 0 := by decide +kernel

/-- The analyzer searching, the trace in hand, a corner with a last sequence, a channel with a tuned gain. -/
def shown : State :=
  partWith fun p =>
    { p.setCorner 3 { p.corner 3 with lastTaken := some 65535 } with
      channels := p.channels.set 7 { p.channel 7 with tunedGain := some 15 }
      analyzer :=
        { p.analyzer with
          state := .searching ⟨5, 0, .preDrive 0, none⟩, trace := .capturing, hand := some ⟨6, 3, 9, [], none⟩ } }

theorem test_meets_PartWordLayouts :
    shown.part.analyzer.state = .searching ⟨5, 0, .preDrive 0, none⟩ ∧
    (shown.part.analyzer.trace = .capturing ∧ shown.part.analyzer.hand = some ⟨6, 3, 9, [], none⟩) ∧
    (shown.part.corner 3).lastTaken = some 65535 ∧ (shown.part.channel 7).tunedGain = some 15 ∧
    (trackWith id).part.analyzer.state = .idle ∧
    (partWith fun p => { p with analyzer := { p.analyzer with state := .capturing 7 } }).part.analyzer.state =
      .capturing 7 ∧
    (partWith fun p => { p with analyzer := { p.analyzer with trace := .armed 7 } }).part.analyzer.trace = .armed 7 ∧
    (14 : Fin 64).val = 8 + 2 * (3 : CornerId).val ∧ (15 : Fin 64).val = 9 + 2 * (3 : CornerId).val ∧
    (44 : Fin 64).val = 16 + 4 * (7 : ValveId).val ∧ (47 : Fin 64).val = 19 + 4 * (7 : ValveId).val := by decide +kernel

theorem test_statusWindow_fields :
    (shown.part.statusWord 3).toNat = 1 + 5 * 4 + 2 * 256 + 6 * 1024 ∧
    (shown.part.statusWord 15).toNat = 65535 ∧ (shown.part.statusWord 44).toNat = 15 * 256 + 600 * 65536 := by
  decide +kernel

/-! ## Demand slots -/

/-- Slot 63 with a state and a staging, corner 3 changed, the channels of corner 3 on their map. -/
def slotWith (state : DemandState) (staging : Vector StagedByte 12) (f : Corner → Corner) : State :=
  partWith fun p =>
    { p.setCorner 3 (f (p.corner 3)) with
      demand := p.demand.set 63 { p.demandSlot 63 with state := state, staging := staging } }

/-- Words of a record for corner 3: valve select BOTH, a sequence, a target frame, firmnesses 1000 and 0. -/
def recordStaging (sequence target : Nat) : Vector StagedByte 12 :=
  staged (BitVec.ofNat 32 (3 + 4 * 2 + 65536 * sequence)) (BitVec.ofNat 32 target) 1000

theorem test_meets_Staging_demand :
    (∀ x ∈ [DemandState.free, .filling],
      (((slotWith x (recordStaging 1 1) id).arrived (demandOffset 63 2) (fullGood 0)).part.demandSlot 63).state = x) ∧
    (∀ x ∈ [DemandState.held, .retiring, .refusing],
      (((slotWith x (recordStaging 1 1) id).arrived (demandOffset 63 2) (fullGood 0)).part.demandSlot 63).state ≠ .free ∧
      (((slotWith x (recordStaging 1 1) id).arrived (demandOffset 63 2) (fullGood 0)).part.demandSlot 63).state ≠
        .filling) := by decide +kernel

theorem test_meets_ReceivedWordLayouts :
    (recordStaging 1 0x1234).toList[4 * 1 + 1]? = some ⟨0x12, true, false⟩ ∧
    (stagedWord (recordStaging 1 0x1234).toList 1).toNat / 2 ^ 8 % 256 = 0x12 := by decide +kernel

theorem test_demandSlotWrite_stages_a_bad_lane :
    ((after (.demandSlotWrite 63 2 ⟨8, 0xAB000000, 15⟩) State.reset).part.demandSlot 63).staging[11] =
      ⟨0xAB, true, true⟩ ∧
    ((after (.demandSlotWrite 63 2 ⟨8, 0xAB000000, 7⟩) State.reset).part.demandSlot 63).staging[11] =
      ⟨0xAB, true, false⟩ ∧
    ((after (.demandSlotWrite 63 2 ⟨0, 0, 0⟩) State.reset).part.demandSlot 63).state = .free := by decide +kernel

/-- Urgent slot 3 with a state, a staging and a cancel staging, corner 3 changed. -/
def urgentWith (state : UrgentState) (staging cancel : Vector StagedByte 12) (f : Corner → Corner) : State :=
  partWith fun p =>
    { p.setCorner 3 (f (p.corner 3)) with
      urgent := p.urgent.set 3 { p.urgentSlot 3 with state := state, staging := staging, cancel := cancel } }

theorem test_meets_Staging_urgent :
    ∀ x ∈ [UrgentState.free, .filling, .active, .owed],
      (((urgentWith x (staged 0 0 0) (staged 0 0 0) id).arrived (urgentOffset 3 2) (fullGood 0)).part.urgentSlot 3).state =
        x := by decide +kernel

theorem test_meets_Staging_map :
    (fullGood 0).lanes ≠ 0 ∧ (⟨0, 0, 0⟩ : Beat).lanes = 0 ∧
    (((partWith fun p => p.setMap 7 { p.map 7 with state := .valid }).arrived (mapOffset 7 17) (fullGood 0)).part.map
      7).state = .valid := by decide +kernel

theorem test_mapPointWrite_discards_a_valid_map :
    ((after (.mapPointWrite 7 15 (fullGood 1)) (partWith fun p => p.setMap 7 { p.map 7 with state := .valid })).part.map
      7).state = .filling := by decide +kernel

theorem test_meets_PartialClosingWriteIsNotCaptured :
    (⟨14, 0, 15⟩ : Beat).lanes ≠ 15 ∧ (⟨0, 0, 0⟩ : Beat).lanes ≠ 15 ∧ (fullGood 0).lanes = 15 := by decide

theorem test_meets_ClosingWriteToBusySlot_demand :
    ∀ x ∈ [DemandState.held, .retiring, .refusing],
      let f := (slotWith x (recordStaging 1 1) id).arrived (demandOffset 63 3) (fullBeat 0 15)
      (f.part.demandSlot 63).state ≠ .free ∧ (f.part.demandSlot 63).state ≠ .filling := by decide +kernel

theorem test_demandClosingWrite_to_a_held_slot :
    (after (.demandClosingWrite 63 0 15) (slotWith .held (recordStaging 1 1) id)).part.journal.staging =
      [⟨.slotBusy 63 .held, 0, 0, 0⟩] := by decide +kernel

/-- A cancel record for a hold with sequence 7, or another. -/
def cancelStaging (sequence : Nat) : Vector StagedByte 12 := staged (BitVec.ofNat 32 (4 + 2 + 65536 * sequence)) 0 0

/-- The hold that `cancelStaging 7` cancels. -/
def held : Hold := ⟨7, .both, 5, 3⟩

/-- An ACTIVE urgent slot with a cancel staging. -/
def holding (cancel : Vector StagedByte 12) : State :=
  urgentWith .active (staged 0 0 0) cancel fun k => { k with state := .run, hold := some held }

theorem test_meets_ClosingWriteToBusySlot_urgent :
    let right : Word := closing (cancelStaging 7) 67
    let f := fun (x : Vector StagedByte 12) (d : Word) =>
      (holding x).arrived (urgentOffset 3 3) (fullBeat d (goodParity .odd d))
    (((f (cancelStaging 7) right).part.urgentSlot 3).state = .active ∧
      ((f (cancelStaging 7) right).part.corner 3).hold = some held) ∧
    cancelFailure (Vector.replicate 12 .clear).toList ⟨right, 0⟩ 3 held = some .incomplete ∧
    cancelFailure (cancelStaging 7).toList ⟨right, 8⟩ 3 held = some .poisoned ∧
    cancelFailure (cancelStaging 7).toList ⟨right ^^^ 1, 0⟩ 3 held = some .check ∧
    cancelFailure (cancelStaging 7).toList ⟨closing (cancelStaging 7) 66, 0⟩ 3 held = some .slotMismatch ∧
    cancelFailure (staged 0x70002 0 0).toList ⟨closing (staged 0x70002 0 0) 67, 0⟩ 3 held = some .notCancel ∧
    cancelFailure (cancelStaging 8).toList ⟨closing (cancelStaging 8) 67, 0⟩ 3 held = some .sequence ∧
    (((urgentWith .owed (staged 0 0 0) (staged 0 0 0) id).arrived (urgentOffset 3 3) (fullBeat 0 15)).part.urgentSlot
      3).state = .owed := by decide +kernel

theorem test_meets_DemandRefused_on_its_bytes :
    (((slotWith .filling (recordStaging 1 1) id).arrived (demandOffset 63 3) (fullBeat 0 15)).part.demandSlot 63).state =
      .filling ∧
    (((slotWith .free (recordStaging 1 1) id).arrived (demandOffset 63 3) (fullBeat 0 15)).part.demandSlot 63).state =
      .free ∧
    recordFlaw (Vector.replicate 12 .clear).toList ⟨0, 0⟩ 63 = some .incomplete ∧
    recordFlaw (recordStaging 1 1).toList ⟨0, 1⟩ 63 = some .poisoned ∧
    recordFlaw (recordStaging 1 1).toList ⟨closing (recordStaging 1 1) 63 ^^^ 1, 0⟩ 63 = some .check ∧
    recordFlaw (recordStaging 1 1).toList ⟨closing (recordStaging 1 1) 62, 0⟩ 63 = some .slotMismatch := by
  decide +kernel

theorem test_meets_DemandRefused_on_its_range :
    let s := staged 0x1000B 1 1001
    recordFlaw s.toList ⟨closing s 63, 0⟩ 63 = none ∧ firmnessInRange (some .both) 1001 0 = false ∧
    firmnessInRange none 0 0 = false ∧ firmnessInRange (some .rebound) 1001 1000 = true := by decide +kernel

/-- What a record for corner 3 with a sequence and a target frame is refused for. -/
def refusalOf (f : Corner → Corner) (sequence target : Nat) : Option RefusalReason :=
  (f (State.reset.part.corner 3)).refusal
    { corner := 3, select := some .both, timing := .atFrame, ramp := 0, sequence := BitVec.ofNat 16 sequence
      target := BitVec.ofNat 16 target, compression := 1000, rebound := 0, check := 0, echo := 63 }

/-- A corner in RUN with a last taken sequence. -/
def running (k : Corner) : Corner := { k with state := .run, lastTaken := some 10 }

theorem test_meets_DemandRefused_at_its_corner :
    refusalOf id 1 1 = some .cornerIdle ∧ refusalOf (fun k => { k with state := .limp }) 1 1 = some .cornerLimp ∧
    refusalOf (fun k => { k with state := .safe }) 1 1 = some .cornerSafe ∧
    refusalOf running 10 1 = some .sequence ∧ refusalOf running 32778 1 = some .sequence ∧
    refusalOf running 32777 0 = some .stale ∧ refusalOf running 11 32768 = some .stale ∧
    refusalOf running 11 65 = some .tooEarly ∧ refusalOf running 11 32767 = some .tooEarly ∧
    refusalOf (fun k => { running k with list := List.replicate 8 (entry 0 5 3) }) 11 64 = some .queueFull ∧
    refusalOf (fun k => { running k with list := [entry 0 11 3] }) 11 64 = some .sequence ∧
    refusalOf running 11 64 = none ∧ refusalOf running 11 1 = none := by decide +kernel

/-- The record of sequence 1 at its last allowed frame, at a corner in RUN. -/
def takeable : State := slotWith .filling (recordStaging 1 64) fun k => { k with state := .run, silence := 9 }

/-- Its closing word. -/
def takeableClosing : Word := closing (recordStaging 1 64) 63

theorem test_meets_DemandTaken :
    let parity := goodParity .odd takeableClosing
    let f := takeable.arrived (demandOffset 63 3) (fullBeat takeableClosing parity)
    let d := f.part.demandSlot 63
    let r := d.record takeableClosing
    d.state = .filling ∧ recordFlaw d.staging.toList ⟨takeableClosing, takeable.badOf (fullBeat takeableClosing parity)⟩ 63 =
      none ∧ r.corner = 3 ∧ r.select = some .both ∧ firmnessInRange r.select r.compression r.rebound = true ∧
      (f.part.corner r.corner).refusal r = none := by decide +kernel

theorem test_demandClosingWrite_takes_a_record :
    let t := after (.demandClosingWrite 63 takeableClosing (goodParity .odd takeableClosing)) takeable
    (t.part.demandSlot 63).state = .held ∧ (t.part.corner 3).silence = 0 ∧
    ((t.part.corner 3).list.map fun e => (e.slot, e.target)) = [(63, 64)] ∧ t.part.engine.demand = [63] := by
  decide +kernel

theorem test_meets_NewEntryPlace :
    [entry 0 1 65535, entry 1 2 0].Pairwise (fun a b => ahead a.target 65534 ≤ ahead b.target 65534) ∧
    insertEntry 65534 (entry 2 3 65535) [entry 0 1 65535, entry 1 2 0] =
      [entry 0 1 65535, entry 2 3 65535, entry 1 2 0] := by decide +kernel

/-! ## Urgent slots -/

/-- An urgent record: valve select BOTH with a hold count and firmness 1000. -/
def urgentStaging (hold : Word) : Vector StagedByte 12 := staged 0x10002 hold 1000

theorem test_meets_UrgentRefused :
    let c := fun (h : Word) => closing (urgentStaging h) 67
    let f := fun (k : CornerState) (h : Word) =>
      (urgentWith .filling (urgentStaging h) (staged 0 0 0) fun x => { x with state := k }).arrived (urgentOffset 3 3)
        (fullBeat (c h) (goodParity .odd (c h)))
    ((f .run 0).part.urgentSlot 3).state = .filling ∧
    recordFlaw (urgentStaging 0).toList ⟨c 0, 1⟩ 67 = some .poisoned ∧
    (recordFlaw (urgentStaging 0).toList ⟨c 0, 0⟩ 67 = none ∧ (urgentRecordOf (urgentStaging 0).toList (c 0)).hold = 0) ∧
    (recordFlaw (urgentStaging 251).toList ⟨c 251, 0⟩ 67 = none ∧
      (urgentRecordOf (urgentStaging 251).toList (c 251)).hold = 251) ∧
    (recordFlaw (cancelStaging 7).toList ⟨closing (cancelStaging 7) 67, 0⟩ 67 = none ∧
      (urgentRecordOf (cancelStaging 7).toList 0).cancel = true) ∧
    ((f .idle 250).part.corner 3).state = .idle ∧ ((f .limp 250).part.corner 3).state = .limp ∧
    ((f .safe 250).part.corner 3).state = .safe := by decide +kernel

/-- An urgent slot about to take a record with a hold count, its corner in RUN. -/
def urgentTakeable (hold : Word) : State :=
  urgentWith .free (urgentStaging hold) (staged 0 0 0) fun x => { x with state := .run }

/-- Its closing word. -/
def urgentClosing (hold : Word) : Beat := fullGood (closing (urgentStaging hold) 67)

theorem test_meets_UrgentTaken_shortest :
    recordFlaw (urgentStaging 1).toList ⟨(urgentClosing 1).data, 0⟩ 67 = none ∧
    urgentRecordOf (urgentStaging 1).toList 0 = ⟨some .both, false, 0, 1, 1, 1000, 0, 0, 0⟩ ∧
    (urgentTakeable 1).badOf (urgentClosing 1) = 0 := by decide +kernel

theorem test_meets_UrgentTaken_longest :
    recordFlaw (urgentStaging 250).toList ⟨(urgentClosing 250).data, 0⟩ 67 = none ∧
    urgentRecordOf (urgentStaging 250).toList 0 = ⟨some .both, false, 0, 1, 250, 1000, 0, 0, 0⟩ ∧
    (((urgentTakeable 250).arrived (urgentOffset 3 3) (urgentClosing 250)).part.urgentSlot 3).state = .free ∧
    (((urgentTakeable 250).arrived (urgentOffset 3 3) (urgentClosing 250)).part.corner 3).state = .run := by
  decide +kernel

theorem test_urgentClosingWrite_overrides_both_valves :
    let b := urgentClosing 250
    let t := after (.urgentClosingWrite 3 b.data b.parity) (urgentTakeable 250)
    (t.part.channel 6).phase = .override 1000 ∧ (t.part.channel 7).phase = .override 0 ∧
    (t.part.corner 3).hold = some ⟨1, .both, 250, 0⟩ ∧ (t.part.urgentSlot 3).state = .active := by decide +kernel

theorem test_meets_UrgentCancelled :
    let c := closing (cancelStaging 7) 67
    let f := (holding (cancelStaging 7)).arrived (urgentOffset 3 3) (fullBeat c (goodParity .odd c))
    (f.part.urgentSlot 3).state = .active ∧ (f.part.corner 3).hold = some held ∧
    (holding (cancelStaging 7)).badOf (fullBeat c (goodParity .odd c)) = 0 ∧
    cancelFailure (f.part.urgentSlot 3).cancel.toList ⟨c, 0⟩ 3 held = none := by decide +kernel

theorem test_urgentClosingWrite_cancels :
    let c := closing (cancelStaging 7) 67
    let t := after (.urgentClosingWrite 3 c (goodParity .odd c)) (holding (cancelStaging 7))
    (t.part.urgentSlot 3).final = some (.cancelled 0) ∧ (t.part.channel 7).ends = [⟨0, 1⟩] ∧
    t.part.engine.urgent = [3] := by decide +kernel

/-! ## Maps and currents -/

/-- The staging of a map of two points. -/
def mapStaging : Vector StagedByte 64 :=
  Vector.ofFn fun k =>
    ⟨laneByte (if k.val < 4 then 0xC80000 else if k.val < 8 then 0x70803E8 else 0) (k.val % 4), decide (k.val < 8), false⟩

/-- Its header. -/
def mapHeader : Word := BitVec.ofNat 32 (2 + 65536 * (checkCode ((mapStaging.toList.take 8).map fun b => b.value)).toNat)

theorem test_meets_MapChecksInOrder :
    mapStaging.toList.length = 64 ∧ mapFlaw mapStaging.toList ⟨mapHeader, 0⟩ = none ∧
    mapFlaw mapStaging.toList ⟨mapHeader ^^^ 1, 0⟩ = some .incomplete ∧
    mapFlaw mapStaging.toList ⟨mapHeader, 2⟩ = some .poisoned ∧ mapFlaw mapStaging.toList ⟨1, 0⟩ = some .count ∧
    mapFlaw mapStaging.toList ⟨2, 0⟩ = some .check := by decide +kernel

theorem test_mapClosingWrite_validates :
    let t := after (.mapClosingWrite 7 mapHeader (goodParity .odd mapHeader))
      (partWith fun p => p.setMap 7 { p.map 7 with state := .filling, staging := mapStaging })
    (t.part.map 7).state = .valid ∧ (t.part.map 7).pendingPoints = line ∧ t.part.engine.map = [7] := by decide +kernel

theorem test_meets_MapInterpolation :
    wellShaped line = true ∧ (⟨1000, 1800⟩ ∈ line) ∧ line = [] ++ ⟨0, 200⟩ :: ⟨1000, 1800⟩ :: [] ∧
    interpolate line 0 = 200 ∧ interpolate line 1000 = 1800 ∧ interpolate line 1 = 202 ∧ interpolate line 999 = 1798 := by
  decide +kernel

/-- A descending map rounds halves up. -/
theorem test_interpolate_rounds_halves_up :
    interpolate [⟨0, 1⟩, ⟨2, 0⟩, ⟨1000, 0⟩] 1 = 1 ∧ interpolate [⟨0, 0⟩, ⟨2, 1⟩, ⟨1000, 1⟩] 1 = 1 := by decide +kernel

theorem test_meets_TargetRecomputed :
    let p := (trackWith id).part
    let q := fun (setpoint : Nat) => (trackWith fun ch => { ch with setpoint := setpoint }).part
    (p.channel 0).state = .track ∧ (p.channel 1).state ≠ .track ∧
    p.currentAt 0 (p.channel 0).drive = (p.channel 0).target ∧
    ((q 621).channel 0).target = 1160 ∧ (q 621).currentAt 0 ((q 621).channel 0).drive = 1194 ∧
    ((q 622).channel 0).target = 1160 ∧ (q 622).currentAt 0 ((q 622).channel 0).drive = 1195 ∧
    settleBand 1160 = 34 ∧ settleBand 666 = 20 ∧ settleBand 700 = 21 ∧
    p.analyzer.state = .idle ∧ p.analyzer.queue = [] ∧ (p.channel 0).tunedGain = some 3 := by decide +kernel

theorem test_recompute_starts_the_settle_timer_and_a_capture :
    let p := (trackWith fun ch => { ch with setpoint := 622 }).part
    let armed : Part := { p with analyzer := { p.analyzer with trace := .armed 0 } }
    ((p.recompute 0).channel 0).settle = some ⟨100, 0⟩ ∧ (p.recompute 0).analyzer.state = .idle ∧
    armed.analyzer.trace = .armed 0 ∧ (armed.recompute 0).analyzer.state = .capturing 0 ∧
    (((trackWith fun ch => { ch with setpoint := 621 }).part.recompute 0).channel 0).settle = none := by decide +kernel

theorem test_meets_TargetRecomputed_coil :
    (trackWith fun x => { x with state := .fault .settle }).part.coilOutput 0 = none ∧
    (trackWith fun x => { x with state := .prepare ⟨0, .reaching 0⟩, target := 250, tunedGain := none }).part.coilOutput 0 =
      some (250, 0) ∧
    (trackWith id).part.coilOutput 0 = some (1160, 3) ∧
    ((trackWith fun x => { x with state := .tune .searching, target := 800 }).part.setAnalyzer
      { Part.reset.analyzer with state := .searching ⟨0, 15, .step, none⟩ }).coilOutput 0 = some (800, 15) := by
  decide +kernel

/-- The phases that drive a channel. -/
theorem test_meets_TargetRecomputed_phases :
    ({ (State.reset.part.channel 0) with phase := .release 100 4 0 9 }).drive = 100 ∧
    ({ (State.reset.part.channel 0) with phase := .release 100 4 1 9 }).drive = 225 ∧
    ({ (State.reset.part.channel 0) with phase := .override 1000 }).drive = 1000 ∧
    blend 100 600 3 4 = 475 ∧ blend 600 101 1 4 = 476 ∧ blend 600 101 4 4 = 101 := by decide +kernel

/-- What a map of two points is refused for. -/
def flawOfPoints (a b : Word) : Option MapReason :=
  let bytes := [laneByte a 0, laneByte a 1, laneByte a 2, laneByte a 3, laneByte b 0, laneByte b 1, laneByte b 2,
    laneByte b 3]
  mapFlaw (bytes.map fun x => ⟨x, true, false⟩)
    ⟨BitVec.ofNat 32 (2 + 65536 * (checkCode bytes).toNat), 0⟩

theorem test_map_shape_and_range :
    flawOfPoints 0xC80001 0x70803E8 = some .shape ∧ flawOfPoints 0xC80000 0x70803E7 = some .shape ∧
    flawOfPoints 0xC80000 0x7D103E8 = some .range ∧ flawOfPoints 0xC80000 0x7D003E8 = none := by decide +kernel

/-! ## Setup commands -/

theorem test_meets_CommandRefusedWhole_not_dispatched :
    setupRow (.framePeriod { command 1 0 0 with lanes := 0 }) = some (1, { command 1 0 0 with lanes := 0 }) ∧
    (partWith fun p => { p with setup := { p.setup with state := .replying, inHand := some ⟨25, 0, 2, 0⟩ } }).part.setup =
      ⟨.replying, some ⟨25, 0, 2, 0⟩, [], [], none, .all, 1⟩ := by decide +kernel

theorem test_framePeriod_while_replying :
    (after (.framePeriod (command 1 0 0))
        (partWith fun p =>
          { p with setup := { p.setup with state := .replying, inHand := some ⟨25, 0, 2, 0⟩ } })).part.journal.staging =
      [⟨.setupOverrun 1 1 25 2, 0, 0, 0⟩] := by decide +kernel

theorem test_meets_CommandRefusedWhole_refused :
    answer (.framePeriod { command 1 0 0 with lanes := 7 }) State.reset = some (.refused, some .partialWrite) ∧
    answer (.framePeriod { command 1 0 0 with parity := 0 }) State.reset = some (.refused, some .parity) ∧
    answer (.unknownKindCommand 0 (command 0 0 0)) State.reset = some (.refused, some .unknownKind) ∧
    answer (.unknownKindCommand 26 (command 26 0 0)) State.reset = some (.refused, some .unknownKind) ∧
    answer (.runCorners (command 3 0xF0 0)) State.reset = some (.refused, some .target) ∧
    answer (.dryRun (command 21 0xF0 0)) State.reset = some (.refused, some .target) ∧
    answer (.enableValves (command 5 0 0)) State.reset = some (.refused, some .target) := by decide +kernel

theorem test_armTrace_names_one_valve :
    answer (.armTrace (command 20 0 0)) State.reset = some (.refused, some .target) ∧
    answer (.armTrace (command 20 0x81 0)) State.reset = some (.refused, some .target) ∧
    answer (.armTrace (command 20 0x80 0)) State.reset = some (.done, none) := by decide +kernel

theorem test_meets_CommandBroadcast :
    State.reset.hears 5 (command 5 0x81 0) ∧ Kind.ofCode 5 = some .enableValves ∧
    Kind.targetsOk .enableValves 0x81 = true ∧ setupRow (.enableValves (command 5 0x81 0)) = some (5, command 5 0x81 0) := by
  unfold State.hears; decide +kernel

/-- The reset state with maps at valves 0 and 7, once ENABLE VALVES has reached the one and not yet the other. -/
def halfJudged : State :=
  after (.enableValves { command 5 0x81 0 with later := 1 })
    (partWith fun p =>
      (p.setMap 0 { p.map 0 with active := some line }).setMap 7 { p.map 7 with active := some line })

theorem halfJudged_setup : halfJudged.part.setup =
    ⟨.judging, some ⟨5, 0x81, 1, 0⟩, [⟨0, none⟩], [7], none, .all, 1⟩ := by decide +kernel

/-- A command in hand, its targets partly judged. -/
theorem test_meets_CommandBroadcast_later : DecoderOrdered halfJudged.part := by
  have e : halfJudged.part.engine = .reset := by decide +kernel
  refine ⟨?_, ?_, ?_, ?_, ?_, ?_, ?_⟩ <;> rw [halfJudged_setup]
  · decide
  · decide
  · decide
  · exact fun _ => ⟨_, .enableValves, rfl, rfl, by decide⟩
  · exact fun h => nomatch h
  · rw [e]; exact fun h => nomatch h
  · rw [e]; intro it l w r h; exact nomatch h

/-- SAFE falls between the two targets: the second is judged by it. -/
theorem test_safe_between_two_targets :
    let p := (after (.safeAssertion []) halfJudged).part.judgeNext
    p.setup.reply = some ⟨5, 1, .partly, 0x80, some .safe⟩ ∧ (p.channel 0).state = .off := by decide +kernel

/-- Valve 7 can be enabled, valve 0 has no map: partly done. -/
theorem test_enableValves_partly :
    let s := partWith fun p => p.setMap 7 { p.map 7 with active := some line }
    ((after (.enableValves (command 5 0x81 0)) s).part.setup.reply =
      some ⟨5, 1, .partly, 1, some .noMap⟩) ∧
    ((after (.enableValves (command 5 0x81 0)) s).part.channel 7).target = 250 := by decide +kernel

theorem test_meets_PartSettings :
    State.reset.receives 1 (command 1 0 14) ∧ State.reset.receives 2 (command 2 0 0) ∧
    State.reset.receives 22 (command 22 0 1) ∧ State.reset.hears 23 { command 23 0 3 with later := 1 } ∧
    State.reset.hears 24 { command 24 0 127 with later := 1 } := by unfold State.receives State.hears; decide +kernel

theorem test_framePeriod_range :
    answer (.framePeriod (command 1 0 14)) State.reset = some (.done, none) ∧
    answer (.framePeriod (command 1 0 15)) State.reset = some (.refused, some .range) ∧
    answer (.framePeriod (command 1 0 0)) (partWith fun p => { p with timer := due }) =
      some (.refused, some .framesRunning) := by decide +kernel

theorem test_startFrames :
    (after (.startFrames (command 2 0 0)) State.reset).part.timer.running = true ∧
    answer (.startFrames (command 2 0 0)) (partWith fun p => { p with timer := due }) =
      some (.refused, some .framesRunning) := by decide +kernel

theorem test_axlePairing :
    (after (.axlePairing (command 22 0 0)) State.reset).part.pairing = false ∧
    answer (.axlePairing (command 22 0 2)) State.reset = some (.refused, some .range) := by decide +kernel

theorem test_readyMode :
    (after (.readyMode (command 23 0 3)) State.reset).part.lines.mode = .rear ∧
    answer (.readyMode (command 23 0 4)) State.reset = some (.refused, some .range) := by decide +kernel

theorem test_attnThreshold_range :
    answer (.attnThreshold (command 24 0 0)) State.reset = some (.refused, some .range) ∧
    answer (.attnThreshold (command 24 0 1)) State.reset = some (.done, none) ∧
    answer (.attnThreshold (command 24 0 127)) State.reset = some (.done, none) ∧
    answer (.attnThreshold (command 24 0 128)) State.reset = some (.refused, some .range) := by decide +kernel

/-- Corner 0 in a state, at a running timer. -/
def cornerIn (x : CornerState) : State :=
  partWith fun p => { p.setCorner 0 { p.corner 0 with state := x } with timer := due }

theorem test_meets_RunAndIdleCorners :
    (command 3 1 0).namesCorner 0 ∧ (command 3 8 0).namesCorner 3 ∧ (cornerIn .idle).receives 3 (command 3 1 0) ∧
    (cornerIn .run).receives 4 (command 4 1 0) ∧ ((cornerIn .run).met 4 (command 4 1 0)).corner 0 =
      { State.reset.part.corner 0 with state := .run } ∧
    (((cornerIn .safe).met 4 (command 4 1 0)).corner 0).state = .safe := by
  unfold State.receives State.hears CommandWrite.namesCorner; decide +kernel

theorem test_runCorners :
    answer (.runCorners (command 3 1 0)) (cornerIn .idle) = some (.done, none) ∧
    answer (.runCorners (command 3 1 0)) (cornerIn .limp) = some (.done, none) ∧
    answer (.runCorners (command 3 1 0)) (cornerIn .run) = some (.refused, some .wrongState) ∧
    answer (.runCorners (command 3 1 0)) State.reset = some (.refused, some .framesStopped) := by decide +kernel

theorem test_idleCorners :
    answer (.idleCorners (command 4 1 0)) (cornerIn .idle) = some (.refused, some .wrongState) ∧
    ((after (.idleCorners (command 4 1 0)) (cornerIn .limp)).part.channel 1).requests = [⟨600, 20, 1⟩] := by
  decide +kernel

/-- Channel 0 in a state with a map. -/
def valveIn (x : ChannelState) : State :=
  partWith fun p => (p.setMap 0 { p.map 0 with active := some line }).setChannel 0 { p.channel 0 with state := x }

theorem test_meets_EnableDisableClear :
    (command 5 1 0).namesValve 0 ∧ (command 5 0x80 0).namesValve 7 ∧ (valveIn .off).receives 5 (command 5 1 0) ∧
    (valveIn .track).receives 6 (command 6 1 0) ∧ (valveIn (.fault .settle)).receives 7 (command 7 1 0) ∧
    (((valveIn .off).met 6 (command 6 1 0)).channel 0).state = .off ∧
    (((valveIn .track).met 6 (command 6 1 0)).channel 0).state = .track ∧
    (((valveIn (.fault .settle)).met 7 (command 7 1 0)).channel 0).state = .fault .settle := by
  unfold State.receives State.hears CommandWrite.namesValve; decide +kernel

theorem test_enableValves :
    answer (.enableValves (command 5 1 0)) (valveIn .off) = some (.done, none) ∧
    answer (.enableValves (command 5 1 0)) (valveIn .track) = some (.refused, some .wrongState) ∧
    answer (.enableValves (command 5 1 0)) State.reset = some (.refused, some .noMap) := by decide +kernel

theorem test_disableValves :
    answer (.disableValves (command 6 1 0)) (valveIn .track) = some (.done, none) ∧
    answer (.disableValves (command 6 1 0)) (valveIn (.fault .settle)) = some (.refused, some .wrongState) := by
  decide +kernel

theorem test_clearFault :
    answer (.clearFault (command 7 1 0)) (valveIn (.fault .settle)) = some (.done, none) ∧
    answer (.clearFault (command 7 1 0)) (valveIn .off) = some (.refused, some .wrongState) := by decide +kernel

/-- A code of each end of each range of R134's classes. -/
theorem test_meets_CommandBroadcast_classes :
    [1, 2, 3, 4, 5, 9, 10, 13, 14, 20, 21, 22, 25].map (fun n => (Kind.ofCode n).map Kind.cls) =
      [some .global, some .global, some .corner, some .corner, some .valve, some .valve, some .corner, some .corner,
        some .valve, some .valve, some .corner, some .global, some .global] ∧
    Kind.ofCode 0 = none ∧ Kind.ofCode 26 = none := by decide +kernel

/-- Valve 0 with a valid pending map. -/
def promotable : State :=
  partWith fun p => p.setMap 0 { p.map 0 with state := .valid, staging := mapStaging, header := some ⟨mapHeader, 0⟩ }

/-- A promotion whose target is outstanding. -/
def promoting : State := after (.promoteMap { command 9 1 0 with later := 1 }) promotable

theorem test_meets_CommandBroadcast_promotion : promoting.part.setup =
    ⟨.judging, some ⟨9, 1, 1, 0⟩, [], [0], none, .all, 1⟩ := by decide +kernel

/-- A map write granted after PROMOTE MAP finds the promotion made. -/
theorem test_mapPointWrite_after_promotion :
    let t := after (.mapPointWrite 0 15 (fullGood 1)) promoting
    t.part.setup.reply = some ⟨9, 1, .done, 0, none⟩ ∧ (t.part.map 0).state = .filling ∧
    (t.part.map 0).active.isSome = true := by decide +kernel

theorem test_meets_RetuneAndPromote :
    (valveIn .track).receives 8 (command 8 1 0) ∧ (((valveIn .track).met 8 (command 8 1 0)).channel 0).state = .track ∧
    (((valveIn .track).met 8 (command 8 1 0)).corner 0).state = .idle ∧ promotable.receives 9 (command 9 1 0) ∧
    ((promotable.met 9 (command 9 1 0)).map 0).state = .valid ∧
    ((promotable.met 9 (command 9 1 0)).map 0).header = some ⟨mapHeader, 0⟩ ∧
    ((promotable.met 9 (command 9 1 0)).channel 0).state = .off ∧
    ((State.reset.met 9 (command 9 1 0)).map 0).state ≠ .valid := by unfold State.receives State.hears; decide +kernel

theorem test_meets_RetuneAndPromote_not_quiescent :
    let s : State := { promotable with
      part := (promotable.part.setChannel 0 { tracking (promotable.part.channel 0) with waiting := some ⟨1, 1⟩ }).setCorner
        0 { promotable.part.corner 0 with state := .run } }
    ((s.met 9 (command 9 1 0)).channel 0).state = .track ∧ ((s.met 9 (command 9 1 0)).corner 0).state = .run ∧
    ((s.met 9 (command 9 1 0)).channel 0).waiting = some ⟨1, 1⟩ ∧
    answer (.promoteMap (command 9 1 0)) s = some (.refused, some .notQuiescent) ∧
    answer (.retune (command 8 1 0)) s = some (.refused, some .notQuiescent) := by decide +kernel

theorem test_promoteMap :
    ((after (.promoteMap (command 9 1 0)) promotable).part.map 0).active = some line ∧
    answer (.promoteMap (command 9 1 0)) State.reset = some (.refused, some .noPendingMap) := by decide +kernel

theorem test_retune :
    (after (.retune (command 8 1 0)) (valveIn .track)).part.analyzer.queue = [0] ∧
    answer (.retune (command 8 1 0)) (valveIn .off) = some (.refused, some .wrongState) := by decide +kernel

theorem test_meets_CornerSettings :
    State.reset.receives 10 (command 10 1 1000) ∧ (cornerIn .run).receives 10 (command 10 1 1001) ∧
    (((cornerIn .run).met 10 (command 10 1 1000)).corner 0).state = .run ∧
    ((State.reset.met 10 (command 10 1 1000)).corner 0).state = .idle ∧ State.reset.receives 11 (command 11 1 255) ∧
    State.reset.receives 12 (command 12 1 255) ∧ State.reset.receives 13 (command 13 1 0x87) ∧
    State.reset.receives 21 (command 21 1 1) := by unfold State.receives State.hears; decide +kernel

theorem test_limpFirmness :
    ((after (.limpFirmness (command 10 1 1000)) State.reset).part.channel 1).setpoint = 1000 ∧
    answer (.limpFirmness (command 10 1 1001)) State.reset = some (.refused, some .range) := by decide +kernel

theorem test_limpRamp :
    ((after (.limpRamp (command 11 1 255)) State.reset).part.corner 0).limpRamp = 255 ∧
    answer (.limpRamp (command 11 1 256)) State.reset = some (.refused, some .range) := by decide +kernel

theorem test_silenceLimit :
    answer (.silenceLimit (command 12 1 1)) State.reset = some (.refused, some .range) ∧
    answer (.silenceLimit (command 12 1 2)) State.reset = some (.done, none) ∧
    answer (.silenceLimit (command 12 1 255)) State.reset = some (.done, none) ∧
    answer (.silenceLimit (command 12 1 256)) State.reset = some (.refused, some .range) := by decide +kernel

theorem test_watermarks :
    answer (.watermarks (command 13 1 0x87)) State.reset = some (.done, none) ∧
    answer (.watermarks (command 13 1 0x97)) State.reset = some (.refused, some .range) ∧
    answer (.watermarks (command 13 1 0x77)) State.reset = some (.refused, some .range) ∧
    answer (.watermarks (command 13 1 0x187)) State.reset = some (.refused, some .range) := by decide +kernel

theorem test_dryRun :
    ((after (.dryRun (command 21 1 1)) State.reset).part.corner 0).dryRun = true ∧
    answer (.dryRun (command 21 1 2)) State.reset = some (.refused, some .range) ∧
    answer (.dryRun (command 21 1 1)) (valveIn .track) = some (.refused, some .wrongState) := by decide +kernel

theorem test_meets_ValveSettings :
    State.reset.receives 14 (command 14 1 15) ∧ State.reset.receives 15 (command 15 1 8) ∧
    State.reset.receives 18 (command 18 1 2000) ∧ State.reset.receives 19 (command 19 1 0) ∧
    State.reset.receives 20 (command 20 1 0) ∧ (command 14 1 15).namesValve 0 := by
  unfold State.receives State.hears CommandWrite.namesValve; decide +kernel

theorem test_settleTimeout_and_searchReach :
    answer (.settleTimeout (command 14 1 0)) State.reset = some (.refused, some .range) ∧
    answer (.settleTimeout (command 14 1 15)) State.reset = some (.done, none) ∧
    answer (.settleTimeout (command 14 1 16)) State.reset = some (.refused, some .range) ∧
    answer (.searchReach (command 15 1 0)) State.reset = some (.refused, some .range) ∧
    answer (.searchReach (command 15 1 8)) State.reset = some (.done, none) ∧
    answer (.searchReach (command 15 1 9)) State.reset = some (.refused, some .range) := by decide +kernel

theorem test_ceilings :
    answer (.warmCeiling (command 18 1 2000)) State.reset = some (.done, none) ∧
    answer (.warmCeiling (command 18 1 2001)) State.reset = some (.refused, some .range) ∧
    answer (.warmCeiling (command 18 1 699)) State.reset = some (.refused, some .range) ∧
    answer (.hotCeiling (command 19 1 1200)) State.reset = some (.done, none) ∧
    answer (.hotCeiling (command 19 1 1201)) State.reset = some (.refused, some .range) := by decide +kernel

/-- Corner 3 in RUN with a HELD record and a hold, an urgent and a demand slot FILLING, a journal entry in hand. -/
def busy : State :=
  partWith fun p =>
    { p.setCorner 3 { p.corner 3 with state := .run, list := [entry 63 1 9], hold := some held, frame := 5 } with
      demand := (p.demand.set 63 { p.demandSlot 63 with state := .held }).set 0 { p.demandSlot 0 with state := .filling }
      urgent := (p.urgent.set 3 { p.urgentSlot 3 with state := .active }).set 0 { p.urgentSlot 0 with state := .filling }
      engine := { p.engine with hand := some ⟨.journal, [⟨ringOffset 0 0, .fixed 0, some .journal⟩]⟩, trace := true }
      timer := due }

theorem test_meets_Restart :
    busy.hears 25 { command 25 0 0 with later := 1 } ∧ (busy.met 25 (command 25 0 0)).listedSlots = [63] ∧
    ((busy.met 25 (command 25 0 0)).corner 3).list = [entry 63 1 9] ∧
    ((busy.met 25 (command 25 0 0)).corner 3).hold = some held ∧
    ((busy.met 25 (command 25 0 0)).corner 0).hold = none := by unfold State.hears; decide +kernel

theorem test_restart_flushes :
    let t := after (.restart (command 25 0 0)) busy
    (t.part.demandSlot 63).final = some (.flushed .restart 5) ∧ (t.part.demandSlot 0).state = .free ∧
    (t.part.urgentSlot 3).final = some (.flushed .restart 5) ∧ (t.part.urgentSlot 0).state = .free ∧
    t.part.engine.hand = none ∧ t.part.timer.running = false := by decide +kernel

/-! ## The journal -/

/-- A journal with read index 120 and write index 5: 13 entries unconsumed, the one at index 2 an alarm. -/
def ring : State :=
  partWith fun p => { p with journal := { p.journal with read := 120, write := 5, alarm := some 2, attn := true } }

theorem test_meets_JournalReadIndex :
    ring.badOf (fullGood 5) = 0 ∧ ring.badOf ⟨15, 5, 0⟩ ≠ 0 ∧ (⟨7, 5, 0⟩ : Beat).lanes ≠ 15 ∧
    (ring.arrived (setupOffset 2) (fullGood 5)).part.journal.read = 120 ∧
    (ring.arrived (setupOffset 2) (fullGood 5)).part.journal.write = 5 ∧
    (fullGood 5).data.toNat % 256 = 5 ∧ (fullGood 128).data.toNat % 256 = 128 ∧
    (6 + 128 - 120) % 128 = 14 ∧ (5 + 128 - 120) % 128 = 13 := by decide +kernel

theorem test_journalReadIndex_span :
    (after (.journalReadIndex (fullGood 5)) ring).part.journal.read = 5 ∧
    (after (.journalReadIndex (fullGood 5)) ring).part.journal.alarm = none ∧
    (after (.journalReadIndex (fullGood 2)) ring).part.journal.alarm = some 2 ∧
    (after (.journalReadIndex (fullGood 3)) ring).part.journal.alarm = none ∧
    (after (.journalReadIndex (fullGood 6)) ring).part.journal.staging =
      [⟨.badReadIndex .outOfSpan 6 120 5, 0, 0, 0⟩] ∧
    (after (.journalReadIndex (fullGood 128)) ring).part.journal.staging =
      [⟨.badReadIndex .outOfSpan 128 120 5, 0, 0, 0⟩] := by decide +kernel

/-- A journal with so many entries staged. -/
def stagedJournal (n : Nat) : Journal := { Journal.reset with staging := List.replicate n ⟨.restart, 0, 0, 0⟩ }

theorem test_meets_JournalHand :
    (stagedJournal 15).staging.length < 16 ∧ 16 ≤ (stagedJournal 16).staging.length ∧
    ((stagedJournal 16).hand .restart 0).lost = 1 := by decide +kernel

/-! ## Frames -/

theorem test_meets_FrameBoundaries :
    State.reset.part.timer.running = false ∧ (cornerIn .idle).part.timer.running = true ∧
    ((cornerIn .idle).part.corner 0).frame ≠ (cornerIn .idle).part.timer.frame ∧
    ((cornerIn .idle).part.corner 0).state ≠ .run ∧
    (after .frameBoundary (partWith fun p => { p with timer := ⟨true, 65535, 2⟩ })).part.timer.frame = 0 := by
  decide +kernel

/-- Corner 0 in RUN with two due entries and one not due, and a hold with so many frames left. -/
def boundary (left : Nat) : State :=
  partWith fun p =>
    { p.setCorner 0
        { p.corner 0 with
          state := .run, silence := 48, list := [entry 4 1 1, entry 5 2 1, entry 6 3 2], lowMark := 1
          hold := some { held with left := left } } with
      timer := due }

theorem test_meets_CornerBoundaryInRun :
    (boundary 1).part.timer.running = true ∧ ((boundary 1).part.corner 0).frame ≠ (boundary 1).part.timer.frame ∧
    ((boundary 1).part.corner 0).state = .run ∧
    ((boundary 1).part.corner 0).silence + 1 < ((boundary 1).part.corner 0).silenceLimit ∧
    ((((boundary 1).part.corner 0).list.filter fun e => decide (e.target = 1)).map fun e => e.slot) = [4, 5] ∧
    ((boundary 1).part.corner 0).hold = some { held with left := 1 } ∧
    ((boundary 2).part.corner 0).hold = some { held with left := 2 } := by decide +kernel

theorem test_cornerFrameBoundary_applies_and_supersedes :
    let t := after (.cornerFrameBoundary 0) (boundary 2)
    (t.part.demandSlot 4).final = some (.superseded 1) ∧ (t.part.demandSlot 5).final = some (.applied 1 0 0) ∧
    (t.part.channel 0).requests = [⟨800, 4, 1⟩] ∧ ((t.part.corner 0).hold.map fun h => h.left) = some 1 ∧
    t.part.journal.staging.map (fun e => e.event) = [.queueLow 0 1 1] := by decide +kernel

theorem test_holdExpiry :
    (after (.holdExpiry 0) (boundary 1)).part.urgent[0].final = some (.ended 1) ∧
    ((after (.holdExpiry 0) (boundary 1)).part.channel 1).ends = [⟨3, 1⟩] ∧
    ((after (.holdExpiry 0) (boundary 2)).part.corner 0).frame = 0 := by decide +kernel

/-- Corner 0 in RUN with a silence count, at a boundary. -/
def silent (n : Nat) : State :=
  partWith fun p => { p.setCorner 0 { p.corner 0 with state := .run, silence := n } with timer := due }

/-- Corner 1 in a state with a notice from corner 0. -/
def noticed (x : CornerState) : State :=
  partWith fun p => p.setCorner 1 { p.corner 1 with state := x, notices := [⟨0, 3⟩] }

theorem test_meets_SilenceAndPartner :
    ((silent 49).part.timer.running = true ∧ ((silent 49).part.corner 0).frame ≠ (silent 49).part.timer.frame ∧
      ((silent 49).part.corner 0).state = .run ∧
      ((silent 49).part.corner 0).silenceLimit ≤ ((silent 49).part.corner 0).silence + 1) ∧
    ¬((silent 48).part.corner 0).silenceLimit ≤ ((silent 48).part.corner 0).silence + 1 ∧
    (State.reset.part.corner 1).notices = [] ∧ ((noticed .run).part.corner 1).notices = [⟨0, 3⟩] ∧
    ((noticed .run).part.corner 1).state = .run ∧ ((noticed .limp).part.corner 1).state ≠ .run := by decide +kernel

theorem test_silenceExpiry_notifies_the_partner :
    let t := after (.silenceExpiry 0) (silent 49)
    (t.part.corner 0).limpCause = .silence ∧ (t.part.corner 1).notices = [⟨0, 1⟩] ∧
    ((after (.silenceExpiry 0) (silent 48)).part.corner 0).state = .run := by decide +kernel

theorem test_partnerNotice :
    ((after (.partnerNotice 1) (noticed .run)).part.corner 1).limpCause = .partner ∧
    ((after (.partnerNotice 1) (noticed .run)).part.corner 0).notices = [] ∧
    ((after (.partnerNotice 1) (noticed .limp)).part.corner 1).notices = [] := by decide +kernel

theorem test_meets_ChannelBoundary :
    let ch := fun (f : Channel → Channel) => (trackWith f).part.channel 0
    State.reset.part.timer.running = false ∧ (trackWith id).part.timer.running = true ∧
    (ch id).frame ≠ (trackWith id).part.timer.frame ∧
    (ch fun x => { x with requests := [⟨1, 1, 0⟩] }).requests = [⟨1, 1, 0⟩] ∧
    ¬(1 ≤ ahead 0 (ch id).frame ∧ ahead 0 (ch id).frame < 32768) ∧
    (1 ≤ ahead 1 (ch id).frame ∧ ahead 1 (ch id).frame < 32768) ∧
    (ch fun x => { x with ends := [⟨1, 0⟩] }).ends = [⟨1, 0⟩] ∧
    (ch fun x => { x with waiting := some ⟨700, 1⟩ }).waiting = some ⟨700, 1⟩ ∧
    (ch fun x => { x with ramp := some ⟨600, 700, 2, 1⟩ }).ramp = some ⟨600, 700, 2, 1⟩ ∧
    (ch fun x => { x with phase := .release 100 2 1 0 }).phase = .release 100 2 1 0 := by decide +kernel

theorem test_channelFrameBoundary :
    let t := fun (f : Channel → Channel) => ((after (.channelFrameBoundary 0) (trackWith f)).part.channel 0)
    (t fun x => { x with waiting := some ⟨700, 2⟩ }).ramp = some ⟨600, 700, 2, 1⟩ ∧
    (t fun x => { x with waiting := some ⟨700, 2⟩ }).setpoint = 650 ∧
    (t fun x => { x with phase := .release 100 2 0 2 }).phase = .release 100 2 0 2 ∧
    (t fun x => { x with phase := .release 100 2 0 1 }).phase = .release 100 2 1 1 := by decide +kernel

theorem test_setpointRampEnd :
    let t := fun (n : Nat) =>
      (after (.setpointRampEnd 0) (trackWith fun x => { x with ramp := some ⟨600, 700, 3, n⟩ })).part.channel 0
    (t 2).setpoint = 700 ∧ (t 2).ramp = none ∧ (t 1).setpoint = 600 := by decide +kernel

theorem test_releaseEnd :
    let t := fun (n : Nat) =>
      (after (.releaseEnd 0) (trackWith fun x => { x with phase := .release 100 3 n 0 })).part.channel 0
    (t 2).phase = .none ∧ (t 1).phase = .release 100 3 1 0 := by decide +kernel

theorem test_meets_RequestsReachValves :
    let ch := fun (f : Channel → Channel) => (trackWith f).part.channel 0
    (ch id).requests = [] ∧ (ch id).ends = [] ∧
    (ch fun x => { x with requests := [⟨1, 0, 2⟩] }).requests = [⟨1, 0, 2⟩] ∧
    ahead 2 (ch id).frame = 2 ∧ ahead 1 (ch id).frame = 1 ∧ ahead 32768 (ch id).frame = 32768 ∧
    (ch fun x => { x with phase := .override 9, ends := [⟨1, 1⟩] }).phase = .override 9 ∧
    (ch fun x => { x with phase := .override 9, ends := [⟨1, 1⟩] }).ends = [⟨1, 1⟩] := by decide +kernel

theorem test_rampRequest :
    let t := fun (r : RampRequest) =>
      (after (.rampRequest 0) (trackWith fun x => { x with previous := 500, requests := [r] })).part.channel 0
    (t ⟨700, 0, 1⟩).setpoint = 700 ∧ (t ⟨700, 4, 1⟩).waiting = some ⟨700, 4⟩ ∧
    (t ⟨700, 4, 0⟩).ramp = some ⟨500, 700, 4, 1⟩ ∧ (t ⟨700, 4, 2⟩).requests = [⟨700, 4, 2⟩] := by decide +kernel

theorem test_overrideEnd :
    let t := fun (e : OverrideEnd) =>
      (after (.overrideEnd 0) (trackWith fun x => { x with phase := .override 900, ends := [e] })).part.channel 0
    (t ⟨1, 0⟩).phase = .none ∧ (t ⟨2, 0⟩).phase = .release 900 2 1 0 ∧ (t ⟨1, 1⟩).phase = .release 900 1 0 1 := by
  decide +kernel

/-- Channel 0 in OVERRIDE before its boundary, with a request of a length and an end on their way for the next frame. -/
def crossing (length : Nat) : State :=
  trackWith fun x => { x with phase := .override 900, requests := [⟨700, length, 1⟩], ends := [⟨2, 1⟩] }

theorem test_meets_EitherOrder :
    (crossing 0).part.timer.running = true ∧ ((crossing 0).part.channel 0).frame ≠ (crossing 0).part.timer.frame ∧
    ((crossing 0).part.channel 0).requests = [⟨700, 0, 1⟩] ∧ ((crossing 0).part.channel 0).ends = [⟨2, 1⟩] ∧
    (1 : Frame) = ((crossing 0).part.channel 0).frame + 1 ∧ ((crossing 4).part.channel 0).requests = [⟨700, 4, 1⟩] := by
  decide +kernel

/-- Any three commands are performed one after another. -/
theorem test_meets_EitherOrder_performed (a b c : Instr) (s t u w : State) (h : exec a s = .next t)
    (h1 : exec b t = .next u) (h2 : exec c u = .next w) : performs [a, b, c] s w := ⟨t, h, u, h1, w, h2, rfl⟩

/-- The previous-frame setpoint after a step and a boundary shows their order; the setpoint does not. -/
theorem test_step_before_and_after_the_boundary :
    let first := (after (.channelFrameBoundary 0) (after (.rampRequest 0) (crossing 0))).part.channel 0
    let last := (after (.rampRequest 0) (after (.channelFrameBoundary 0) (crossing 0))).part.channel 0
    first.setpoint = 700 ∧ last.setpoint = 700 ∧ first.previous = 700 ∧ last.previous = 600 := by decide +kernel

/-! ## The current loop -/

/-- Channel 0 in PREPARE after so many samples, at a stage. -/
def preparing (elapsed : Nat) (stage : PrepareStage) (gain : Option (Fin 16)) : State :=
  trackWith fun x => { x with state := .prepare ⟨elapsed, stage⟩, target := 250, tunedGain := gain }

/-- The state of channel 0 after a command. -/
def stateAfter (c : Instr) (s : State) : ChannelState := ((after c s).part.channel 0).state

theorem test_meets_PrepareTest :
    ((preparing 99 (.reaching 3) none).part.channel 0).state = .prepare ⟨99, .reaching 3⟩ ∧
    ((preparing 100 (.reaching 3) none).part.channel 0).state = .prepare ⟨100, .reaching 3⟩ ∧
    ((preparing 9 (.measuring 99 24750 0) none).part.channel 0).state = .prepare ⟨9, .measuring 99 24750 0⟩ ∧
    ((preparing 399 (.passed 430) none).part.channel 0).state = .prepare ⟨399, .passed 430⟩ ∧
    ((preparing 399 (.passed 430) (some 3)).part.channel 0).tunedGain = some 3 ∧
    (sample 230 0).current.toNat = 230 ∧ (sample 270 0).current.toNat = 270 := by decide +kernel

theorem test_testCurrentReach :
    stateAfter (.testCurrentReach 0 (sample 270 0)) (preparing 99 (.reaching 3) none) =
      .prepare ⟨100, .measuring 0 0 0⟩ ∧
    stateAfter (.coilCurrentSample 0 (sample 230 0)) (preparing 99 (.reaching 2) none) = .prepare ⟨100, .reaching 3⟩ ∧
    stateAfter (.coilCurrentSample 0 (sample 229 0)) (preparing 98 (.reaching 3) none) = .prepare ⟨99, .reaching 0⟩ ∧
    stateAfter (.testCurrentReach 0 (sample 271 0)) (preparing 98 (.reaching 3) none) = .prepare ⟨98, .reaching 3⟩ := by
  decide +kernel

theorem test_prepareTimeout :
    stateAfter (.prepareTimeout 0) (preparing 99 (.reaching 0) none) = .fault .openCircuit ∧
    stateAfter (.prepareTimeout 0) (preparing 98 (.reaching 0) none) = .prepare ⟨98, .reaching 0⟩ := by decide +kernel

/-- 100 samples of 250 mA: 2.25 V is 9.0 Ω and 375 mV is 1.5 Ω, both in range. -/
theorem test_resistanceMeasurementEnd :
    let t := fun (volts : Nat) (x : BitVec 16) =>
      stateAfter (.resistanceMeasurementEnd 0 (sample 250 x)) (preparing 9 (.measuring 99 24750 volts) none)
    t 222750 2250 = .prepare ⟨10, .passed 900⟩ ∧ t 222750 2251 = .fault .openCircuit ∧
    t 37125 375 = .prepare ⟨10, .passed 150⟩ ∧ t 37125 374 = .fault .shortCircuit := by decide +kernel

theorem test_prepareEnd :
    stateAfter (.prepareEnd 0) (preparing 399 (.passed 430) none) = .tune .waiting ∧
    stateAfter (.prepareEnd 0) (preparing 399 (.passed 430) (some 3)) = .track ∧
    stateAfter (.prepareEnd 0) (preparing 398 (.passed 430) none) = .prepare ⟨398, .passed 430⟩ := by decide +kernel

/-- Channel 0 in TRACK with a settle timer and misses. -/
def settling (left inBand misses : Nat) : State :=
  trackWith fun x => { x with settle := some ⟨left, inBand⟩, misses := misses }

theorem test_meets_SettleSupervision :
    ((settling 1 3 2).part.channel 0).state = .track ∧ ((settling 1 3 2).part.channel 0).settle = some ⟨1, 3⟩ ∧
    ((settling 0 3 2).part.channel 0).settle = some ⟨0, 3⟩ ∧ (settling 1 3 2).part.analyzer.state ≠ .capturing 0 ∧
    ((trackWith id).part.channel 0).settle = none ∧ (valveIn .off).part.channel 0 = State.reset.part.channel 0 := by
  decide +kernel

theorem test_settleSuccess :
    let t := fun (left : Nat) (x : BitVec 12) =>
      ((after (.settleSuccess 0 (sample x 0)) (settling left 3 2)).part.channel 0)
    (t 1 1194).settle = none ∧ (t 1 1194).misses = 0 ∧ (t 1 1126).misses = 0 ∧ (t 1 1195).misses = 2 ∧
    (t 0 1194).misses = 2 := by decide +kernel

theorem test_settleMiss :
    stateAfter (.settleMiss 0) (settling 1 3 2) = .fault .settle ∧ stateAfter (.settleMiss 0) (settling 1 3 1) = .track ∧
    ((after (.settleMiss 0) (settling 1 3 1)).part.channel 0).misses = 2 ∧
    ((after (.settleMiss 0) (settling 2 3 1)).part.channel 0).misses = 1 := by decide +kernel

theorem test_meets_DriverLine :
    State.reset.part.driverFault 7 = false ∧
    (partWith fun p => { p with lines := { p.lines with dflt := p.lines.dflt.set 7 true } }).part.driverFault 7 = true ∧
    ((trackWith id).part.channel 0).state.isOffOrFault = false ∧
    (State.reset.part.channel 0).state.isOffOrFault = true := by decide +kernel

theorem test_driverLine :
    stateAfter (.driverLine 0 true) (trackWith id) = .fault .driver ∧
    stateAfter (.driverLine 0 true) (valveIn .off) = .off ∧
    (after (.driverLine 0 false) State.reset).part.journal.staging = [] := by decide +kernel

/-- Channel 0 with a heat index and level, at the reset levels 16384 and 32768. -/
def heatWith (index : Nat) (level : ThermalLevel) : Heat := { Heat.reset with index := index, level := level }

theorem test_meets_HeatLevels :
    Heat.reset.warmLevel < Heat.reset.hotLevel ∧
    (heatWith 16383 .cool).evaluated = .cool ∧ (heatWith 16384 .cool).evaluated = .warm ∧
    (heatWith 32767 .cool).evaluated = .warm ∧ (heatWith 32768 .cool).evaluated = .hot ∧
    (heatWith 14335 .warm).evaluated = .cool ∧ (heatWith 14336 .warm).evaluated = .warm ∧
    (heatWith 32768 .warm).evaluated = .hot ∧ (heatWith 30719 .hot).evaluated = .warm ∧
    (heatWith 30720 .hot).evaluated = .hot ∧ (heatWith 14335 .hot).evaluated = .cool := by decide

/-- Channels 0 and 1 WAITING in the Tune Queue of an IDLE analyzer, with their levels; channel 1 has cooled, or warmed, to
WARM. -/
def heatQueue (a b : ThermalLevel) : State :=
  partWith fun p =>
    { p with
      channels := (p.channels.set 0 { p.channel 0 with state := .tune .waiting, heat := heatWith 40000 a }).set 1
        { p.channel 1 with state := .tune .waiting, heat := heatWith 20000 b }
      analyzer := { p.analyzer with queue := [0, 1] } }

theorem test_meets_HeatLevels_looks :
    ((heatQueue .hot .hot).part.channel 1).heat.evaluated = .warm ∧
    ((heatQueue .hot .cool).part.channel 1).heat.evaluated = .warm ∧
    ((heatQueue .hot .hot).part.channel 1).state = .tune .waiting ∧
    ((heatQueue .hot .hot).part.channel 0).heat.level = .hot ∧ (heatQueue .hot .hot).part.analyzer.queue = [0, 1] ∧
    (heatQueue .hot .cool).part.analyzer.state = .idle ∧ ((heatQueue .hot .cool).part.channel 1).heat.level ≠ .hot := by
  decide +kernel

/-- The channel that is no longer HOT is taken at its level change, whatever stands before it in the queue; a look that is
due is made first. -/
theorem test_level_change_looks_at_the_queue :
    ((heatQueue .hot .hot).part.evaluateLevel 1).analyzer.state = .searching ⟨1, 0, .preDrive 0, none⟩ ∧
    ((heatQueue .hot .hot).part.evaluateLevel 1).analyzer.queue = [0] ∧
    ((heatQueue .cool .cool).part.evaluateLevel 1).analyzer.state = .searching ⟨0, 0, .preDrive 0, none⟩ ∧
    (((heatQueue .cool .cool).part.evaluateLevel 1).channel 1).heat.level = .warm := by decide +kernel

theorem test_heatUpdate :
    let t := fun (i n : Nat) =>
      ((after (.heatUpdate 0)
        (channelWith fun x => { x with measured := i, heat := heatWith n .cool })).part.channel 0).heat
    (t 2500 0).index = 78 ∧ (t 282 0).index = 0 ∧ (t 283 0).index = 1 ∧ (t 2500 65535).index = 65504 ∧
    (t 2500 65535).level = .hot := by decide +kernel

theorem test_meets_HeatLevels_commands :
    State.reset.receives 16 (command 16 1 2047) ∧ State.reset.receives 17 (command 17 1 1025) ∧
    (command 16 1 2047).namesValve 0 ∧ (command 17 1 1025).namesValve 0 := by
  unfold State.receives State.hears CommandWrite.namesValve; decide +kernel

theorem test_warmLevel_and_hotLevel :
    answer (.warmLevel (command 16 1 2047)) State.reset = some (.done, none) ∧
    answer (.warmLevel (command 16 1 2048)) State.reset = some (.refused, some .range) ∧
    answer (.hotLevel (command 17 1 1025)) State.reset = some (.done, none) ∧
    answer (.hotLevel (command 17 1 1024)) State.reset = some (.refused, some .range) := by decide +kernel

/-! ## The SAFE line -/

/-- The busy corner and a tracking channel, under the SAFE level given. -/
def safeLine (asserted : Bool) : State :=
  { busy with part := { busy.part with lines := { busy.part.lines with safe := asserted } } }

/-- Every corner in SAFE under an asserted SAFE line. -/
def safeState : State := after (.resetn 0 .odd true 0) State.reset

theorem test_meets_SafeLine :
    (safeLine true).part.lines.safe = true ∧ (safeLine false).part.lines.safe = false ∧
    (safeLine false).part.listedSlots = [63] ∧ ((safeLine false).part.corner 3).hold.isSome = true ∧
    (∀ v, (safeLine false).part.analyzer.trace ≠ .armed v) ∧ safeState.part.lines.safe = true ∧
    (∀ c, (safeState.part.corner c).state = .safe) := by decide +kernel

theorem test_meets_SafeLine_analyzed :
    let p : Part := { shown.part with
      channels := shown.part.channels.set 5 { shown.part.channel 5 with state := .tune .searching } }
    (p.channel 5).state = .tune .searching ∧ p.analyzer.state.searchesFor 5 = true ∧ p.analyzer.trace = .capturing := by
  decide +kernel

/-- Channel 0 in TRACK under an override to its target, its setpoint's current far from it, and an armed trace. -/
def armedTrack : State :=
  let p := (trackWith fun x => { x with setpoint := 0, phase := .override 600 }).part
  { State.reset with part := { p with analyzer := { p.analyzer with trace := .armed 0 } } }

/-- Whether the capture starts depends on which of corner 0 and valve 0 SAFE reaches first. -/
theorem test_meets_SafeLine_armed :
    let p := armedTrack.part
    p.analyzer.trace = .armed 0 ∧ (p.channel 0).state = .track ∧ (p.channel 0).target = 1160 ∧
    p.currentAt 0 (p.channel 0).setpoint = 200 ∧ p.analyzer.state = .idle ∧
    (after (.safeAssertion []) armedTrack).part.analyzer.trace = .writing ∧
    (after (.safeAssertion [4, 4, 4]) armedTrack).part.analyzer.trace = .armed 0 := by decide +kernel

theorem test_safeAssertion :
    let t := after (.safeAssertion [3, 1]) (safeLine false)
    (t.part.demandSlot 63).final = some (.flushed .safe 5) ∧ (t.part.corner 0).state = .safe ∧
    t.part.journal.staging.length = 4 ∧ t.part.journal.staging.head?.map (fun e => e.event) = some (.safeEnter 3 .run) := by
  decide +kernel

theorem test_safeRelease :
    let t := after (.safeRelease []) safeState
    (t.part.corner 3).state = .idle ∧ (t.part.channel 7).setpoint = 600 ∧ t.part.lines.safe = false ∧
    t.part.journal.staging.map (fun e => e.event) = [.safeExit 0, .safeExit 1, .safeExit 2, .safeExit 3] := by
  decide +kernel

/-! ## The Step Analyzer -/

/-- Channels 0 and 1 WAITING in the Tune Queue, channel 0 HOT, and an analyzer state. -/
def queued (x : AnalyzerState) : State :=
  partWith fun p =>
    { p with
      channels := (p.channels.set 0 { p.channel 0 with state := .tune .waiting, heat := heatWith 40000 .hot }).set 1
        { p.channel 1 with state := .tune .waiting }
      analyzer := { p.analyzer with state := x, queue := [0, 1] } }

theorem test_meets_QueueLookAndPreDrive :
    (queued .idle).part.analyzer.state = .idle ∧ (queued .idle).part.analyzer.queue = [0] ++ 1 :: [] ∧
    ((queued .idle).part.channel 0).heat.level = .hot ∧ ((queued .idle).part.channel 1).heat.level ≠ .hot ∧
    (queued .writing).part.analyzer.state ≠ .idle ∧
    (queued (.searching ⟨2, 0, .preDrive 40, none⟩)).part.analyzer.state = .searching ⟨2, 0, .preDrive 40, none⟩ ∧
    State.reset.part.analyzer.queue = [] := by decide +kernel

theorem test_queueLook :
    (after .queueLook (queued .idle)).part.analyzer.state = .searching ⟨1, 0, .preDrive 0, none⟩ ∧
    (after .queueLook (queued .idle)).part.analyzer.queue = [0] ∧
    ((after .queueLook (queued .idle)).part.channel 1).target = 200 := by decide +kernel

theorem test_preDriveEnd :
    ((after .preDriveEnd (queued (.searching ⟨2, 0, .preDrive 40, none⟩))).part.channel 2).target = 800 ∧
    ((after .preDriveEnd (queued (.searching ⟨2, 0, .preDrive 39, none⟩))).part.channel 2).target = 0 := by
  decide +kernel

/-- Channel 0 in its search, with a gain index, a phase, a buffer and a best trial, its trial being captured. -/
def searching (gain : Nat) (phase : TrialPhase) (buffer : List Nat) (best : Option BestTrial) : State :=
  let s := trackWith fun x => { x with state := .tune .searching, target := 800 }
  { s with
    part :=
      { s.part with
        analyzer :=
          { s.part.analyzer with
            state := .searching ⟨0, gain, phase, best⟩, buffer := buffer, trace := .capturing
            hand := some ⟨0, gain, 0, [], none⟩ } } }

theorem test_meets_TrialSamples :
    ((searching 0 .step [] none).part.channel 0).state = .tune .searching ∧
    (searching 0 .step (List.replicate 62 800) none).part.analyzer.state = .searching ⟨0, 0, .step, none⟩ ∧
    (List.replicate 62 800).length < 63 ∧ 63 ≤ (List.replicate 63 800).length ∧
    (searching 0 (.preDrive 3) [] none).part.analyzer.state = .searching ⟨0, 0, .preDrive 3, none⟩ := by decide +kernel

theorem test_trialEnd_starts_the_next_trial :
    (after (.trialEnd (sample 800 0)) (searching 0 .step (List.replicate 63 800) none)).part.analyzer.state =
      .searching ⟨0, 1, .preDrive 0, some ⟨0, 1280⟩⟩ ∧
    (after (.trialEnd (sample 800 0)) (searching 0 .step (List.replicate 62 800) none)).part.analyzer.buffer.length =
      62 := by decide +kernel

theorem test_trialEnd_completes_the_search :
    ((after (.trialEnd (sample 774 0)) (searching 3 .step (List.replicate 63 800) (some ⟨0, 7⟩))).part.channel 0).tunedGain =
      some 0 ∧
    stateAfter (.trialEnd (sample 774 0)) (searching 15 .step (List.replicate 63 800) none) = .fault .untunable := by
  decide +kernel

theorem test_meets_TrialScore :
    (List.replicate 64 800).length = 64 ∧ (List.replicate 64 800)[63]? = some 800 ∧ 800 ∈ List.replicate 64 800 ∧
    trialScore (List.replicate 64 800) = some 1280 ∧
    trialScore (List.replicate 63 774 ++ [825]) = some (-5) ∧ trialScore (List.replicate 63 800 ++ [826]) = none ∧
    trialScore (List.replicate 62 1200 ++ [1100, 775]) = some (-280) := by decide +kernel

/-- Channel 0 captured in TRACK with a buffer. -/
def captured (buffer : List Nat) : State :=
  let s := settling 5 0 0
  { s with
    part :=
      { s.part with
        analyzer :=
          { s.part.analyzer with
            state := .capturing 0, buffer := buffer, trace := .capturing, hand := some ⟨0, 3, 0, [], none⟩ } } }

theorem test_meets_TraceCapture :
    ((captured []).part.channel 0).state = .track ∧ (captured []).part.analyzer.state = .capturing 0 ∧
    (captured []).part.analyzer.trace = .capturing ∧ (captured (List.replicate 63 0)).part.analyzer.buffer.length = 63 := by
  decide +kernel

theorem test_captureEnd :
    let t := after (.captureEnd (sample 1159 0)) (captured (List.replicate 63 0))
    t.part.analyzer.hand = some ⟨0, 3, 0, [⟨1159, 1160⟩], some .complete⟩ ∧ t.part.engine.trace = true ∧
    t.part.analyzer.trace = .writing ∧
    (after (.captureEnd (sample 1159 0)) (captured (List.replicate 62 0))).part.analyzer.state = .capturing 0 := by
  decide +kernel

/-! ## The Write-Back Engine -/

/-- A part that owes one piece of work. -/
def owing (e : Engine) : State :=
  partWith fun p =>
    { p with
      engine := e
      demand := p.demand.set 63 { p.demandSlot 63 with state := .retiring, take := some ⟨4⟩, final := some (.superseded 6) }
      urgent := p.urgent.set 3 { p.urgentSlot 3 with state := .owed, final := some (.ended 6) }
      setup := { p.setup with reply := some ⟨25, 0, .done, 0, none⟩ }
      analyzer := { p.analyzer with hand := some ⟨0, 3, 0, [], some .complete⟩ } }

/-- The kind of the item in hand after a choice, and how many words it has. -/
def chosenKind (s : State) : Option (ItemKind × Nat) :=
  (after .engineItemChoice s).part.engine.hand.map fun it => (it.kind, it.words.length)

theorem test_meets_EngineItemChoice :
    chosenKind (owing ⟨[3], [63], [7], true, true, none⟩) = some (.urgent 3, 2) ∧
    chosenKind (owing ⟨[], [63], [7], true, true, none⟩) = some (.demand 63, 5) ∧
    chosenKind (owing ⟨[], [], [7], true, true, none⟩) = some (.map 7, 1) ∧
    chosenKind (owing ⟨[], [], [], true, true, none⟩) = some (.reply, 1) ∧
    chosenKind (owing ⟨[], [], [], false, true, none⟩) = some (.trace, 1) ∧
    chosenKind (owing ⟨[], [], [], false, false, none⟩) = none := by decide +kernel

/-- One journal entry staged at a ring with so many entries unconsumed. -/
def ringOf (write : BitVec 7) : State :=
  partWith fun p => { p with journal := { stagedJournal 1 with write := write } }

theorem test_meets_EngineItemChoice_ring :
    chosenKind (ringOf 126) = some (.journal, 4) ∧ chosenKind (ringOf 127) = none ∧
    ((ringOf 126).part.journal.write - (ringOf 126).part.journal.read).toNat < 127 := by decide +kernel

/-- One polled word in hand, with its notice. -/
def polled (n : Notice) : State :=
  let s := owing ⟨[], [], [], false, false, some ⟨.reply, [⟨0x2100, .fixed 9, some n⟩]⟩⟩
  { s with part := { s.part with journal := stagedJournal 1 } }

theorem test_meets_EngineWordWrite :
    (polled .journal).mem.wf = true ∧
    (polled .journal).part.engine.hand = some ⟨.reply, ⟨0x2100, .fixed 9, some .journal⟩ :: []⟩ ∧
    (polled .journal).part.journal.staging = ⟨.restart, 0, 0, 0⟩ :: [] ∧
    (polled .trace).part.analyzer.hand = some ⟨0, 3, 0, [], some .complete⟩ ∧ State.reset.part.engine.hand = none := by
  decide +kernel

theorem test_engineWordWrite_publishes :
    (after .engineWordWrite (polled (.demandTake 63))).part.demand[63].take = none ∧
    (after .engineWordWrite (polled (.demandFinal 63))).part.demand[63].state = .free ∧
    (after .engineWordWrite (polled (.urgentFinal 3))).part.urgent[3].state = .free ∧
    (after .engineWordWrite (polled .reply)).part.setup.reply = none ∧
    (after .engineWordWrite (polled .journal)).part.journal.write = 1 ∧
    (after .engineWordWrite (polled .journal)).part.journal.attn = true ∧
    (after .engineWordWrite (polled .trace)).part.analyzer.hand = none := by decide +kernel

/-! ## What every step keeps -/

theorem test_meets_EveryStepKeepsMemoryCanonical :
    (⟨[(4, 5), (7, 1)], [(4, false)]⟩ : Memory).wf = true ∧ (⟨[(4, 0)], []⟩ : Memory).wf = false ∧
    (⟨[(4, 5), (4, 6)], []⟩ : Memory).wf = false := by decide

theorem test_meets_EveryStepKeepsTheLoop : LoopCoherent (trackWith id).part ∧ SafeHeld (trackWith id).part := by
  constructor
  · refine ⟨?_, by decide +kernel, by decide +kernel, by decide +kernel, by decide +kernel, by decide +kernel,
      by decide +kernel⟩
    intro v
    fin_cases v <;> exact (rfl : _ = _)
  · exact ⟨by decide +kernel, by decide +kernel⟩

theorem test_meets_EveryStepKeepsOutputsDriven : OutputsDriven (trackWith id).part :=
  ⟨by decide +kernel, by decide +kernel, by decide +kernel, by decide +kernel, by decide +kernel, by decide +kernel⟩

/-- A corner in RUN with a HELD record and a hold, and a slot RETIRING. -/
def listed : State :=
  partWith fun p =>
    { p.setCorner 3 { p.corner 3 with state := .run, list := [entry 63 1 69], hold := some held, frame := 5 } with
      demand := (p.demand.set 63 { p.demandSlot 63 with state := .held }).set 0
        { p.demandSlot 0 with state := .retiring, final := some (.superseded 5) }
      urgent := p.urgent.set 3 { p.urgentSlot 3 with state := .active }
      timer := due }

theorem test_meets_EveryStepKeepsTheLists :
    CornersOrdered listed.part ∧ SlotsListed listed.part ∧ FinalsOwed listed.part := by
  refine ⟨⟨by decide +kernel, by decide +kernel, by decide +kernel, by decide +kernel, by decide +kernel,
    by decide +kernel, by decide +kernel, by decide +kernel⟩, ⟨by decide +kernel, by decide +kernel⟩,
    ⟨by decide +kernel, by decide +kernel, ?_, ?_⟩⟩
  · intro it l w r i h; exact nomatch h
  · intro it l w r c h; exact nomatch h

theorem test_meets_EveryStepKeepsTheSettings_settings : SettingsOrdered (trackWith id).part := by
  refine ⟨by decide +kernel, by decide +kernel, by decide +kernel, ?_, by decide +kernel⟩
  intro v pts h
  have e : ∀ v : ValveId, (trackWith id).part.map v =
      if v = 0 then { State.reset.part.map 0 with active := some line } else State.reset.part.map 0 := by
    decide +kernel
  rw [e v] at h
  split at h
  · obtain rfl : line = pts := Option.some.inj h
    decide +kernel
  · exact nomatch h

end Sys2Proof.Tests
end

section
/-! The closing write of an urgent slot that is FREE or FILLING: what reaches Slot Capture, which check refuses the record,
and what a refusal leaves. -/

namespace Sys2Proof.Machine

/-! ### Reaching the slot -/

/-- The row of the closing write hands its word and the bad lanes of the write to Slot Capture. -/
theorem exec_urgentClosingWrite (c : CornerId) (data : Word) (parity : Lanes) (s : State) :
    exec (.urgentClosingWrite c data parity) s =
      .next { s.arrived (urgentOffset c 3) (fullBeat data parity) with
        part := (s.arrived (urgentOffset c 3) (fullBeat data parity)).part.closeUrgent c
          ⟨data, s.badOf (fullBeat data parity)⟩ } :=
  congrArg Host.Outcome.next (s.regionWrite_eq _ _ _)

/-- A closing write to a slot in FREE or FILLING is validated (R45). -/
theorem closeUrgent_open {p : Part} {c : CornerId} {cw : ClosingWord}
    (h : (p.urgentSlot c).state = .free ∨ (p.urgentSlot c).state = .filling) :
    p.closeUrgent c cw = p.validateUrgent c cw := by
  unfold Part.closeUrgent; rcases h with h | h <;> rw [h]

/-! ### The checks of R45 -/

/-- The range check fails on a cancel mark, a hold count outside 1 to 250, or a firmness out of range. -/
theorem urgentInRange_eq_false_iff (r : UrgentRecord) :
    urgentInRange r = false ↔ r.cancel = true ∨ r.hold = 0 ∨ 250 < r.hold ∨
      firmnessInRange r.select r.compression r.rebound = false := by
  have hold : ¬(1 ≤ r.hold ∧ r.hold ≤ 250) ↔ r.hold = 0 ∨ 250 < r.hold := by omega
  simp only [urgentInRange, Bool.and_eq_false_iff, Bool.not_eq_false', decide_eq_false_iff_not, hold, or_assoc]

/-- A valve select that names nothing is out of range. -/
theorem urgentInRange_of_select_none {r : UrgentRecord} (h : r.select = none) : urgentInRange r = false := by
  simp [urgentInRange, firmnessInRange, h]

theorem CornerState.refusal_eq_some_iff (k : CornerState) (reason : RefusalReason) :
    k.refusal = some reason ↔ (k = .idle ∧ reason = .cornerIdle) ∨ (k = .limp ∧ reason = .cornerLimp) ∨
      (k = .safe ∧ reason = .cornerSafe) := by
  cases k <;> simp [CornerState.refusal, eq_comm]

/-- The refusal of an urgent record, by its first failing check: a flaw of its bytes, its range, its corner's state. -/
def urgentRefusal (staging : List StagedByte) (cw : ClosingWord) (c : CornerId) (k : CornerState) :
    Option RefusalReason :=
  match recordFlaw staging cw (64 + c.val) with
  | some flaw => some flaw.refusal
  | none => if urgentInRange (urgentRecordOf staging cw.data) = false then some .range else k.refusal

theorem urgentRefusal_eq_some_iff (staging : List StagedByte) (cw : ClosingWord) (c : CornerId) (k : CornerState)
    (reason : RefusalReason) :
    urgentRefusal staging cw c k = some reason ↔
      (∃ flaw, recordFlaw staging cw (64 + c.val) = some flaw ∧ reason = flaw.refusal) ∨
      (recordFlaw staging cw (64 + c.val) = none ∧ urgentInRange (urgentRecordOf staging cw.data) = false ∧
        reason = .range) ∨
      (recordFlaw staging cw (64 + c.val) = none ∧ ¬urgentInRange (urgentRecordOf staging cw.data) = false ∧
        k.refusal = some reason) := by
  unfold urgentRefusal
  cases recordFlaw staging cw (64 + c.val) with
  | some flaw => simp [eq_comm (a := reason)]
  | none => by_cases hr : urgentInRange (urgentRecordOf staging cw.data) = false <;> simp [hr, eq_comm (a := reason)]

/-! ### The refusal (R47) -/

/-- Validation refuses a record that fails a check, at the corner's frame. -/
theorem validateUrgent_refused {p : Part} {c : CornerId} {cw : ClosingWord} {reason : RefusalReason}
    (h : urgentRefusal (p.urgentSlot c).staging.toList cw c (p.corner c).state = some reason) :
    p.validateUrgent c cw =
      (p.setUrgent c { p.urgentSlot c with closing := some cw }).refuseUrgent c reason (p.corner c).frame := by
  unfold Part.validateUrgent
  obtain ⟨flaw, hflaw, rfl⟩ | ⟨hflaw, hrange, rfl⟩ | ⟨hflaw, hrange, hcorner⟩ :=
    (urgentRefusal_eq_some_iff ..).1 h
  case inl => simp only [hflaw]
  case inr.inl => simp only [hflaw, hrange, if_true]; split <;> rfl
  case inr.inr =>
    simp only [hflaw, hrange, hcorner]
    split
    case h_1 hsel => exact absurd (urgentInRange_of_select_none hsel) hrange
    case h_2 => rfl

/-- What a refusal leaves: the slot OWED with its final owed and offered, and the event. -/
theorem refuseUrgent_captured (p : Part) (c : CornerId) (cw : ClosingWord) (reason : RefusalReason) (f : Frame) :
    (p.setUrgent c { p.urgentSlot c with closing := some cw }).refuseUrgent c reason f =
      { p with
        urgent := p.urgent.set c
          { p.urgentSlot c with state := .owed, closing := some cw, final := some (.refused reason f) }
        engine := { p.engine with urgent := offered p.engine.urgent c }
        journal := p.journal.hand (.recordRefused (64 + c.val) reason) f } := by
  simp [Part.refuseUrgent, Part.setUrgent, Part.offerUrgent, Part.setEngine, Part.hand, Part.setJournal,
    Part.urgentSlot]

/-- Settles O20: the failing check is the one that validation meets first, and the refusal leaves the rest alone. -/
theorem urgentRefused : Obligations.UrgentRefused := by
  intro c data parity s reason f d k cw r flaw outOfRange hopen hfails
  have refused : urgentRefusal d.staging.toList cw c k.state = some reason := by
    rw [urgentRefusal_eq_some_iff, urgentInRange_eq_false_iff, CornerState.refusal_eq_some_iff]
    exact hfails
  rw [exec_urgentClosingWrite, closeUrgent_open hopen, validateUrgent_refused refused, refuseUrgent_captured]

end Sys2Proof.Machine
end

section
/-! The current that a well-shaped map gives (R80): which of its points a firmness lies on or between, the recursion of
`interpolate` down to them, and the value on the segment. -/

namespace Sys2Proof.Machine

/-! ### The shape of a map (R77) -/

/-- `rising` compares neighbours only. -/
theorem rising_iff_isChain : ∀ pts : List MapPoint,
    rising pts = true ↔ pts.IsChain fun a b => a.firmness < b.firmness
  | [] => by simp [rising]
  | [_] => by simp [rising]
  | a :: b :: rest => by simp [rising, rising_iff_isChain (b :: rest)]

/-- A point of a strictly rising map is below every later one. -/
theorem rising_iff_pairwise (pts : List MapPoint) :
    rising pts = true ↔ pts.Pairwise fun a b => a.firmness < b.firmness :=
  have : IsTrans MapPoint fun a b => a.firmness < b.firmness := ⟨fun _ _ _ => Nat.lt_trans⟩
  (rising_iff_isChain pts).trans List.isChain_iff_pairwise

theorem wellShaped_iff (pts : List MapPoint) :
    wellShaped pts = true ↔ (∃ a ∈ pts.head?, a.firmness = 0) ∧ (∃ z ∈ pts.getLast?, z.firmness = 1000) ∧
      pts.Pairwise fun a b => a.firmness < b.firmness := by
  unfold wellShaped
  rw [← rising_iff_pairwise]
  cases pts.head? <;> cases pts.getLast? <;> simp [and_assoc]

/-- A firmness from a map's first point to its last is that of a point or lies between two neighbours; the order of the
points plays no part. -/
theorem firmness_on_point_or_between {pts : List MapPoint} {f : Nat} (hfirst : ∃ a ∈ pts.head?, a.firmness ≤ f)
    (hlast : ∃ z ∈ pts.getLast?, f ≤ z.firmness) :
    (∃ q ∈ pts, q.firmness = f) ∨ ∃ l a b r, pts = l ++ a :: b :: r ∧ a.firmness < f ∧ f < b.firmness := by
  induction pts with
  | nil => simp at hfirst
  | cons a rest ih =>
    have ha : a.firmness ≤ f := by simpa using hfirst
    obtain heq | hlt := ha.eq_or_lt
    · exact .inl ⟨a, List.mem_cons_self, heq⟩
    cases rest with
    | nil =>
      have : f ≤ a.firmness := by simpa using hlast
      omega
    | cons b rest =>
      by_cases hfb : f < b.firmness
      · exact .inr ⟨[], a, b, rest, rfl, hlt, hfb⟩
      obtain ⟨q, hq, hqf⟩ | ⟨l, c, d, r, hsplit, hcd⟩ := ih ⟨b, rfl, Nat.le_of_not_lt hfb⟩ (by simpa using hlast)
      · exact .inl ⟨q, List.mem_cons_of_mem a hq, hqf⟩
      · exact .inr ⟨a :: l, c, d, r, by rw [hsplit, List.cons_append], hcd⟩

/-! ### The value on a segment -/

/-- On a segment the current is the exact value rounded to the nearest mA, halves up. -/
theorem segmentCurrent_eq_floor {a b : MapPoint} {f : Nat} (haf : a.firmness < f) (hfb : f < b.firmness) :
    (segmentCurrent a b f : ℤ) =
      ⌊(a.current : ℚ) + ((b.current : ℚ) - a.current) * ((f : ℚ) - a.firmness) / ((b.firmness : ℚ) - a.firmness) +
        1 / 2⌋ := by
  have hwidth : (b.firmness : ℚ) - a.firmness ≠ 0 := sub_ne_zero.2 (by exact_mod_cast (haf.trans hfb).ne')
  unfold segmentCurrent
  rw [Int.natCast_div, ← Rat.floor_natCast_div_natCast]
  congr 1
  push_cast [Nat.cast_sub haf.le, Nat.cast_sub hfb.le, Nat.cast_sub (haf.trans hfb).le]
  field_simp
  ring

/-- Rounding a weighted mean of two numbers to a whole one keeps it between whole bounds of both. -/
theorem rounded_mean_between {x y u v m M : Nat} (hpos : 0 < u + v) (hmx : m ≤ x) (hmy : m ≤ y) (hxM : x ≤ M)
    (hyM : y ≤ M) :
    m ≤ (2 * (x * v + y * u) + (u + v)) / (2 * (u + v)) ∧
      (2 * (x * v + y * u) + (u + v)) / (2 * (u + v)) ≤ M := by
  have hlow : m * v + m * u ≤ x * v + y * u := by gcongr
  have hhigh : x * v + y * u ≤ M * v + M * u := by gcongr
  constructor
  · rw [Nat.le_div_iff_mul_le (by omega)]
    linarith
  · rw [← Nat.lt_succ_iff, Nat.div_lt_iff_lt_mul (by omega), Nat.succ_eq_add_one]
    linarith

/-- On a segment the current lies between the two ends' currents. -/
theorem segmentCurrent_between {a b : MapPoint} {f : Nat} (haf : a.firmness < f) (hfb : f < b.firmness) :
    min a.current b.current ≤ segmentCurrent a b f ∧ segmentCurrent a b f ≤ max a.current b.current := by
  have hwidth : b.firmness - a.firmness = (f - a.firmness) + (b.firmness - f) := by omega
  unfold segmentCurrent
  rw [hwidth]
  exact rounded_mean_between (by omega) (min_le_left ..) (min_le_right ..) (le_max_left ..) (le_max_right ..)

/-! ### The points that decide -/

/-- At the first point's firmness or below it, the current is the first point's. -/
theorem interpolate_of_le_head {a : MapPoint} {rest : List MapPoint} {f : Nat} (h : f ≤ a.firmness) :
    interpolate (a :: rest) f = a.current := by
  cases rest with
  | nil => rfl
  | cons b rest => simp [interpolate, h]

/-- The first point plays no part once the firmness has reached a later one. -/
theorem interpolate_cons_of_mem_le {a q : MapPoint} {rest : List MapPoint} {f : Nat}
    (hrising : (a :: rest).Pairwise fun a b => a.firmness < b.firmness) (hq : q ∈ rest) (hqf : q.firmness ≤ f) :
    interpolate (a :: rest) f = interpolate rest f := by
  obtain ⟨hfirst, hrest⟩ := List.pairwise_cons.1 hrising
  cases rest with
  | nil => cases hq
  | cons b rest =>
    have hab : a.firmness < b.firmness := hfirst b List.mem_cons_self
    have hbq : b.firmness ≤ q.firmness := by
      obtain rfl | hq := List.mem_cons.1 hq
      · rfl
      · exact (List.rel_of_pairwise_cons hrest hq).le
    rw [interpolate, if_neg (by omega), if_neg (by omega)]

/-- At a point of a rising map the current is that point's. -/
theorem interpolate_of_mem {pts : List MapPoint} {q : MapPoint}
    (hrising : pts.Pairwise fun a b => a.firmness < b.firmness) (hq : q ∈ pts) :
    interpolate pts q.firmness = q.current := by
  induction pts with
  | nil => cases hq
  | cons a rest ih =>
    obtain rfl | hq := List.mem_cons.1 hq
    · exact interpolate_of_le_head le_rfl
    · rw [interpolate_cons_of_mem_le hrising hq le_rfl, ih hrising.of_cons hq]

/-- Between two neighbouring points of a rising map the current is that of their segment. -/
theorem interpolate_between {l r : List MapPoint} {a b : MapPoint} {f : Nat}
    (hrising : (l ++ a :: b :: r).Pairwise fun a b => a.firmness < b.firmness) (haf : a.firmness < f)
    (hfb : f < b.firmness) : interpolate (l ++ a :: b :: r) f = segmentCurrent a b f := by
  induction l with
  | nil => rw [List.nil_append, interpolate, if_neg (by omega), if_pos hfb]
  | cons c l ih =>
    have ha : a ∈ l ++ a :: b :: r := List.mem_append_right l List.mem_cons_self
    rw [List.cons_append] at hrising ⊢
    rw [interpolate_cons_of_mem_le hrising ha haf.le, ih hrising.of_cons]

/-- Within its firmness range a rising map gives no current above a bound of its points' currents. -/
theorem interpolate_le {pts : List MapPoint} {f M : Nat}
    (hrising : pts.Pairwise fun a b => a.firmness < b.firmness)
    (hplace : (∃ q ∈ pts, q.firmness = f) ∨
      ∃ l a b r, pts = l ++ a :: b :: r ∧ a.firmness < f ∧ f < b.firmness)
    (hbound : ∀ q ∈ pts, q.current ≤ M) : interpolate pts f ≤ M := by
  obtain ⟨q, hq, rfl⟩ | ⟨l, a, b, r, rfl, haf, hfb⟩ := hplace
  · rw [interpolate_of_mem hrising hq]
    exact hbound q hq
  · rw [interpolate_between hrising haf hfb]
    exact (segmentCurrent_between haf hfb).2.trans (max_le (hbound a (by simp)) (hbound b (by simp)))

/-- Settles O25: a firmness lies on a point or between two neighbours, and the recursion goes down to just those. -/
theorem mapInterpolation : Obligations.MapInterpolation := by
  intro pts f hshaped hf
  obtain ⟨⟨first, hfirst, hzero⟩, ⟨last, hlast, hthousand⟩, hrising⟩ := (wellShaped_iff pts).1 hshaped
  have hplace := firmness_on_point_or_between ⟨first, hfirst, hzero.trans_le f.zero_le⟩
    ⟨last, hlast, hf.trans_eq hthousand.symm⟩
  refine ⟨?atPoint, ?onSegment, hplace, interpolate_le hrising hplace⟩
  case atPoint =>
    rintro q hq rfl
    exact interpolate_of_mem hrising hq
  case onSegment =>
    rintro l a b r rfl haf hfb
    rw [interpolate_between hrising haf hfb]
    exact ⟨segmentCurrent_eq_floor haf hfb, segmentCurrent_between haf hfb⟩

end Sys2Proof.Machine
end

section
/-! Every step keeps memory canonical, and answers with the queue as its command left it. -/

namespace Sys2Proof.Machine

/-- A command that is no processor write leaves memory as it is, but for the engine's word that it writes or lets by. -/
theorem exec_mem_of_not_write {c : Instr} {s t : State} (hw : writeOf s.part.bridge c = none) (h : exec c s = .next t) :
    t.mem = s.mem ∨ t.mem = s.engineWord.mem ∨ t.mem = s.grantAccess.mem := by
  cases c
  all_goals try (cases hw; done)
  case engineWordWrite => cases h; exact .inr (.inl rfl)
  case forwardedRead addr =>
    simp only [exec, execForwardedRead] at h
    split at h
    · cases h; exact .inl rfl
    · cases h; exact .inr (.inr rfl)
  all_goals cases h; exact .inl rfl

/-- Every command keeps memory canonical. -/
theorem exec_keeps_wf {c : Instr} {s t : State} (hwf : s.mem.wf = true) (h : exec c s = .next t) : t.mem.wf = true := by
  cases hw : writeOf s.part.bridge c with
  | some x =>
    obtain ⟨capture, hexec⟩ := exec_writeOf (addr := x.1) (b := x.2) hw
    rw [hexec, State.forwardWrite_eq] at h
    cases h
    exact State.forwarded_wf hwf _ _
  | none =>
    obtain hm | hm | hm := exec_mem_of_not_write hw h
    · exact hm ▸ hwf
    · exact hm ▸ State.engineWord_wf hwf
    · exact hm ▸ State.grantAccess_wf hwf

/-- Settles O55: a step performs one command, or judges a target and leaves memory alone. -/
theorem everyStepKeepsMemoryCanonical : Obligations.EveryStepKeepsMemoryCanonical := by
  intro s t hwf hstep
  unfold step at hstep
  split at hstep
  · cases hstep; exact hwf
  · next c rest _ => exact exec_keeps_wf (s := { s with pending := rest }) hwf hstep

end Sys2Proof.Machine
end

section
/-! What a property of the part needs for every step to keep it: it holds after each event that a command is made of. -/

namespace Sys2Proof.Machine

/-- `I` holds after every event that the Setup Decoder's share of a command is made of, when it does not look at the
command in hand. -/
structure Part.Judging (I : Part → Prop) : Prop where
  hand : ∀ {p} (e : Event) (f : Frame), I p → I (p.hand e f)
  setup : ∀ {p} (x : Setup), x.readyMode = p.setup.readyMode → x.attnThreshold = p.setup.attnThreshold → I p →
    I (p.setSetup x)
  offerReply : ∀ {p}, I p → I p.offerReply
  judge : ∀ {p} (k : Kind) (arg : Nat) (order : List Nat) (t : Nat), k.admits arg = true → I p →
    I (p.judgeOwner k arg order t).1

namespace Part.Judging

variable {I : Part → Prop}

theorem judgeTarget (h : Part.Judging I) {p : Part} (k : Kind) (arg : Nat) (order : List Nat) (t : Nat) (hp : I p) :
    I (p.judgeTarget k arg order t).1 := by
  unfold Part.judgeTarget
  split
  · next hadmits => exact h.judge k arg order t hadmits hp
  · exact hp

theorem judgeAll (h : Part.Judging I) (k : Kind) (arg : Nat) (order ts : List Nat) :
    ∀ {p : Part}, I p → I (p.judgeAll k arg order ts).1 := by
  induction ts with
  | nil => exact id
  | cons t rest ih => exact fun hp => ih (h.judgeTarget k arg order t hp)

theorem fixReply (h : Part.Judging I) {p : Part} (js : List Judgement) (r : Reply) (hp : I p) : I (p.fixReply js r) :=
  h.offerReply (h.setup { p.setup with state := .replying, judgements := js, outstanding := [], reply := some r }
    rfl rfl hp)

theorem gather (h : Part.Judging I) {p : Part} (k : Kind) (cmd : Command) (js : List Judgement) (rest : List Nat)
    (hp : I p) : I (p.gather k cmd js rest) := by
  cases rest with
  | nil => exact h.fixReply _ _ hp
  | cons t rest => exact h.setup { p.setup with judgements := js, outstanding := t :: rest } rfl rfl hp

theorem dispatch (h : Part.Judging I) {p : Part} (k : Kind) (cmd : Command) (order : List Nat) (later : Nat) (hp : I p) :
    I (p.dispatch k cmd order later) :=
  h.gather _ _ _ _ (h.judgeAll _ _ _ _ hp)

theorem judgeNext (h : Part.Judging I) {p : Part} (hp : I p) : I p.judgeNext := by
  unfold Part.judgeNext
  split
  · split
    · exact h.gather _ _ _ _ (h.judgeTarget _ _ _ _ hp)
    · exact hp
  · exact hp

theorem receiveCommand (h : Part.Judging I) {p : Part} (b : Beat) (bad : Lanes) (order : List Nat) (later : Nat)
    (hp : I p) : I (p.receiveCommand b bad order later) := by
  have inHand (cmd : Command) : I (p.setSetup { p.setup with state := .judging, inHand := some cmd }) :=
    h.setup { p.setup with state := .judging, inHand := some cmd } rfl rfl hp
  unfold Part.receiveCommand
  split
  · exact hp
  split
  · unfold Part.judgeCommand
    dsimp only
    repeat' split
    all_goals first | exact h.fixReply _ _ (inHand _) | exact h.dispatch _ _ _ _ (inHand _)
  · unfold Part.overrun
    split <;> exact h.hand _ _ hp

end Part.Judging

/-- `I` holds after every event of the part that a command is made of, when it holds before; RESETN apart, and a target
judged later than its command. -/
structure Part.Steady (I : Part → Prop) : Prop where
  bridge : ∀ {p} (x : Bridge), I p → I (p.setBridge x)
  port : ∀ {p} (x : ReadPort), I p → I (p.setPort x)
  waitCount : ∀ {p} (n : Nat), I p → I (p.setWaitCount n)
  fresh : ∀ {p : Part} (n : Nat), I p → I { p with fresh := n }
  hand : ∀ {p} (e : Event) (f : Frame), I p → I (p.hand e f)
  chooseItem : ∀ {p}, I p → I p.chooseItem
  grant : ∀ {p} {it : Item} {w : EngineWord} {rest : List EngineWord}, I p → p.engine.hand = some it →
    it.words = w :: rest → I ((p.setEngine { p.engine with hand := handOf it.kind rest }).publishWord w)
  stageDemand : ∀ {p} (i : SlotId) (w : Nat) (b : Beat) (bad : Lanes), I p → I (p.stageDemand i w b bad)
  closeDemand : ∀ {p} (i : SlotId) (cw : ClosingWord), I p → I (p.closeDemand i cw)
  stageUrgent : ∀ {p} (c : CornerId) (w : Nat) (b : Beat) (bad : Lanes), I p → I (p.stageUrgent c w b bad)
  closeUrgent : ∀ {p} (c : CornerId) (cw : ClosingWord), I p → I (p.closeUrgent c cw)
  stageMap : ∀ {p} (v : ValveId) (w : Nat) (b : Beat) (bad : Lanes), I p → I (p.stageMap v w b bad)
  closeMap : ∀ {p} (v : ValveId) (cw : ClosingWord), I p → I (p.closeMap v cw)
  receiveCommand : ∀ {p} (b : Beat) (bad : Lanes) (order : List Nat) (later : Nat), I p →
    I (p.receiveCommand b bad order later)
  consume : ∀ {p} (x : BitVec 7), I p → I (p.setJournal (p.journal.consume x))
  safeAsserted : ∀ {p} (order : List Nat), p.lines.safe = false → I p →
    I ((arrange order safeBlocks).foldl Part.safeBlock (p.setSafe true))
  safeReleased : ∀ {p} (order : List Nat), p.lines.safe = true → I p →
    I ((arrange order allCorners).foldl Part.exitSafe (p.setSafe false))
  driverChange : ∀ {p} (v : ValveId) (asserted : Bool), I p → I (p.driverChange v asserted)
  frame : ∀ {p}, p.timer.running = true → I p → I (p.setTimer { p.timer with frame := p.timer.frame + 1 })
  cornerBoundary : ∀ {p} (c : CornerId), p.cornerDue c = true → I p → I (p.cornerBoundary c)
  partnerNotice : ∀ {p} (c : CornerId), I p → I (p.takePartnerNotice c)
  channelBoundary : ∀ {p} (v : ValveId), I p → I (p.channelBoundary v)
  rampRequest : ∀ {p} (v : ValveId), I p → I (p.nextRampRequest v)
  overrideEnd : ∀ {p} (v : ValveId), I p → I (p.nextOverrideEnd v)
  sample : ∀ {p} (v : ValveId) (x : Sample), I p → I (p.takeSample v x)
  prepareTimeout : ∀ {p} (v : ValveId), (p.channel v).state.reachExpires = true → I p →
    I (p.enterFault v .openCircuit 65535)
  prepareEnd : ∀ {p} (v : ValveId) (r : Nat), (p.channel v).state.prepareEnds = some r → I p → I (p.endPrepare v r)
  settleMiss : ∀ {p} (v : ValveId), (p.channel v).settleExpires = true → I p → I (p.settleMiss v)
  heatUpdate : ∀ {p} (v : ValveId), I p → I (p.heatUpdate v)
  look : ∀ {p}, p.analyzer.state = .idle → I p → I p.look
  stepTrial : ∀ {p} (h : Search), p.analyzer.preDriveEnds = some h → I p → I (p.stepTrial h)

/-- `I` holds after every event of the part that a command is made of, when it holds before. -/
structure Part.Kept (I : Part → Prop) : Prop extends Part.Steady I where
  judgeNext : ∀ {p}, I p → I p.judgeNext
  released : ∀ {p : Part} (region : BitVec 4) (psense : ParitySense) (safe : Bool) (dflt : BitVec 8), I p →
    I (.released region psense safe dflt p.fresh)

namespace Part.Steady

variable {I : Part → Prop}

/-! ### Captured writes -/

theorem readIndexWrite (h : Part.Steady I) {p : Part} (b : Beat) (bad : Lanes) (hp : I p) : I (p.readIndexWrite b bad) := by
  unfold Part.readIndexWrite Part.badReadIndex
  repeat' split
  all_goals first | exact hp | exact h.hand _ _ hp | exact h.consume _ hp

theorem writePoint (h : Part.Steady I) {p : Part} (v : ValveId) (w : Nat) (b : Beat) (bad : Lanes)
    (hfirst : I p.promotionsFirst) (hp : I p) : I (p.writePoint v w b bad) := by
  unfold Part.writePoint
  split
  · exact hp
  · exact h.stageMap _ _ _ _ hfirst

theorem writeHeader (h : Part.Steady I) {p : Part} (v : ValveId) (cw : ClosingWord) (hfirst : I p.promotionsFirst) :
    I (p.writeHeader v cw) :=
  h.closeMap _ _ hfirst

theorem captureAt (h : Part.Steady I) {p : Part} (o : Nat) (b : Beat) (bad : Lanes)
    (hfirst : classOfOffset o = .mapBlock → I p.promotionsFirst) (hp : I p) : I (p.captureAt o b bad) := by
  unfold Part.captureAt
  split
  case h_1 =>
    unfold Part.captureSetup
    split
    · exact h.receiveCommand _ _ _ _ hp
    split
    · exact h.readIndexWrite _ _ hp
    · exact hp
  case h_2 =>
    unfold Part.captureUrgent
    split
    · exact h.stageUrgent _ _ _ _ hp
    split
    · exact h.closeUrgent _ _ hp
    · exact hp
  case h_3 =>
    unfold Part.captureDemand
    split
    · exact h.stageDemand _ _ _ _ hp
    split
    · exact h.closeDemand _ _ hp
    · exact hp
  case h_4 hmap =>
    unfold Part.captureMap
    split
    · split
      · exact h.writeHeader _ _ (hfirst hmap)
      · exact hp
    split
    · exact h.writePoint _ _ _ _ (hfirst hmap) hp
    · exact hp
  all_goals exact hp

theorem captureWord (h : Part.Steady I) {p : Part} (addr : BitVec 22) (b : Beat) (bad : Lanes)
    (hfirst : ∀ o, p.bridge.offset addr = some o → classOfOffset o = .mapBlock → I p.promotionsFirst) (hp : I p) :
    I (p.captureWord addr b bad) := by
  unfold Part.captureWord
  split
  · next o ho => exact h.captureAt _ _ _ (hfirst o ho) hp
  · exact hp

/-! ### Accesses -/

theorem engineWord (h : Part.Steady I) {s : State} (hs : I s.part) : I s.engineWord.part := by
  unfold State.engineWord
  split
  · next it hit =>
    split
    · next w rest hw =>
      have hgrant := h.grant (h.waitCount 0 hs) (it := it) hit hw
      exact hgrant
    · exact hs
  · exact hs

theorem grantAccess (h : Part.Steady I) {s : State} (hs : I s.part) : I s.grantAccess.part := by
  have hforced : I (if s.part.engine.hand.isSome ∧ 8 ≤ s.part.waitCount then s.forcedWord else s).part := by
    split
    · exact h.chooseItem (h.engineWord hs)
    · exact hs
  unfold State.grantAccess
  dsimp only
  generalize (if s.part.engine.hand.isSome ∧ 8 ≤ s.part.waitCount then s.forcedWord else s) = s1 at hforced ⊢
  split
  · exact h.waitCount _ hforced
  · exact hforced

theorem forwarded (h : Part.Steady I) {s : State} (addr : BitVec 22) (b : Beat) (hs : I s.part) :
    I (s.forwarded addr b).part := by
  rw [State.forwarded_part]
  unfold Part.reportP
  split
  · exact h.grantAccess hs
  · exact h.hand _ _ (h.bridge _ (h.grantAccess hs))

theorem forwardWrite (h : Part.Steady I) {s : State} (addr : BitVec 22) (b : Beat) {capture : Lanes → Part → Part}
    (hc : ∀ bad p, I p → I (capture bad p)) (hs : I s.part) : I (s.forwardWrite addr b capture).part := by
  rw [State.forwardWrite_eq]
  exact hc _ _ (h.forwarded addr b hs)

theorem forwardRead (h : Part.Steady I) {s : State} (addr : BitVec 22) (hs : I s.part) : I (s.forwardRead addr).part := by
  unfold State.forwardRead Part.reportM
  dsimp only
  split
  · exact h.port _ (h.grantAccess hs)
  · exact h.port _ (h.hand _ _ (h.bridge _ (h.grantAccess hs)))

theorem readWindow (h : Part.Steady I) {p : Part} (w : Fin 64) (hp : I p) : I (p.readWindow w) := by
  unfold Part.readWindow
  dsimp only
  split
  · exact h.fresh _ (h.bridge _ (h.port _ hp))
  · exact h.fresh _ (h.port _ hp)

/-! ### Commands -/

theorem setupCommand (h : Part.Steady I) {s : State} (kind : BitVec 8) (w : CommandWrite) (hs : I s.part) :
    I (s.setupCommand kind w).part :=
  h.forwardWrite _ _ (fun _ _ => h.receiveCommand _ _ _ _) hs

/-- A guarded event keeps the property when the event does under the guard. -/
theorem guarded {b : Prop} [Decidable b] {p q : Part} (hq : b → I p → I q) (hp : I p) : I (if b then q else p) := by
  split
  · next hb => exact hq hb hp
  · exact hp

theorem exec_plain (addr : BitVec 22) (b : Beat) (s : State) :
    Machine.exec (.plainWrite addr b) s =
      .next { s.forwarded addr b with part := (s.forwarded addr b).part.captureWord addr b (s.badOf b) } :=
  congrArg Host.Outcome.next (s.forwardWrite_eq addr b fun bad p => p.captureWord addr b bad)

theorem offset_mapOffset (b : Bridge) (v : ValveId) {w : Nat} (h : w < 32) :
    b.offset (b.wordAddress (mapOffset v w)) = some (mapOffset v w) :=
  b.offset_wordAddress _ (by unfold mapOffset; omega) (by unfold mapOffset; omega)

theorem offset_forwarded (s : State) (addr a : BitVec 22) (b : Beat) :
    (s.forwarded addr b).part.bridge.offset a = s.part.bridge.offset a := by
  unfold Bridge.offset
  rw [s.forwarded_region addr b]

/-- A command keeps the property, when what it does first at RESETN and at a map write keeps it. -/
theorem exec (h : Part.Steady I) {c : Instr} {s t : State}
    (hreset : ∀ region psense safe dflt, c = .resetn region psense safe dflt →
      I (.released region psense safe dflt s.part.fresh))
    (hfirst : ∀ addr b o, writeOf s.part.bridge c = some (addr, b) → s.part.bridge.offset addr = some o →
      classOfOffset o = .mapBlock → ∀ {p}, I p → I p.promotionsFirst)
    (hs : I s.part) (he : exec c s = .next t) : I t.part := by
  cases hr : setupRow c with
  | some r =>
    rw [exec_setupRow (code := r.1) (w := r.2) hr] at he
    cases he
    exact h.setupCommand _ _ hs
  | none =>
    cases c
    case resetn => cases he; exact hreset _ _ _ _ rfl
    case safeAssertion order =>
      cases he
      show I (if s.part.lines.safe then s.part else _)
      split
      · exact hs
      · next hsafe => exact h.safeAsserted order (Bool.eq_false_iff.2 hsafe) hs
    case safeRelease order => cases he; exact guarded (fun hb => h.safeReleased order hb) hs
    case driverLine v asserted =>
      cases he
      show I (if s.part.driverFault v = asserted then s.part else _)
      split
      · exact hs
      · exact h.driverChange _ _ hs
    case demandSlotWrite i w b => cases he; exact h.forwardWrite _ _ (fun _ _ => h.stageDemand _ _ _ _) hs
    case demandClosingWrite i data parity => cases he; exact h.forwardWrite _ _ (fun _ _ => h.closeDemand _ _) hs
    case urgentSlotWrite d w b => cases he; exact h.forwardWrite _ _ (fun _ _ => h.stageUrgent _ _ _ _) hs
    case urgentClosingWrite d data parity => cases he; exact h.forwardWrite _ _ (fun _ _ => h.closeUrgent _ _) hs
    case mapPointWrite v q b =>
      have hfirst := @hfirst _ _ _ rfl (offset_mapOffset _ v (by omega)) (classOfOffset_map v _ (by omega))
      cases he
      exact h.forwardWrite _ _ (fun _ _ hp => h.writePoint _ _ _ _ (hfirst hp) hp) hs
    case mapClosingWrite v data parity =>
      have hfirst := @hfirst _ _ _ rfl (offset_mapOffset _ v (by omega)) (classOfOffset_map v _ (by omega))
      cases he
      exact h.forwardWrite _ _ (fun _ _ hp => h.writeHeader _ _ (hfirst hp)) hs
    case journalReadIndex b => cases he; exact h.forwardWrite _ _ (fun _ _ => h.readIndexWrite _ _) hs
    case plainWrite addr b =>
      rw [exec_plain] at he
      cases he
      refine h.captureWord _ _ _ (fun o ho hmap => hfirst addr b o rfl ?_ hmap (h.forwarded addr b hs))
        (h.forwarded addr b hs)
      rw [← ho, offset_forwarded]
    case statusWindowRead w => cases he; exact h.readWindow _ hs
    case forwardedRead addr =>
      simp only [Machine.exec, execForwardedRead] at he
      split at he
      · cases he; exact h.readWindow _ hs
      · cases he; exact h.forwardRead _ hs
    case frameBoundary => cases he; exact guarded h.frame hs
    case cornerFrameBoundary d => cases he; exact guarded (h.cornerBoundary d) hs
    case silenceExpiry d =>
      cases he; exact guarded (fun hb => h.cornerBoundary d (Bool.and_eq_true_iff.1 hb).1) hs
    case holdExpiry d =>
      cases he; exact guarded (fun hb => h.cornerBoundary d (Bool.and_eq_true_iff.1 hb).1) hs
    case partnerNotice d => cases he; exact h.partnerNotice _ hs
    case channelFrameBoundary v => cases he; exact guarded (fun _ => h.channelBoundary v) hs
    case setpointRampEnd v => cases he; exact guarded (fun _ => h.channelBoundary v) hs
    case releaseEnd v => cases he; exact guarded (fun _ => h.channelBoundary v) hs
    case rampRequest v => cases he; exact h.rampRequest _ hs
    case overrideEnd v => cases he; exact h.overrideEnd _ hs
    case coilCurrentSample v x => cases he; exact h.sample _ _ hs
    case testCurrentReach v x => cases he; exact guarded (fun _ => h.sample v x) hs
    case resistanceMeasurementEnd v x => cases he; exact guarded (fun _ => h.sample v x) hs
    case settleSuccess v x => cases he; exact guarded (fun _ => h.sample v x) hs
    case prepareTimeout v => cases he; exact guarded (h.prepareTimeout v) hs
    case prepareEnd v =>
      cases he
      show I (match (s.part.channel v).state.prepareEnds with | some r => _ | none => _)
      split
      · next r hr => exact h.prepareEnd v r hr hs
      · exact hs
    case settleMiss v => cases he; exact guarded (h.settleMiss v) hs
    case heatUpdate v => cases he; exact h.heatUpdate _ hs
    case queueLook => cases he; exact guarded h.look hs
    case preDriveEnd =>
      cases he
      show I (match s.part.analyzer.preDriveEnds with | some h => _ | none => _)
      split
      · next x hx => exact h.stepTrial x hx hs
      · exact hs
    case trialEnd x =>
      cases he
      show I (match s.part.analyzer.trialEnds with | some v => _ | none => _)
      split
      · exact h.sample _ _ hs
      · exact hs
    case captureEnd x =>
      cases he
      show I (match s.part.analyzer.captureEnds with | some v => _ | none => _)
      split
      · exact h.sample _ _ hs
      · exact hs
    case engineItemChoice => cases he; exact h.chooseItem hs
    case engineWordWrite => cases he; exact h.engineWord hs
    all_goals cases hr

end Part.Steady

namespace Part.Kept

variable {I : Part → Prop}

theorem judgeOutstanding (h : Part.Kept I) (n : Nat) : ∀ {p : Part}, I p → I (p.judgeOutstanding n) := by
  induction n with
  | zero => exact id
  | succ n ih => exact fun hp => ih (h.judgeNext hp)

theorem promotionsFirst (h : Part.Kept I) {p : Part} (hp : I p) : I p.promotionsFirst := by
  unfold Part.promotionsFirst
  split
  · split
    · exact h.judgeOutstanding _ hp
    · exact hp
  · exact hp

/-- Every command keeps the property. -/
theorem exec (h : Part.Kept I) {c : Instr} {s t : State} (hs : I s.part) (he : exec c s = .next t) : I t.part :=
  h.toSteady.exec (fun _ _ _ _ _ => h.released _ _ _ _ hs) (fun _ _ _ _ _ _ _ hp => h.promotionsFirst hp) hs he

/-- Every step keeps the property. -/
theorem step (h : Part.Kept I) {s t : State} (hs : I s.part) (hstep : step s = .next t) : I t.part := by
  unfold Machine.step at hstep
  split at hstep
  · cases hstep; exact h.judgeNext hs
  · next c rest _ => exact h.exec (s := { s with pending := rest }) hs hstep

end Part.Kept

end Sys2Proof.Machine
end

section
/-! What every step keeps, reduced to the small events that the operations of the corners, the channels, the analyzer, the
Heat Monitors and the Setup Decoder are made of. -/

namespace Sys2Proof.Machine

/-- What the analyzer's state says of the trial in hand: its valve, and whether its step has begun. -/
def AnalyzerState.trial : AnalyzerState → Option (ValveId × Bool)
  | .searching { valve := v, gain := _, phase := .preDrive _, best := _ } => some (v, false)
  | .searching { valve := v, gain := _, phase := .step, best := _ } => some (v, true)
  | .idle => none
  | .capturing _ => none
  | .writing => none

/-- What a change of a channel keeps when it touches neither its state, target and drive, nor its Heat Monitor. -/
structure Channel.Supervised (a b : Channel) : Prop where
  state : b.state = a.state
  target : b.target = a.target
  drive : b.drive = a.drive
  heat : b.heat = a.heat
  tunedGain : b.tunedGain = a.tunedGain
  settle : b.settle.isSome = true → a.settle.isSome = true

/-- What a change of a channel's firmness state keeps. -/
structure Channel.Driven (a b : Channel) : Prop where
  state : b.state = a.state
  target : b.target = a.target
  heat : b.heat = a.heat
  tunedGain : b.tunedGain = a.tunedGain
  settle : b.settle = a.settle

/-- What a setting of a corner, or a partner notice on its way, keeps of it. -/
structure Corner.Tuned (a b : Corner) : Prop where
  state : b.state = a.state
  limpCause : b.limpCause = a.limpCause
  list : b.list = a.list
  hold : b.hold = a.hold
  frame : b.frame = a.frame
  dryRun : b.dryRun = a.dryRun
  ready : b.ready = a.ready
  lowMark : b.lowMark = a.lowMark
  highMark : b.highMark = a.highMark

/-- `I` holds after every small event outside Slot Capture, the corner boundaries and the engine, when it holds before. -/
structure Part.Atoms (I : Part → Prop) : Prop where
  bridge : ∀ {p} (x : Bridge), I p → I (p.setBridge x)
  port : ∀ {p} (x : ReadPort), I p → I (p.setPort x)
  waitCount : ∀ {p} (n : Nat), I p → I (p.setWaitCount n)
  fresh : ∀ {p : Part} (n : Nat), I p → I { p with fresh := n }
  hand : ∀ {p} (e : Event) (f : Frame), I p → I (p.hand e f)
  engine : ∀ {p} (x : Engine), x.hand = p.engine.hand → x.reply = p.engine.reply → I p → I (p.setEngine x)
  pairing : ∀ {p} (b : Bool), I p → I (p.setPairing b)
  dflt : ∀ {p} (x : Vector Bool 8), I p → I (p.setLines { p.lines with dflt := x })
  period : ∀ {p} (n : Nat), I p → I (p.setTimer { p.timer with period := n })
  start : ∀ {p}, I p → I (p.setTimer { p.timer with running := true })
  frame : ∀ {p} (f : Frame), I p → I (p.setTimer { p.timer with frame := f })
  corner : ∀ {p} (c : CornerId) (k : Corner), (p.corner c).Tuned k → I p → I (p.setCorner c k)
  watermarks : ∀ {p} (c : CornerId) (l h : Nat), l < h → h ≤ 8 → I p →
    I (p.setCorner c { p.corner c with lowMark := l, highMark := h })
  dryRun : ∀ {p} (c : CornerId) (b : Bool), (p.corner c).state = .idle → I p →
    I (p.setCorner c { p.corner c with dryRun := b })
  enterLimp : ∀ {p} (c : CornerId) (d : LimpDetail) (f : Frame), (p.corner c).state = .run → I p → I (p.enterLimp c d f)
  enterIdle : ∀ {p} (c : CornerId), (p.corner c).state = .run ∨ (p.corner c).state = .limp → I p → I (p.enterIdle c)
  enterRun : ∀ {p} (c : CornerId), p.timer.running = true → p.lines.safe = false →
    (p.corner c).state = .idle ∨ (p.corner c).state = .limp → I p → I (p.enterRun c)
  channel : ∀ {p} (v : ValveId) (ch : Channel), (p.channel v).Supervised ch → I p → I (p.setChannel v ch)
  redriven : ∀ {p} (v : ValveId) (ch : Channel), (p.channel v).Driven ch → I p → I (p.redriven v ch)
  stop : ∀ {p} (v : ValveId) (entered : ChannelState), entered.isOffOrFault = true → I p → I (p.stopChannel v entered)
  clearFault : ∀ {p} (v : ValveId), (p.channel v).state.isFault = true → I p →
    I (p.setChannel v { p.channel v with state := .off })
  enterPrepare : ∀ {p} (v : ValveId) (x : Prepare), (p.channel v).state = .off → p.lines.safe = false →
    (p.map v).active.isSome = true → I p → I (p.setChannel v { p.channel v with state := .prepare x, target := 250 })
  prepare : ∀ {p} (v : ValveId) (x y : Prepare), (p.channel v).state = .prepare x → I p → I (p.setPrepare v y)
  enterWaiting : ∀ {p} (v : ValveId), (∃ x, (p.channel v).state = .prepare x) ∨ (p.channel v).state = .track → I p →
    I (p.enterWaiting v)
  enterTrack : ∀ {p} (v : ValveId) (x : Prepare), (p.channel v).state = .prepare x →
    (p.channel v).tunedGain.isSome = true → I p → I (p.enterTrack v)
  analyzer : ∀ {p} (x : Analyzer), x.queue = p.analyzer.queue → x.state.trial = p.analyzer.state.trial → I p →
    I (p.setAnalyzer x)
  startSearch : ∀ {p} (v : ValveId) (q : List ValveId), p.analyzer.state = .idle →
    lookAt (fun v => (p.channel v).heat.level == .hot) [] p.analyzer.queue = some (v, q) → I p → I (p.startSearch v q)
  stepTrial : ∀ {p} (h : Search), p.analyzer.state = .searching h → I p →
    I ((p.setChannel h.valve { p.channel h.valve with target := 800 }).setAnalyzer
      { p.analyzer with state := .searching { h with phase := .step }, buffer := [] })
  nextTrial : ∀ {p} (h : Search) (best : Option BestTrial), p.analyzer.state = .searching h → I p → I (p.nextTrial h best)
  searchTuned : ∀ {p} (h : Search) (g : Fin 16), p.analyzer.state = .searching h → I p →
    I (((p.setAnalyzer { p.analyzer with state := .idle }).setChannel h.valve
      { p.channel h.valve with tunedGain := some g }).enterTrack h.valve)
  searchFailed : ∀ {p} (h : Search), p.analyzer.state = .searching h → I p →
    I ((p.setAnalyzer { p.analyzer with state := .idle }).stopChannel h.valve (.fault .untunable))
  level : ∀ {p} (v : ValveId) (l : ThermalLevel), I p →
    I (p.redriven v { p.channel v with heat := { (p.channel v).heat with level := l } })
  heatIndex : ∀ {p} (v : ValveId) (n : Nat), I p → I (p.setHeat v { (p.channel v).heat with index := n })
  warmLevel : ∀ {p} (v : ValveId) (n : Nat), n < (p.channel v).heat.hotLevel → I p →
    I (p.setHeat v { (p.channel v).heat with warmLevel := n })
  hotLevel : ∀ {p} (v : ValveId) (n : Nat), (p.channel v).heat.warmLevel < n → n ≤ 65520 → I p →
    I (p.setHeat v { (p.channel v).heat with hotLevel := n })
  warmCeiling : ∀ {p} (v : ValveId) (n : Nat), (p.channel v).heat.hotCeiling ≤ n → n ≤ 2000 → I p →
    I ((p.setHeat v { (p.channel v).heat with warmCeiling := n }).recomputeIn v .warm)
  hotCeiling : ∀ {p} (v : ValveId) (n : Nat), n ≤ (p.channel v).heat.warmCeiling → I p →
    I ((p.setHeat v { (p.channel v).heat with hotCeiling := n }).recomputeIn v .hot)
  promote : ∀ {p} (v : ValveId), (p.map v).state = .valid → I p → I (p.promote v)
  readyMode : ∀ {p} (n : Nat), I p → I (p.judgeReadyMode n).1
  attnThreshold : ∀ {p} (n : Nat), I p → I (p.judgeAttnThreshold n).1

namespace Part.Atoms

variable {I : Part → Prop} {p : Part}

/-! ### Ramp requests, overrides and boundaries of a channel -/

theorem receive_driven (ch : Channel) (running : Bool) (r : RampRequest) : ch.Driven (ch.receive running r) := by
  unfold Channel.receive
  repeat' split
  all_goals constructor <;> rfl

theorem receiveEnd_driven (ch : Channel) (e : OverrideEnd) : ch.Driven (ch.receiveEnd e) := by
  unfold Channel.receiveEnd
  repeat' split
  all_goals constructor <;> rfl

theorem nextFrame_driven (ch : Channel) : ch.Driven ch.nextFrame := by
  unfold Channel.nextFrame Channel.rampStep
  repeat' split
  all_goals constructor <;> rfl

theorem receiveRamp (h : Part.Atoms I) (v : ValveId) (r : RampRequest) (hp : I p) : I (p.receiveRamp v r) :=
  h.redriven v _ (receive_driven _ _ _) hp

theorem receiveOverrideEnd (h : Part.Atoms I) (v : ValveId) (e : OverrideEnd) (hp : I p) :
    I (p.receiveOverrideEnd v e) :=
  h.redriven v _ (receiveEnd_driven _ _) hp

theorem sendRamp (h : Part.Atoms I) (v : ValveId) (r : RampRequest) (hp : I p) : I (p.sendRamp v r) := by
  unfold Part.sendRamp
  split
  · exact h.channel _ _ ⟨rfl, rfl, rfl, rfl, rfl, id⟩ hp
  · exact h.receiveRamp _ _ hp

theorem sendLimpRamp (h : Part.Atoms I) (c : CornerId) (f : Frame) (hp : I p) : I (p.sendLimpRamp c f) :=
  h.sendRamp _ _ (h.sendRamp _ _ hp)

theorem overrideStart (h : Part.Atoms I) (v : ValveId) (u : Nat) (hp : I p) : I (p.overrideStart v u) :=
  h.redriven v _ ⟨rfl, rfl, rfl, rfl, rfl⟩ hp

theorem overrideDrop (h : Part.Atoms I) (v : ValveId) (hp : I p) : I (p.overrideDrop v) :=
  h.redriven v _ ⟨rfl, rfl, rfl, rfl, rfl⟩ hp

theorem sendOverrideEnd (h : Part.Atoms I) (v : ValveId) (e : OverrideEnd) (hp : I p) : I (p.sendOverrideEnd v e) :=
  h.channel _ _ ⟨rfl, rfl, rfl, rfl, rfl, id⟩ hp

theorem sendEnds (h : Part.Atoms I) (c : CornerId) (sel : ValveSelect) (e : OverrideEnd) (hp : I p) :
    I (p.sendEnds c sel e) := by
  have hfirst : I (if sel.hasCompression then p.sendOverrideEnd (compressionValve c) e else p) := by
    split
    · exact h.sendOverrideEnd _ _ hp
    · exact hp
  unfold Part.sendEnds
  dsimp only
  split
  · exact h.sendOverrideEnd _ _ hfirst
  · exact hfirst

theorem foldl_keeps {α : Type} {op : Part → α → Part} (hop : ∀ p x, I p → I (op p x)) (l : List α) :
    ∀ {p : Part}, I p → I (l.foldl op p) := by
  induction l with
  | nil => exact id
  | cons x rest ih => exact fun hp => ih (hop _ x hp)

theorem arrivals (h : Part.Atoms I) (v : ValveId) (hp : I p) : I (p.arrivals v) :=
  foldl_keeps (fun _ _ => h.receiveOverrideEnd v _) _
    (foldl_keeps (fun _ _ => h.receiveRamp v _) _ (h.channel _ _ ⟨rfl, rfl, rfl, rfl, rfl, id⟩ hp))

theorem channelBoundary (h : Part.Atoms I) (v : ValveId) (hp : I p) : I (p.channelBoundary v) :=
  h.redriven v _ (nextFrame_driven _) (h.arrivals v hp)

theorem nextRampRequest (h : Part.Atoms I) (v : ValveId) (hp : I p) : I (p.nextRampRequest v) := by
  unfold Part.nextRampRequest
  split
  · split
    · exact h.receiveRamp _ _ (h.channel _ _ ⟨rfl, rfl, rfl, rfl, rfl, id⟩ hp)
    · exact hp
  · exact hp

theorem nextOverrideEnd (h : Part.Atoms I) (v : ValveId) (hp : I p) : I (p.nextOverrideEnd v) := by
  unfold Part.nextOverrideEnd
  split
  · exact h.receiveOverrideEnd _ _ (h.channel _ _ ⟨rfl, rfl, rfl, rfl, rfl, id⟩ hp)
  · exact hp

/-! ### Faults, lines and notices -/

theorem limpNotice (h : Part.Atoms I) (c : CornerId) (d : LimpDetail) (hp : I p) : I (p.limpNotice c d) := by
  unfold Part.limpNotice
  split
  · next hrun => exact h.enterLimp c d _ hrun hp
  · exact hp

theorem handChange (h : Part.Atoms I) (v : ValveId) (l : ChannelName) (cause : ChangeCause) (hp : I p) :
    I (p.handChange v l cause) :=
  h.hand _ _ hp

theorem enterFault (h : Part.Atoms I) (v : ValveId) (cause : FaultCause) (n : Nat) (hp : I p) :
    I (p.enterFault v cause n) :=
  h.limpNotice _ _ (h.hand _ _ (h.stop v (.fault cause) rfl hp))

theorem driverChange (h : Part.Atoms I) (v : ValveId) (asserted : Bool) (hp : I p) : I (p.driverChange v asserted) := by
  have handed : I ((p.setLines { p.lines with dflt := p.lines.dflt.set v asserted }).hand
      (.driverLine v asserted (p.channel v).state.name) (p.channel v).frame) := h.hand _ _ (h.dflt _ hp)
  unfold Part.driverChange
  dsimp only
  split
  · exact h.enterFault _ _ _ handed
  · exact handed

theorem takePartnerNotice (h : Part.Atoms I) (c : CornerId) (hp : I p) : I (p.takePartnerNotice c) := by
  unfold Part.takePartnerNotice
  split
  · have hrest (l : List PartnerNotice) : I (p.setCorner c { p.corner c with notices := l }) :=
      h.corner _ _ ⟨rfl, rfl, rfl, rfl, rfl, rfl, rfl, rfl, rfl⟩ hp
    dsimp only
    split
    · next hrun => exact h.enterLimp _ _ _ hrun (hrest _)
    · exact hrest _
  · exact hp

/-! ### The prepare test and settle supervision -/

theorem prepareSample (h : Part.Atoms I) (v : ValveId) (q : Prepare) (x : Sample) (hq : (p.channel v).state = .prepare q)
    (hp : I p) : I (p.prepareSample v q x) := by
  unfold Part.prepareSample
  split
  · exact h.prepare v q _ hq hp
  · split
    · exact h.prepare v q _ hq hp
    · unfold Part.endMeasurement
      repeat' split
      · exact h.enterFault _ _ _ hp
      · exact h.enterFault _ _ _ hp
      · exact h.prepare v q _ hq hp
  · exact h.prepare v q _ hq hp

theorem prepareEnds_prepare {st : ChannelState} {r : Nat} (hr : st.prepareEnds = some r) : ∃ x, st = .prepare x := by
  cases st with
  | prepare x => exact ⟨x, rfl⟩
  | _ => cases hr

theorem endPrepare (h : Part.Atoms I) (v : ValveId) (r : Nat) (hr : (p.channel v).state.prepareEnds = some r)
    (hp : I p) : I (p.endPrepare v r) := by
  obtain ⟨x, hx⟩ := prepareEnds_prepare hr
  unfold Part.endPrepare
  dsimp only
  split
  · next htuned => exact h.handChange _ _ _ (h.enterTrack v x hx htuned hp)
  · exact h.handChange _ _ _ (h.enterWaiting v (.inl ⟨x, hx⟩) hp)

theorem settleMiss (h : Part.Atoms I) (v : ValveId) (hp : I p) : I (p.settleMiss v) := by
  have missed : I (p.setChannel v { p.channel v with settle := none, misses := (p.channel v).misses + 1 }) :=
    h.channel _ _ ⟨rfl, rfl, rfl, rfl, rfl, fun hs => nomatch hs⟩ hp
  unfold Part.settleMiss
  dsimp only
  split
  · exact h.enterFault _ _ _ missed
  · exact missed

theorem settleSample_supervised (ch : Channel) (x : Sample) : ch.Supervised (ch.settleSample x) := by
  unfold Channel.settleSample
  split
  · exact ⟨rfl, rfl, rfl, rfl, rfl, id⟩
  · next t ht =>
    dsimp only
    repeat' split
    all_goals exact ⟨rfl, rfl, rfl, rfl, rfl, fun _ => by rw [ht]; rfl⟩

/-! ### The look at the queue and the Heat Monitor -/

theorem look (h : Part.Atoms I) (hi : p.analyzer.state = .idle) (hp : I p) : I p.look := by
  unfold Part.look
  split
  · next v q hl => exact h.startSearch v q hi hl hp
  · exact hp

theorem levelLook (h : Part.Atoms I) (v : ValveId) (hp : I p) : I (p.levelLook v) := by
  unfold Part.levelLook
  split
  · next hc => exact h.look hc.2 hp
  · exact hp

/-- A look leaves every Heat Monitor alone. -/
theorem levelLook_heat (p : Part) (v w : ValveId) : ((p.levelLook v).channel w).heat = (p.channel w).heat := by
  unfold Part.levelLook Part.look Part.startSearch
  repeat' split
  · simp only [channel_setAnalyzer, channel_setChannel]
    split
    · next hw => rw [hw]
    · rfl
  all_goals rfl

theorem evaluateLevel (h : Part.Atoms I) (v : ValveId) (hp : I p) : I (p.evaluateLevel v) := by
  unfold Part.evaluateLevel
  dsimp only
  split
  · exact hp
  · have looked := h.level v (p.channel v).heat.evaluated (h.levelLook v hp)
    rw [levelLook_heat] at looked
    exact h.hand _ _ (h.levelLook v looked)

theorem heatUpdate (h : Part.Atoms I) (v : ValveId) (hp : I p) : I (p.heatUpdate v) :=
  h.evaluateLevel v (h.heatIndex v _ hp)

/-! ### Samples at the analyzer -/

theorem trialTrigger (h : Part.Atoms I) (s : Search) (hp : I p) : I (p.trialTrigger s) := by
  unfold Part.trialTrigger
  split
  · exact h.analyzer _ rfl rfl hp
  · exact hp

theorem preDriveEnds_searching {a : Analyzer} {s : Search} (hs : a.preDriveEnds = some s) : a.state = .searching s := by
  unfold Analyzer.preDriveEnds at hs
  split at hs
  · next st hst =>
    split at hs
    · split at hs
      · cases hs; exact hst
      · cases hs
    · cases hs
  all_goals cases hs

theorem stepTrial_keeps (h : Part.Atoms I) (s : Search) (hs : p.analyzer.state = .searching s) (hp : I p) :
    I (p.stepTrial s) :=
  h.trialTrigger s (h.stepTrial s hs hp)

theorem completeSearch (h : Part.Atoms I) (s : Search) (best : Option BestTrial) (hs : p.analyzer.state = .searching s)
    (hp : I p) : I (p.completeSearch s best) := by
  have handed (e : Event) : I (p.hand e p.timer.frame) := h.hand _ _ hp
  cases best with
  | some b =>
    exact h.handChange _ _ _ (h.searchTuned (p := p.hand (.tuned s.valve (s.gain + 1) b) p.timer.frame) s
      (Fin.ofNat 16 b.gain) hs (handed _))
  | none =>
    exact h.limpNotice _ _ (h.hand _ _ (h.searchFailed (p := p.hand (.untunable s.valve (s.gain + 1)) p.timer.frame) s
      hs (handed _)))

theorem completeTrace (h : Part.Atoms I) (hp : I p) : I p.completeTrace := by
  have marked := h.analyzer { p.analyzer with
    trace := .writing, hand := p.analyzer.hand.map fun t => { t with mark := some .complete } } rfl rfl hp
  exact h.engine _ rfl rfl marked

theorem endTrial (h : Part.Atoms I) (s : Search) (hs : p.analyzer.state = .searching s) (hp : I p) :
    I (p.endTrial s) := by
  have hp1 : I (if p.analyzer.trace = .capturing then p.completeTrace else p) ∧
      (if p.analyzer.trace = .capturing then p.completeTrace else p).analyzer.state = .searching s := by
    split
    · exact ⟨h.completeTrace hp, hs⟩
    · exact ⟨hp, hs⟩
  unfold Part.endTrial
  dsimp only
  generalize (if p.analyzer.trace = .capturing then p.completeTrace else p) = p1 at hp1 ⊢
  split
  · exact h.completeSearch _ _ hp1.2 hp1.1
  · exact h.nextTrial _ _ hp1.2 hp1.1

theorem copySample_keeps (a : Analyzer) (m t : Nat) :
    (a.copySample m t).queue = a.queue ∧ (a.copySample m t).state = a.state := by
  unfold Analyzer.copySample
  split <;> exact ⟨rfl, rfl⟩

/-- A sample copied to the trace and recorded in the sample buffer. -/
theorem record (h : Part.Atoms I) (m t : Nat) (buffer : List Nat) (hp : I p) :
    I (p.setAnalyzer { p.analyzer.copySample m t with buffer := buffer }) := by
  obtain ⟨hqueue, hstate⟩ := copySample_keeps p.analyzer m t
  exact h.analyzer _ hqueue (congrArg AnalyzerState.trial hstate) hp

theorem searchSample (h : Part.Atoms I) (s : Search) (x : Sample) (hs : p.analyzer.state = .searching s) (hp : I p) :
    I (p.searchSample s x) := by
  unfold Part.searchSample
  split
  · next k hk =>
    refine h.analyzer _ rfl ?_ hp
    obtain ⟨v, g, ph, best⟩ := s
    cases hk
    rw [hs]
    rfl
  · have recorded := h.record x.current.toNat 800
      ((p.analyzer.copySample x.current.toNat 800).buffer ++ [x.current.toNat]) hp
    dsimp only
    split
    · exact h.endTrial s ((copySample_keeps _ _ _).2.trans hs) recorded
    · exact recorded

theorem captureSample (h : Part.Atoms I) (v : ValveId) (x : Sample) (hv : p.analyzer.state = .capturing v) (hp : I p) :
    I (p.captureSample v x) := by
  have recorded := h.record x.current.toNat (p.channel v).target
    ((p.analyzer.copySample x.current.toNat (p.channel v).target).buffer ++ [x.current.toNat]) hp
  have hstate := (copySample_keeps p.analyzer x.current.toNat (p.channel v).target).2.trans hv
  unfold Part.captureSample
  dsimp only
  split
  · exact h.completeTrace (h.analyzer _ rfl (by simp only [analyzer_setAnalyzer, hstate]; rfl) recorded)
  · exact recorded

theorem trackSample (h : Part.Atoms I) (v : ValveId) (x : Sample) (hp : I p) : I (p.trackSample v x) := by
  unfold Part.trackSample
  dsimp only
  refine h.channel _ _ (settleSample_supervised _ _) ?_
  split
  · next hv => exact h.captureSample v x hv hp
  · exact hp

theorem takeSample (h : Part.Atoms I) (v : ValveId) (x : Sample) (hp : I p) : I (p.takeSample v x) := by
  have measured : I (p.setChannel v { p.channel v with measured := x.current.toNat }) :=
    h.channel _ _ ⟨rfl, rfl, rfl, rfl, rfl, id⟩ hp
  unfold Part.takeSample
  dsimp only
  split
  case h_1 q hq => exact h.prepareSample v q x (by rw [channel_setChannel_self]; exact hq) measured
  case h_2 => exact h.trackSample v x measured
  case h_3 =>
    split
    · next s hs =>
      split
      · exact h.searchSample s x hs measured
      · exact measured
    all_goals exact measured
  all_goals exact measured

/-! ### Targets of the setup commands -/

theorem judgeRunCorner (h : Part.Atoms I) (c : CornerId) (hp : I p) : I (p.judgeRunCorner c).1 := by
  unfold Part.judgeRunCorner
  split
  · exact hp
  next hrunning =>
  split
  · exact hp
  next hsafe =>
  split
  · exact hp
  next hstate =>
  split
  · exact hp
  refine h.enterRun c (Bool.eq_true_of_not_eq_false hrunning) (Bool.eq_false_iff.2 hsafe) ?_ hp
  by_cases hidle : (p.corner c).state = .idle
  · exact .inl hidle
  · exact .inr (not_not.1 fun hlimp => hstate ⟨hidle, hlimp⟩)

theorem judgeIdleCorner (h : Part.Atoms I) (c : CornerId) (hp : I p) : I (p.judgeIdleCorner c).1 := by
  unfold Part.judgeIdleCorner
  split
  · next hstate => exact h.enterIdle c hstate hp
  · exact hp

theorem judgeEnable (h : Part.Atoms I) (v : ValveId) (hp : I p) : I (p.judgeEnable v).1 := by
  unfold Part.judgeEnable
  split
  · exact hp
  next hoff =>
  split
  · exact hp
  next hsafe =>
  split
  · exact hp
  split
  · exact hp
  split
  · exact hp
  next hmap =>
  refine h.handChange _ _ _ (h.enterPrepare v _ (not_not.1 hoff) (Bool.eq_false_iff.2 hsafe) ?_ hp)
  exact Option.isSome_iff_ne_none.2 fun hnone => hmap (by rw [hnone]; rfl)

theorem judgeDisable (h : Part.Atoms I) (v : ValveId) (hp : I p) : I (p.judgeDisable v).1 := by
  unfold Part.judgeDisable
  split
  · exact hp
  · exact h.limpNotice _ _ (h.handChange _ _ _ (h.stop v .off rfl hp))

theorem judgeClearFault (h : Part.Atoms I) (v : ValveId) (hp : I p) : I (p.judgeClearFault v).1 := by
  unfold Part.judgeClearFault
  split
  · next cause hfault =>
    split
    · exact hp
    · exact h.handChange _ _ _ (h.clearFault v (by rw [hfault]; rfl) hp)
  all_goals exact hp

theorem judgeRetune (h : Part.Atoms I) (v : ValveId) (hp : I p) : I (p.judgeRetune v).1 := by
  unfold Part.judgeRetune
  split
  · exact hp
  next htrack =>
  split
  · exact hp
  split
  · exact hp
  exact h.handChange _ _ _ (h.enterWaiting v (.inr (not_not.1 htrack)) hp)

theorem judgePromote (h : Part.Atoms I) (v : ValveId) (hp : I p) : I (p.judgePromote v).1 := by
  unfold Part.judgePromote
  split
  · exact hp
  next hvalid =>
  split
  · exact hp
  exact h.promote v (not_not.1 hvalid) hp

theorem judgeLimpFirmness (h : Part.Atoms I) (n : Nat) (c : CornerId) (hp : I p) : I (p.judgeLimpFirmness n c).1 := by
  have hset : I (p.setCorner c { p.corner c with limpFirmness := n }) :=
    h.corner _ _ ⟨rfl, rfl, rfl, rfl, rfl, rfl, rfl, rfl, rfl⟩ hp
  unfold Part.judgeLimpFirmness
  dsimp only
  split
  · exact h.sendLimpRamp _ _ hset
  · exact hset

theorem judgeDryRun (h : Part.Atoms I) (n : Nat) (c : CornerId) (hp : I p) : I (p.judgeDryRun n c).1 := by
  unfold Part.judgeDryRun
  split
  · next hc => exact h.dryRun c _ hc.1 hp
  · exact hp

/-- The judgement of one target keeps the property, when a RESTART does. -/
theorem judgeOwner (h : Part.Atoms I) (k : Kind) (n : Nat) (order : List Nat) (t : Nat) (hn : k.admits n = true)
    (hr : k = .restart → I (p.restart order)) (hp : I p) : I (p.judgeOwner k n order t).1 := by
  cases k <;> unfold Part.judgeOwner <;> dsimp only
  case framePeriod =>
    unfold Part.judgeFramePeriod
    split
    · exact hp
    · exact h.period _ hp
  case startFrames =>
    unfold Part.judgeStartFrames
    split
    · exact hp
    · exact h.start hp
  case runCorners => exact h.judgeRunCorner _ hp
  case idleCorners => exact h.judgeIdleCorner _ hp
  case enableValves => exact h.judgeEnable _ hp
  case disableValves => exact h.judgeDisable _ hp
  case clearFault => exact h.judgeClearFault _ hp
  case retune => exact h.judgeRetune _ hp
  case promoteMap => exact h.judgePromote _ hp
  case limpFirmness => exact h.judgeLimpFirmness _ _ hp
  case limpRamp => exact h.corner _ _ ⟨rfl, rfl, rfl, rfl, rfl, rfl, rfl, rfl, rfl⟩ hp
  case silenceLimit => exact h.corner _ _ ⟨rfl, rfl, rfl, rfl, rfl, rfl, rfl, rfl, rfl⟩ hp
  case watermarks =>
    unfold Part.judgeWatermarks
    split
    · next hc => exact h.watermarks _ _ _ hc.1 hc.2 hp
    · exact hp
  case settleTimeout => exact h.channel _ _ ⟨rfl, rfl, rfl, rfl, rfl, id⟩ hp
  case searchReach => exact h.channel _ _ ⟨rfl, rfl, rfl, rfl, rfl, id⟩ hp
  case warmLevel =>
    unfold Part.judgeWarmLevel
    dsimp only
    split
    · next hlt => exact h.evaluateLevel _ (h.warmLevel _ _ hlt hp)
    · exact hp
  case hotLevel =>
    have hle : n ≤ 4095 := of_decide_eq_true hn
    unfold Part.judgeHotLevel
    dsimp only
    split
    · next hlt => exact h.evaluateLevel _ (h.hotLevel _ _ hlt (by omega) hp)
    · exact hp
  case warmCeiling =>
    unfold Part.judgeWarmCeiling
    dsimp only
    split
    · next hle => exact h.warmCeiling _ _ hle (of_decide_eq_true hn) hp
    · exact hp
  case hotCeiling =>
    unfold Part.judgeHotCeiling
    dsimp only
    split
    · next hle => exact h.hotCeiling _ _ hle hp
    · exact hp
  case armTrace =>
    unfold Part.judgeArmTrace
    split
    · exact h.analyzer _ rfl rfl hp
    · exact hp
  case dryRun => exact h.judgeDryRun _ _ hp
  case axlePairing => exact h.pairing _ hp
  case readyMode => exact h.readyMode _ hp
  case attnThreshold => exact h.attnThreshold _ hp
  case restart => exact hr rfl

end Part.Atoms

end Sys2Proof.Machine
end

section
/-! The properties that do not look at the slots, at the Pending Lists and holds or at the engine's work: for those the
captures at Slot Capture, the boundaries of the corners, the flushes and the publish notices are made of small events too. -/

namespace Sys2Proof.Machine

/-- `I` holds after every small event, and does not look at slots, Pending Lists and holds. -/
structure Part.Workless (I : Part → Prop) : Prop extends Part.Atoms I where
  demand : ∀ {p} (i : SlotId) (x : DemandSlot), I p → I (p.setDemand i x)
  urgent : ∀ {p} (c : CornerId) (x : UrgentSlot), I p → I (p.setUrgent c x)
  work : ∀ {p} (c : CornerId) (l : List Entry) (h : Option Hold) (n : Nat) (q : Option Sequence) (f : Frame), I p →
    I (p.setCorner c { p.corner c with list := l, hold := h, silence := n, lastTaken := q, frame := f })

/-- `I` holds, too, after what the engine, the Journal Unit, the Map Store and the lines do. -/
structure Part.Unowed (I : Part → Prop) : Prop extends Part.Workless I where
  items : ∀ {p} (x : Engine), I p → I (p.setEngine x)
  setup : ∀ {p} (x : Setup), x.readyMode = p.setup.readyMode → x.attnThreshold = p.setup.attnThreshold → I p →
    I (p.setSetup x)
  result : ∀ {p} (v : ValveId), I p → I (p.setMap v { p.map v with result := none })
  published : ∀ {p}, I p → I (p.setJournal p.journal.published)
  consume : ∀ {p} (x : BitVec 7), I p → I (p.setJournal (p.journal.consume x))
  stageMap : ∀ {p} (v : ValveId) (w : Nat) (b : Beat) (bad : Lanes), I p → I (p.stageMap v w b bad)
  closeMap : ∀ {p} (v : ValveId) (cw : ClosingWord), I p → I (p.closeMap v cw)
  restart : ∀ {p} (order : List Nat), I p → I (p.restart order)
  released : ∀ {p : Part} (region : BitVec 4) (psense : ParitySense) (safe : Bool) (dflt : BitVec 8), I p →
    I (.released region psense safe dflt p.fresh)
  safeAsserted : ∀ {p} (order : List Nat), p.lines.safe = false → I p →
    I ((arrange order safeBlocks).foldl Part.safeBlock (p.setSafe true))
  safeReleased : ∀ {p} (order : List Nat), p.lines.safe = true → I p →
    I ((arrange order allCorners).foldl Part.exitSafe (p.setSafe false))

namespace Part.Workless

variable {I : Part → Prop} {p : Part}

/-! ### Slot Capture -/

theorem refuseDemand (h : Part.Workless I) (i : SlotId) (r : RefusalReason) (f : Frame) (hp : I p) :
    I (p.refuseDemand i r f) :=
  h.hand _ _ (h.engine _ rfl rfl (h.demand _ _ hp))

theorem takeDemand (h : Part.Workless I) (i : SlotId) (r : DemandRecord) (sel : ValveSelect) (hp : I p) :
    I (p.takeDemand i r sel) := by
  have taken (l : List Entry) (x : DemandSlot) :
      I (((p.setCorner r.corner { p.corner r.corner with list := l, lastTaken := some r.sequence, silence := 0 }).setDemand
        i x).offerDemand i) :=
    h.engine _ rfl rfl (h.demand _ _ (h.work _ _ _ _ _ _ hp))
  unfold Part.takeDemand Part.queueHigh
  dsimp only
  split
  · exact h.hand _ _ (taken _ _)
  · exact taken _ _

theorem closeDemand (h : Part.Workless I) (i : SlotId) (cw : ClosingWord) (hp : I p) : I (p.closeDemand i cw) := by
  have validated : I (p.validateDemand i cw) := by
    unfold Part.validateDemand
    dsimp only
    repeat' split
    all_goals first
      | exact h.refuseDemand _ _ _ (h.demand _ _ hp)
      | exact h.takeDemand _ _ _ (h.demand _ _ hp)
  unfold Part.closeDemand
  split
  · exact validated
  · exact validated
  all_goals exact h.hand _ _ hp

theorem endHold (h : Part.Workless I) (c : CornerId) (d : UrgentFinal) (hp : I p) : I (p.endHold c d) :=
  h.engine _ rfl rfl (h.urgent _ _ (h.work _ _ _ _ _ _ hp))

theorem startOverrides (h : Part.Workless I) (c : CornerId) (sel : ValveSelect) (m n : Nat) (hp : I p) :
    I (p.startOverrides c sel m n) := by
  have hfirst : I (if sel.hasCompression then p.overrideStart (compressionValve c) m else p) := by
    split
    · exact h.overrideStart _ _ hp
    · exact hp
  unfold Part.startOverrides
  dsimp only
  split
  · exact h.overrideStart _ _ hfirst
  · exact hfirst

theorem closeUrgent (h : Part.Workless I) (c : CornerId) (cw : ClosingWord) (hp : I p) : I (p.closeUrgent c cw) := by
  have refused (x : UrgentSlot) (reason : RefusalReason) (f : Frame) : I ((p.setUrgent c x).refuseUrgent c reason f) :=
    h.hand _ _ (h.engine _ rfl rfl (h.urgent _ _ (h.urgent _ _ hp)))
  have taken (x : UrgentSlot) (r : UrgentRecord) (sel : ValveSelect) : I ((p.setUrgent c x).takeUrgent c r sel) :=
    h.startOverrides _ _ _ _ (h.engine _ rfl rfl (h.urgent _ _ (h.work _ _ _ _ _ _ (h.urgent _ _ hp))))
  have validated : I (p.validateUrgent c cw) := by
    unfold Part.validateUrgent
    dsimp only
    repeat' split
    all_goals first | exact refused _ _ _ | exact taken _ _ _
  unfold Part.closeUrgent
  split
  · exact validated
  · exact validated
  · unfold Part.closeActive
    split
    · split
      · exact h.hand _ _ hp
      · exact h.sendEnds _ _ _ (h.endHold _ _ hp)
    · exact hp
  · exact h.hand _ _ hp

/-! ### The corners' work -/

theorem retire (h : Part.Workless I) (i : SlotId) (d : DemandFinal) (hp : I p) : I (p.retire i d) :=
  h.engine _ rfl rfl (h.demand _ _ hp)

theorem flushList (h : Part.Workless I) (c : CornerId) (cause : FlushCause) (hp : I p) : I (p.flushList c cause) :=
  Part.Atoms.foldl_keeps (fun _ _ => h.retire _ _) _ (h.work _ _ _ _ _ _ hp)

theorem flushHold (h : Part.Workless I) (c : CornerId) (cause : FlushCause) (hp : I p) : I (p.flushHold c cause) := by
  unfold Part.flushHold
  split
  · exact h.endHold _ _ hp
  · exact hp

theorem leaveRun (h : Part.Workless I) (c : CornerId) (cause : FlushCause) (hp : I p) : I (p.leaveRun c cause) :=
  h.overrideDrop _ (h.overrideDrop _ (h.flushHold _ _ (h.flushList _ _ hp)))

theorem applyEntry (h : Part.Workless I) (c : CornerId) (e : Entry) (n : Frame) (hp : I p) : I (p.applyEntry c e n) := by
  have retired (d : DemandFinal) : I (p.retire e.slot d) := h.retire _ _ hp
  unfold Part.applyEntry Part.sendApplication
  dsimp only
  repeat' split
  · exact h.sendRamp _ _ (h.sendRamp _ _ (retired _))
  · exact h.sendRamp _ _ (retired _)
  · exact h.sendRamp _ _ (retired _)
  · exact retired _

theorem handleDue (h : Part.Workless I) (c : CornerId) (n : Frame) (l : List Entry) :
    ∀ {p : Part}, I p → I (p.handleDue c n l) := by
  induction l with
  | nil => exact id
  | cons e rest ih =>
    intro p hp
    cases rest with
    | nil => exact h.applyEntry c e n hp
    | cons e' rest => exact ih (h.retire _ _ hp)

theorem removeDue (h : Part.Workless I) (c : CornerId) (n : Frame) (hp : I p) : I (p.removeDue c n) := by
  have handled (due rest : List Entry) : I ((p.setCorner c { p.corner c with list := rest }).handleDue c n due) :=
    h.handleDue _ _ _ (h.work _ _ _ _ _ _ hp)
  unfold Part.removeDue Part.queueLow
  dsimp only
  split
  · exact h.hand _ _ (handled _ _)
  · exact handled _ _

theorem countHold (h : Part.Workless I) (c : CornerId) (n : Frame) (hp : I p) : I (p.countHold c n) := by
  unfold Part.countHold
  split
  · split
    · exact h.sendEnds _ _ _ (h.endHold _ _ hp)
    · exact h.work _ _ _ _ _ _ hp
  · exact hp

theorem cornerBoundary (h : Part.Workless I) (c : CornerId) (hp : I p) : I (p.cornerBoundary c) := by
  unfold Part.cornerBoundary
  dsimp only
  split
  · next hrun =>
    have moved (f : Frame) (n : Nat) : I (p.setCorner c { p.corner c with frame := f, silence := n }) :=
      h.work _ _ _ _ _ _ hp
    split
    · exact h.enterLimp _ _ _ (by rw [corner_setCorner_self]; exact hrun) (moved _ _)
    · exact h.countHold _ _ (h.removeDue _ _ (moved _ _))
  · exact h.work _ _ _ _ _ _ hp

end Part.Workless

namespace Part.Unowed

variable {I : Part → Prop} {p : Part}

/-! ### The Write-Back Engine -/

theorem chooseItem (h : Part.Unowed I) (hp : I p) : I p.chooseItem := by
  rw [Part.chooseItem_units]
  exact h.items _ hp

theorem traceWritten_keeps (a : Analyzer) :
    a.traceWritten.queue = a.queue ∧ a.traceWritten.state.trial = a.state.trial := by
  refine ⟨rfl, ?_⟩
  unfold Analyzer.traceWritten
  dsimp only
  split
  · next hw => rw [hw]; rfl
  · rfl

theorem publish (h : Part.Unowed I) (n : Notice) (hp : I p) : I (p.publish n) := by
  cases n with
  | demandTake i => exact h.demand _ _ hp
  | demandFinal i => exact h.demand _ _ hp
  | urgentTake c => exact h.urgent _ _ hp
  | urgentFinal c => exact h.urgent _ _ hp
  | mapResult v => exact h.result _ hp
  | reply => exact h.setup p.setup.replied rfl rfl hp
  | journal => exact h.published hp
  | trace =>
    have written := h.analyzer _ (traceWritten_keeps p.analyzer).1 (traceWritten_keeps p.analyzer).2 hp
    show I p.publishTrace
    unfold Part.publishTrace
    dsimp only
    split
    · exact h.hand _ _ written
    · exact written

theorem publishWord (h : Part.Unowed I) (w : EngineWord) (hp : I p) : I (p.publishWord w) := by
  unfold Part.publishWord
  split
  · exact h.publish _ hp
  · exact hp

theorem judging (h : Part.Unowed I) : Part.Judging I where
  hand := h.hand
  setup := h.setup
  offerReply := h.items _
  judge k n order t hn hp := h.judgeOwner k n order t hn (fun _ => h.restart order hp) hp

end Part.Unowed

/-- A property made of small events, that does not look at the work, is kept by every step. -/
theorem Part.Unowed.kept {I : Part → Prop} (h : Part.Unowed I) : Part.Kept I where
  bridge := h.bridge
  port := h.port
  waitCount := h.waitCount
  fresh := h.fresh
  hand := h.hand
  chooseItem := h.chooseItem
  grant hp _ _ := h.publishWord _ (h.items _ hp)
  stageDemand _ _ _ _ := h.demand _ _
  closeDemand := h.closeDemand
  stageUrgent _ _ _ _ := h.urgent _ _
  closeUrgent := h.closeUrgent
  stageMap := h.stageMap
  closeMap := h.closeMap
  judgeNext := h.judging.judgeNext
  receiveCommand := h.judging.receiveCommand
  consume := h.consume
  released := h.released
  safeAsserted := h.safeAsserted
  safeReleased := h.safeReleased
  driverChange := h.driverChange
  frame _ := h.frame _
  cornerBoundary c _ := h.cornerBoundary c
  partnerNotice := h.takePartnerNotice
  channelBoundary := h.channelBoundary
  rampRequest := h.nextRampRequest
  overrideEnd := h.nextOverrideEnd
  sample := h.takeSample
  prepareTimeout v _ := h.enterFault v _ _
  prepareEnd := h.endPrepare
  settleMiss v _ := h.settleMiss v
  heatUpdate := h.heatUpdate
  look := h.look
  stepTrial s hs := h.stepTrial_keeps s (Part.Atoms.preDriveEnds_searching hs)

end Sys2Proof.Machine
end

section
/-! Every step keeps the settings ordered and the active maps well formed. -/

namespace Sys2Proof.Machine

/-! ### What stands beside the operations -/

/-- What a channel has in hand is given up at the analyzer and the engine's trace class alone. -/
@[simp] theorem abortFor_others (p : Part) (v : ValveId) :
    (∀ w, (p.abortFor v).corner w = p.corner w) ∧ (∀ w, (p.abortFor v).channel w = p.channel w) ∧
      (p.abortFor v).lines = p.lines ∧ (p.abortFor v).journal = p.journal ∧
      (∀ i, (p.abortFor v).demandSlot i = p.demandSlot i) ∧ (∀ c, (p.abortFor v).urgentSlot c = p.urgentSlot c) := by
  rw [abortFor_keeps]
  exact ⟨fun _ => rfl, fun _ => rfl, rfl, rfl, fun _ => rfl, fun _ => rfl⟩

theorem channel_redriven_ne (p : Part) {v w : ValveId} (ch : Channel) (h : w ≠ v) :
    (p.redriven v ch).channel w = p.channel w := by
  simp [Part.redriven, h]

/-- The corners' flushes at RESTART leave everything but slots, corners and the engine's classes. -/
theorem restartFlushes_units (l : List CornerId) (p : Part) :
    (l.foldl Part.restartFlush p).channels = p.channels ∧ (l.foldl Part.restartFlush p).maps = p.maps ∧
      (l.foldl Part.restartFlush p).lines = p.lines ∧ (l.foldl Part.restartFlush p).setup = p.setup := by
  induction l generalizing p with
  | nil => exact ⟨rfl, rfl, rfl, rfl⟩
  | cons c rest ih =>
    obtain ⟨hchannels, hmaps, hlines, hsetup⟩ := ih (p.restartFlush c)
    rw [List.foldl_cons, hchannels, hmaps, hlines, hsetup]
    simp [Part.restartFlush]

theorem restart_maps (p : Part) (order : List Nat) : (p.restart order).maps = p.maps :=
  (restartFlushes_units _ p).2.1

theorem restart_map (p : Part) (order : List Nat) (v : ValveId) : (p.restart order).map v = p.map v :=
  congrArg (fun m : Vector MapEntry 8 => m[v]) (restart_maps p order)

theorem restart_channel (p : Part) (order : List Nat) (v : ValveId) :
    (p.restart order).channel v = (p.channel v).restarted := by
  have hchannels := (restartFlushes_units (arrange order allCorners) p).1
  unfold Part.restart Part.channel
  dsimp only
  rw [hchannels]
  simp

theorem restart_corner (p : Part) (order : List Nat) (c : CornerId) :
    (p.restart order).corner c = Corner.restarted p.lines.safe := by
  have hlines := (restartFlushes_units (arrange order allCorners) p).2.2.1
  unfold Part.restart Part.corner
  dsimp only
  rw [hlines]
  simp

theorem released_corner (region : BitVec 4) (psense : ParitySense) (safe : Bool) (dflt : BitVec 8) (n : Nat)
    (c : CornerId) : (Part.released region psense safe dflt n).corner c = Corner.restarted safe := by
  simp [Part.released, Part.corner]

theorem released_channel (region : BitVec 4) (psense : ParitySense) (safe : Bool) (dflt : BitVec 8) (n : Nat)
    (v : ValveId) : (Part.released region psense safe dflt n).channel v = Channel.reset := by
  simp [Part.released, Part.channel, Part.reset]

theorem released_map (region : BitVec 4) (psense : ParitySense) (safe : Bool) (dflt : BitVec 8) (n : Nat)
    (v : ValveId) : (Part.released region psense safe dflt n).map v = MapEntry.reset := by
  simp [Part.released, Part.map, Part.reset]

/-! ### Settings -/

/-- The same levels and ceilings stand in two Heat Monitors. -/
structure Heat.SameLimits (a b : Heat) : Prop where
  warmLevel : b.warmLevel = a.warmLevel
  hotLevel : b.hotLevel = a.hotLevel
  warmCeiling : b.warmCeiling = a.warmCeiling
  hotCeiling : b.hotCeiling = a.hotCeiling

theorem Heat.SameLimits.of_eq {a b : Heat} (h : b = a) : a.SameLimits b := by subst h; exact ⟨rfl, rfl, rfl, rfl⟩

/-- The settings of one part stand in another. -/
structure SameSettings (p q : Part) : Prop where
  marks : ∀ c, (q.corner c).lowMark = (p.corner c).lowMark ∧ (q.corner c).highMark = (p.corner c).highMark
  limits : ∀ v, (p.channel v).heat.SameLimits (q.channel v).heat
  maps : ∀ v, q.map v = p.map v

theorem SettingsOrdered.of_same {p q : Part} (h : SameSettings p q) (hp : SettingsOrdered p) : SettingsOrdered q where
  watermarks c := by rw [(h.marks c).1, (h.marks c).2]; exact hp.watermarks c
  levels v := by rw [(h.limits v).warmLevel, (h.limits v).hotLevel]; exact hp.levels v
  ceilings v := by rw [(h.limits v).warmCeiling, (h.limits v).hotCeiling]; exact hp.ceilings v
  active v := by rw [h.maps v]; exact hp.active v
  pending v := by rw [h.maps v]; exact hp.pending v

theorem SameSettings.refl (p : Part) : SameSettings p p := ⟨fun _ => ⟨rfl, rfl⟩, fun _ => .of_eq rfl, fun _ => rfl⟩

theorem SameSettings.trans {p q r : Part} (h : SameSettings p q) (h' : SameSettings q r) : SameSettings p r where
  marks c := ⟨(h'.marks c).1.trans (h.marks c).1, (h'.marks c).2.trans (h.marks c).2⟩
  limits v :=
    ⟨(h'.limits v).warmLevel.trans (h.limits v).warmLevel, (h'.limits v).hotLevel.trans (h.limits v).hotLevel,
      (h'.limits v).warmCeiling.trans (h.limits v).warmCeiling, (h'.limits v).hotCeiling.trans (h.limits v).hotCeiling⟩
  maps v := (h'.maps v).trans (h.maps v)

/-- An operation that keeps marks, Heat Monitors and maps keeps the settings. -/
theorem SameSettings.of_eq {p q : Part}
    (marks : ∀ c, (q.corner c).lowMark = (p.corner c).lowMark ∧ (q.corner c).highMark = (p.corner c).highMark)
    (heat : ∀ v, (q.channel v).heat = (p.channel v).heat) (maps : ∀ v, q.map v = p.map v) : SameSettings p q :=
  ⟨marks, fun v => .of_eq (heat v), maps⟩

/-- An operation that leaves corners, channels and maps alone keeps the settings. -/
theorem SameSettings.of_units {p q : Part} (corners : q.corners = p.corners) (channels : q.channels = p.channels)
    (maps : q.maps = p.maps) : SameSettings p q := by
  refine .of_eq (fun c => ?_) (fun v => ?_) (fun v => ?_)
  · unfold Part.corner; rw [corners]; exact ⟨rfl, rfl⟩
  · unfold Part.channel; rw [channels]
  · unfold Part.map; rw [maps]

theorem sameSettings_setAnalyzer (p : Part) (x : Analyzer) : SameSettings p (p.setAnalyzer x) := .of_units rfl rfl rfl

theorem sameSettings_setLines (p : Part) (x : Lines) : SameSettings p (p.setLines x) := .of_units rfl rfl rfl

theorem sameSettings_setCorner (p : Part) (c : CornerId) (k : Corner) (hl : k.lowMark = (p.corner c).lowMark)
    (hh : k.highMark = (p.corner c).highMark) : SameSettings p (p.setCorner c k) := by
  refine .of_eq (fun d => ?_) (fun _ => rfl) (fun _ => rfl)
  rw [corner_setCorner]
  split
  · next hd => exact hd ▸ ⟨hl, hh⟩
  · exact ⟨rfl, rfl⟩

theorem sameSettings_setChannel (p : Part) (v : ValveId) (ch : Channel) (h : (p.channel v).heat.SameLimits ch.heat) :
    SameSettings p (p.setChannel v ch) := by
  refine ⟨fun _ => ⟨rfl, rfl⟩, fun w => ?_, fun _ => rfl⟩
  rw [channel_setChannel]
  split
  · next hw => exact hw ▸ h
  · exact .of_eq rfl

theorem sameSettings_trial (p : Part) (v : ValveId) (ch : Channel) (x : Analyzer) (h : ch.heat = (p.channel v).heat) :
    SameSettings p ((p.setChannel v ch).setAnalyzer x) :=
  (sameSettings_setChannel p v ch (.of_eq h)).trans (sameSettings_setAnalyzer _ x)

theorem sameSettings_redriven (p : Part) (v : ValveId) (ch : Channel) (h : (p.channel v).heat.SameLimits ch.heat) :
    SameSettings p (p.redriven v ch) :=
  (sameSettings_setChannel p v ch h).trans (.of_eq (by simp [Part.redriven]) (by simp [Part.redriven])
    (by simp [Part.redriven]))

theorem sameSettings_stopChannel (p : Part) (v : ValveId) (entered : ChannelState) :
    SameSettings p (p.stopChannel v entered) := by
  refine .of_eq (fun c => ?_) (fun w => ?_) (fun w => ?_)
  · simp [Part.stopChannel]
  · simp only [Part.stopChannel, evalReady_units, channel_setChannel, abortFor_others]
    split
    · next hw => rw [hw]
    · rfl
  · simp [Part.stopChannel]

theorem sameSettings_enterTrack (p : Part) (v : ValveId) : SameSettings p (p.enterTrack v) := by
  refine .of_eq (fun c => ?_) (fun w => ?_) (fun w => ?_)
  · simp [Part.enterTrack]
  · simp only [Part.enterTrack, evalReady_units, channel_setChannel]
    split
    · next hw => rw [hw]
    · rfl
  · simp [Part.enterTrack]

theorem sameSettings_enterWaiting (p : Part) (v : ValveId) : SameSettings p (p.enterWaiting v) :=
  (sameSettings_stopChannel p v _).trans (.of_units rfl rfl rfl)

theorem sameSettings_enterSafe (p : Part) (c : CornerId) : SameSettings p (p.enterSafe c) :=
  .of_eq (by simp) (by simp) (by simp)

theorem sameSettings_exitSafe (p : Part) (c : CornerId) : SameSettings p (p.exitSafe c) :=
  .of_eq (by simp) (by simp) (by simp)

theorem sameSettings_safeBlock (p : Part) (b : CornerId ⊕ ValveId) : SameSettings p (p.safeBlock b) := by
  cases b with
  | inl c => exact sameSettings_enterSafe p c
  | inr v =>
    show SameSettings p (p.safeChannel v)
    unfold Part.safeChannel
    split
    · exact .refl p
    · exact (sameSettings_stopChannel p v .off).trans (.of_units rfl rfl rfl)

theorem sameSettings_foldl {α : Type} {op : Part → α → Part} (hop : ∀ p x, SameSettings p (op p x)) (l : List α) :
    ∀ p : Part, SameSettings p (l.foldl op p) := by
  induction l with
  | nil => exact SameSettings.refl
  | cons x rest ih => exact fun p => (hop p x).trans (ih _)

/-! ### Validated maps -/

/-- What a map must be to become active (R77, R84). -/
def MapFit (l : List MapPoint) : Prop := 2 ≤ l.length ∧ l.length ≤ 16 ∧ wellShaped l = true ∧ ∀ q ∈ l, q.current ≤ 2000

theorem mapFit_of_mapFlaw_none {staging : List StagedByte} {cw : ClosingWord} (h : mapFlaw staging cw = none) :
    MapFit (stagedPoints staging (headerCount cw.data)) := by
  unfold mapFlaw at h
  dsimp only at h
  split at h
  · cases h
  split at h
  · cases h
  split at h
  · cases h
  next hcount =>
  split at h
  · cases h
  split at h
  · cases h
  next hshape =>
  split at h
  · cases h
  next hrange =>
  have hlength : (stagedPoints staging (headerCount cw.data)).length = headerCount cw.data := by simp [stagedPoints]
  refine ⟨by omega, by omega, Bool.eq_true_of_not_eq_false hshape, fun q hq => ?_⟩
  by_contra hlarge
  exact hrange (List.any_eq_true.2 ⟨q, hq, decide_eq_true (by omega)⟩)

/-- One map replaced by one that is fit wherever it is active or VALID. -/
theorem SettingsOrdered.setMap {p : Part} (hp : SettingsOrdered p) (v : ValveId) (m : MapEntry)
    (active : ∀ pts, m.active = some pts → MapFit pts) (pending : m.state = .valid → MapFit m.pendingPoints) :
    SettingsOrdered (p.setMap v m) where
  watermarks := hp.watermarks
  levels := hp.levels
  ceilings := hp.ceilings
  active w := by
    rw [map_setMap]
    split
    · exact active
    · exact hp.active w
  pending w := by
    rw [map_setMap]
    split
    · exact pending
    · exact hp.pending w

theorem stage_active (m : MapEntry) (w : Nat) (b : Beat) (bad : Lanes) :
    (m.stage w b bad).active = m.active ∧ (m.stage w b bad = m ∨ (m.stage w b bad).state = .filling) := by
  unfold MapEntry.stage
  split
  · exact ⟨rfl, .inl rfl⟩
  · split
    · exact ⟨rfl, .inr rfl⟩
    · next hf => exact ⟨rfl, .inr hf⟩
    · exact ⟨rfl, .inr rfl⟩
    · exact ⟨rfl, .inr rfl⟩

theorem SettingsOrdered.stageMap {p : Part} (hp : SettingsOrdered p) (v : ValveId) (w : Nat) (b : Beat) (bad : Lanes) :
    SettingsOrdered (p.stageMap v w b bad) := by
  obtain ⟨hactive, hstate⟩ := stage_active (p.map v) w b bad
  refine hp.setMap v _ (fun pts hpts => hp.active v pts (hactive ▸ hpts)) (fun hvalid => ?_)
  obtain hsame | hfilling := hstate
  · rw [hsame] at hvalid ⊢; exact hp.pending v hvalid
  · rw [hfilling] at hvalid; cases hvalid

theorem pendingOf_eq_valid {r : Option MapReason} (h : pendingOf r = .valid) : r = none := by
  cases r with
  | none => rfl
  | some x => cases h

theorem SettingsOrdered.closeMap {p : Part} (hp : SettingsOrdered p) (v : ValveId) (cw : ClosingWord) :
    SettingsOrdered (p.closeMap v cw) := by
  have validated : SettingsOrdered (p.setMap v
      { p.map v with
        state := pendingOf (mapFlaw (p.map v).staging.toList cw), header := some cw
        result := some { reason := mapFlaw (p.map v).staging.toList cw, count := headerCount cw.data } }) :=
    hp.setMap v _ (hp.active v) fun hvalid => mapFit_of_mapFlaw_none (pendingOf_eq_valid hvalid)
  unfold Part.closeMap
  dsimp only
  split <;> exact validated.of_same (.of_eq (by simp) (by simp) (by simp))

theorem SettingsOrdered.promote {p : Part} (hp : SettingsOrdered p) (v : ValveId) (hv : (p.map v).state = .valid) :
    SettingsOrdered (p.promote v) := by
  have promoted := hp.setMap v
    { p.map v with
      active := some (p.map v).pendingPoints, state := .empty, staging := Vector.replicate 64 .clear, header := none }
    (fun pts hpts => by cases hpts; exact hp.pending v hv) (fun h => nomatch h)
  exact promoted.of_same (.of_eq (by simp [Part.promote]) (by simp [Part.promote]) (by simp [Part.promote]))

/-! ### Marks, levels and ceilings -/

theorem SettingsOrdered.setMarks {p : Part} (hp : SettingsOrdered p) (c : CornerId) (l h : Nat) (hlt : l < h)
    (hle : h ≤ 8) : SettingsOrdered (p.setCorner c { p.corner c with lowMark := l, highMark := h }) where
  watermarks d := by
    rw [corner_setCorner]
    split
    · exact ⟨hlt, hle⟩
    · exact hp.watermarks d
  levels := hp.levels
  ceilings := hp.ceilings
  active := hp.active
  pending := hp.pending

theorem SettingsOrdered.setHeat {p : Part} (hp : SettingsOrdered p) (v : ValveId) (x : Heat)
    (levels : x.warmLevel < x.hotLevel ∧ x.hotLevel ≤ 65520)
    (ceilings : x.hotCeiling ≤ x.warmCeiling ∧ x.warmCeiling ≤ 2000) : SettingsOrdered (p.setHeat v x) where
  watermarks := hp.watermarks
  levels w := by
    rw [Part.setHeat, channel_setChannel]
    split
    · exact levels
    · exact hp.levels w
  ceilings w := by
    rw [Part.setHeat, channel_setChannel]
    split
    · exact ceilings
    · exact hp.ceilings w
  active := hp.active
  pending := hp.pending

theorem sameSettings_recomputeIn (p : Part) (v : ValveId) (l : ThermalLevel) : SameSettings p (p.recomputeIn v l) := by
  unfold Part.recomputeIn
  split
  · exact .of_eq (by simp) (by simp) (by simp)
  · exact .refl p

theorem settingsOrdered_restarted {p q : Part} (safe : Bool) (hc : ∀ c, q.corner c = Corner.restarted safe)
    (hv : ∀ v, Heat.reset.SameLimits (q.channel v).heat) (hm : ∀ v, q.map v = p.map v ∨ q.map v = MapEntry.reset)
    (hp : SettingsOrdered p) : SettingsOrdered q where
  watermarks c := by rw [hc c]; simp [Corner.restarted, Corner.reset]
  levels v := by rw [(hv v).warmLevel, (hv v).hotLevel]; decide
  ceilings v := by rw [(hv v).warmCeiling, (hv v).hotCeiling]; decide
  active v pts hpts := by
    obtain h | h := hm v
    · exact hp.active v pts (h ▸ hpts)
    · rw [h] at hpts; cases hpts
  pending v hvalid := by
    obtain h | h := hm v
    · rw [h] at hvalid ⊢; exact hp.pending v hvalid
    · rw [h] at hvalid; cases hvalid

/-- The settings are changed by the setup commands that name them and by the Map Store alone. -/
theorem settingsOrdered_unowed : Part.Unowed SettingsOrdered where
  bridge _ := .of_same (.of_units rfl rfl rfl)
  port _ := .of_same (.of_units rfl rfl rfl)
  waitCount _ := .of_same (.of_units rfl rfl rfl)
  fresh _ := .of_same (.of_units rfl rfl rfl)
  hand _ _ := .of_same (.of_units rfl rfl rfl)
  engine _ _ _ := .of_same (.of_units rfl rfl rfl)
  pairing _ := .of_same (.of_units rfl rfl rfl)
  dflt _ := .of_same (.of_units rfl rfl rfl)
  setup _ _ _ := .of_same (.of_units rfl rfl rfl)
  period _ := .of_same (.of_units rfl rfl rfl)
  start := .of_same (.of_units rfl rfl rfl)
  frame _ := .of_same (.of_units rfl rfl rfl)
  corner c k hk := .of_same (sameSettings_setCorner _ c k hk.lowMark hk.highMark)
  watermarks c l h hlt hle hp := hp.setMarks c l h hlt hle
  dryRun c _ _ := .of_same (sameSettings_setCorner _ c _ rfl rfl)
  enterLimp _ _ _ _ := .of_same (.of_eq (by simp) (by simp) (by simp))
  enterIdle _ _ := .of_same (.of_eq (by simp) (by simp) (by simp))
  enterRun _ _ _ _ := .of_same (.of_eq (by simp) (by simp) (by simp))
  channel v ch hch := .of_same (sameSettings_setChannel _ v ch (.of_eq hch.heat))
  redriven v ch hch := .of_same (sameSettings_redriven _ v ch (.of_eq hch.heat))
  stop v entered _ := .of_same (sameSettings_stopChannel _ v entered)
  clearFault v _ := .of_same (sameSettings_setChannel _ v _ (.of_eq rfl))
  enterPrepare v _ _ _ _ := .of_same (sameSettings_setChannel _ v _ (.of_eq rfl))
  prepare v _ _ _ := .of_same (sameSettings_setChannel _ v _ (.of_eq rfl))
  enterWaiting v _ := .of_same (sameSettings_enterWaiting _ v)
  enterTrack v _ _ _ := .of_same (sameSettings_enterTrack _ v)
  analyzer _ _ _ := .of_same (.of_units rfl rfl rfl)
  startSearch v _ _ _ := .of_same (sameSettings_trial _ v _ _ rfl)
  stepTrial s _ := .of_same (sameSettings_trial _ s.valve _ _ rfl)
  nextTrial s _ _ := .of_same (sameSettings_trial _ s.valve _ _ rfl)
  searchTuned s _ _ hp := by
    refine .of_same (.trans ?_ (sameSettings_enterTrack _ s.valve)) hp
    exact (sameSettings_setAnalyzer _ _).trans (sameSettings_setChannel _ s.valve _ (.of_eq rfl))
  searchFailed s _ := .of_same ((sameSettings_setAnalyzer _ _).trans (sameSettings_stopChannel _ s.valve _))
  level v _ := .of_same (sameSettings_redriven _ v _ ⟨rfl, rfl, rfl, rfl⟩)
  heatIndex v _ := .of_same (sameSettings_setChannel _ v _ ⟨rfl, rfl, rfl, rfl⟩)
  warmLevel v _ hlt hp := hp.setHeat v _ ⟨hlt, (hp.levels v).2⟩ (hp.ceilings v)
  hotLevel v _ hlt hle hp := hp.setHeat v _ ⟨hlt, hle⟩ (hp.ceilings v)
  warmCeiling {p} v n hle hle' hp :=
    (hp.setHeat v { (p.channel v).heat with warmCeiling := n } (hp.levels v) ⟨hle, hle'⟩).of_same
      (sameSettings_recomputeIn _ v .warm)
  hotCeiling {p} v n hle hp :=
    (hp.setHeat v { (p.channel v).heat with hotCeiling := n } (hp.levels v) ⟨hle, (hp.ceilings v).2⟩).of_same
      (sameSettings_recomputeIn _ v .hot)
  promote v hv hp := hp.promote v hv
  readyMode _ := .of_same (.of_units rfl rfl rfl)
  attnThreshold _ := .of_same (.of_units rfl rfl rfl)
  restart order := settingsOrdered_restarted _ (restart_corner _ order)
    (fun v => by rw [restart_channel]; exact ⟨rfl, rfl, rfl, rfl⟩) (fun v => .inl (restart_map _ order v))
  demand _ _ := .of_same (.of_units rfl rfl rfl)
  urgent _ _ := .of_same (.of_units rfl rfl rfl)
  work c _ _ _ _ _ := .of_same (sameSettings_setCorner _ c _ rfl rfl)
  items _ := .of_same (.of_units rfl rfl rfl)
  result v hp := hp.setMap v _ (hp.active v) (hp.pending v)
  published := .of_same (.of_units rfl rfl rfl)
  consume _ := .of_same (.of_units rfl rfl rfl)
  stageMap v w b bad hp := hp.stageMap v w b bad
  closeMap v cw hp := hp.closeMap v cw
  released region psense safe dflt := settingsOrdered_restarted safe (released_corner region psense safe dflt _)
    (fun v => by rw [released_channel]; exact ⟨rfl, rfl, rfl, rfl⟩) (fun v => .inr (released_map _ _ _ _ _ v))
  safeAsserted _ _ := .of_same ((sameSettings_setLines _ _).trans (sameSettings_foldl sameSettings_safeBlock _ _))
  safeReleased _ _ := .of_same ((sameSettings_setLines _ _).trans (sameSettings_foldl sameSettings_exitSafe _ _))

end Sys2Proof.Machine
end

section
/-! Every step keeps the Setup Decoder in order: what the decoder holds changes at a command word, at a target judged, at
the choice of an item and at a word written, and nowhere else. -/

namespace Sys2Proof.Machine

/-! ### What leaves the decoder alone -/

/-- What the decoder holds of a command stands, and so do the reply class and the item in hand. -/
structure SameDecoder (p q : Part) : Prop where
  setup : q.setup = { p.setup with readyMode := q.setup.readyMode, attnThreshold := q.setup.attnThreshold }
  reply : q.engine.reply = p.engine.reply
  hand : q.engine.hand = p.engine.hand

theorem SameDecoder.of_eq {p q : Part} (setup : q.setup = p.setup) (reply : q.engine.reply = p.engine.reply)
    (hand : q.engine.hand = p.engine.hand) : SameDecoder p q :=
  ⟨by rw [setup], reply, hand⟩

theorem SameDecoder.trans {p q r : Part} (h : SameDecoder p q) (h' : SameDecoder q r) : SameDecoder p r where
  setup := by rw [h'.setup, h.setup]
  reply := h'.reply.trans h.reply
  hand := h'.hand.trans h.hand

theorem DecoderOrdered.of_same {p q : Part} (h : SameDecoder p q) (hp : DecoderOrdered p) : DecoderOrdered q := by
  obtain ⟨hsetup, hreply, hhand⟩ := h
  constructor
  · rw [hsetup]; exact hp.free
  · rw [hsetup]; exact hp.judging
  · rw [hsetup]; exact hp.replying
  · rw [hsetup]; exact hp.named
  · rw [hsetup, hreply, hhand]; exact hp.owed
  · rw [hsetup, hreply, hhand]; exact hp.offered
  · rw [hsetup, hhand]; exact hp.inHand

theorem abortFor_engine (p : Part) (v : ValveId) :
    (p.abortFor v).engine.reply = p.engine.reply ∧ (p.abortFor v).engine.hand = p.engine.hand := by
  rw [(abortFor_left p v).2]
  split <;> exact ⟨rfl, rfl⟩

theorem sameDecoder_stopChannel (p : Part) (v : ValveId) (entered : ChannelState) :
    SameDecoder p (p.stopChannel v entered) := by
  obtain ⟨hreply, hhand⟩ := abortFor_engine p v
  exact .of_eq (by simp) (by simpa [Part.stopChannel] using hreply) (by simpa [Part.stopChannel] using hhand)

theorem sameDecoder_enterSafe (p : Part) (c : CornerId) : SameDecoder p (p.enterSafe c) := by
  have howed := (leaveRun_slots p c .safe).2.2
  exact .of_eq (by simp) (by simp [Part.enterSafe, Part.setCornerState, howed])
    (by simp [Part.enterSafe, Part.setCornerState, howed])

theorem sameDecoder_recomputeIn (p : Part) (v : ValveId) (l : ThermalLevel) : SameDecoder p (p.recomputeIn v l) := by
  unfold Part.recomputeIn
  split
  · exact .of_eq (by simp) (by simp) (by simp)
  · exact .of_eq rfl rfl rfl

theorem sameDecoder_exitSafe (p : Part) (c : CornerId) : SameDecoder p (p.exitSafe c) := by
  unfold Part.exitSafe
  split
  · exact .of_eq (by simp [Part.setCornerState]) (by simp [Part.setCornerState]) (by simp [Part.setCornerState])
  · exact .of_eq rfl rfl rfl

/-- No event of a corner, a channel, the analyzer or Slot Capture touches what the decoder holds. -/
theorem sameDecoder_workless (p0 : Part) : Part.Workless (SameDecoder p0) where
  bridge _ h := h.trans (.of_eq rfl rfl rfl)
  port _ h := h.trans (.of_eq rfl rfl rfl)
  waitCount _ h := h.trans (.of_eq rfl rfl rfl)
  fresh _ h := h.trans (.of_eq rfl rfl rfl)
  hand _ _ h := h.trans (.of_eq rfl rfl rfl)
  engine _ hhand hreply h := h.trans (.of_eq rfl hreply hhand)
  pairing _ h := h.trans (.of_eq rfl rfl rfl)
  dflt _ h := h.trans (.of_eq rfl rfl rfl)
  period _ h := h.trans (.of_eq rfl rfl rfl)
  start h := h.trans (.of_eq rfl rfl rfl)
  frame _ h := h.trans (.of_eq rfl rfl rfl)
  corner _ _ _ h := h.trans (.of_eq rfl rfl rfl)
  watermarks _ _ _ _ _ h := h.trans (.of_eq rfl rfl rfl)
  dryRun _ _ _ h := h.trans (.of_eq rfl rfl rfl)
  enterLimp {p} c d f _ h :=
    have howed := (enterLimp_entered p c d f).work.owed
    h.trans (.of_eq (by simp) (by rw [howed]) (by rw [howed]))
  enterIdle {p} c _ h :=
    have howed := (enterIdle_entered p c).1.owed
    h.trans (.of_eq (by simp) (by rw [howed]) (by rw [howed]))
  enterRun _ _ _ _ h := h.trans (.of_eq (by simp) (by simp) (by simp))
  channel _ _ _ h := h.trans (.of_eq rfl rfl rfl)
  redriven _ _ _ h := h.trans (.of_eq (by simp [Part.redriven]) (by simp [Part.redriven]) (by simp [Part.redriven]))
  stop v entered _ h := h.trans (sameDecoder_stopChannel _ v entered)
  clearFault _ _ h := h.trans (.of_eq rfl rfl rfl)
  enterPrepare _ _ _ _ _ h := h.trans (.of_eq rfl rfl rfl)
  prepare _ _ _ _ h := h.trans (.of_eq rfl rfl rfl)
  enterWaiting v _ h := (h.trans (sameDecoder_stopChannel _ v (.tune .waiting))).trans (.of_eq rfl rfl rfl)
  enterTrack _ _ _ _ h := h.trans (.of_eq rfl rfl rfl)
  analyzer _ _ _ h := h.trans (.of_eq rfl rfl rfl)
  startSearch _ _ _ _ h := h.trans (.of_eq rfl rfl rfl)
  stepTrial _ _ h := h.trans (.of_eq rfl rfl rfl)
  nextTrial _ _ _ h := h.trans (.of_eq rfl rfl rfl)
  searchTuned _ _ _ h := h.trans (.of_eq rfl rfl rfl)
  searchFailed {p} s _ h :=
    (h.trans (r := p.setAnalyzer { p.analyzer with state := .idle }) (.of_eq rfl rfl rfl)).trans
      (sameDecoder_stopChannel _ s.valve _)
  level _ _ h := h.trans (.of_eq (by simp [Part.redriven]) (by simp [Part.redriven]) (by simp [Part.redriven]))
  heatIndex _ _ h := h.trans (.of_eq rfl rfl rfl)
  warmLevel _ _ _ h := h.trans (.of_eq rfl rfl rfl)
  hotLevel _ _ _ _ h := h.trans (.of_eq rfl rfl rfl)
  warmCeiling _ _ _ _ h := h.trans (.trans (q := Part.setHeat _ _ _) (.of_eq rfl rfl rfl) (sameDecoder_recomputeIn _ _ _))
  hotCeiling _ _ _ h := h.trans (.trans (q := Part.setHeat _ _ _) (.of_eq rfl rfl rfl) (sameDecoder_recomputeIn _ _ _))
  promote _ _ h := h.trans (.of_eq (by simp [Part.promote]) (by simp [Part.promote]) (by simp [Part.promote]))
  readyMode _ h := h.trans ⟨rfl, rfl, rfl⟩
  attnThreshold _ h := h.trans ⟨rfl, rfl, rfl⟩
  demand _ _ h := h.trans (.of_eq rfl rfl rfl)
  urgent _ _ h := h.trans (.of_eq rfl rfl rfl)
  work _ _ _ _ _ _ h := h.trans (.of_eq rfl rfl rfl)

theorem SameDecoder.refl (p : Part) : SameDecoder p p := ⟨rfl, rfl, rfl⟩

theorem sameDecoder_foldl {α : Type} {op : Part → α → Part} (hop : ∀ p x, SameDecoder p (op p x)) (l : List α) :
    ∀ p : Part, SameDecoder p (l.foldl op p) := by
  induction l with
  | nil => exact SameDecoder.refl
  | cons x rest ih => exact fun p => (hop p x).trans (ih _)

theorem sameDecoder_safeBlock (p : Part) (b : CornerId ⊕ ValveId) : SameDecoder p (p.safeBlock b) := by
  cases b with
  | inl c => exact sameDecoder_enterSafe p c
  | inr v =>
    show SameDecoder p (p.safeChannel v)
    unfold Part.safeChannel
    split
    · exact .refl p
    · exact (sameDecoder_stopChannel p v .off).trans (.of_eq rfl rfl rfl)

/-! ### Judging -/

/-- No reply waits in the engine's reply class or is on its way in the item in hand. -/
def Part.noReply (p : Part) : Prop :=
  p.engine.reply = false ∧ ∀ it w, p.engine.hand = some it → w ∈ it.words → w.notice ≠ some .reply

theorem DecoderOrdered.noReply {p : Part} (hp : DecoderOrdered p) (h : p.setup.state ≠ .replying) : p.noReply := by
  refine ⟨Bool.eq_false_iff.2 fun hreply => h (hp.offered hreply).1, fun it w hit hw hnotice => h ?_⟩
  obtain ⟨l, r, hlr⟩ := List.append_of_mem hw
  exact (hp.inHand it l w r hit hlr hnotice).2

theorem Part.noReply.of_same {p q : Part} (h : SameDecoder p q) (hp : p.noReply) : q.noReply := by
  unfold Part.noReply
  rw [h.reply, h.hand]
  exact hp

/-- RESTART keeps the reply class, and at most drops the item in hand (R154). -/
theorem restart_engine (p : Part) (order : List Nat) :
    (p.restart order).engine.reply = p.engine.reply ∧
      ((p.restart order).engine.hand = p.engine.hand ∨ (p.restart order).engine.hand = none) := by
  have flushed : SameDecoder p ((arrange order allCorners).foldl Part.restartFlush p) :=
    sameDecoder_foldl (fun q c => (sameDecoder_workless q).flushHold c .restart
      ((sameDecoder_workless q).flushList c .restart (.refl q))) _ p
  show (Engine.restarted _).reply = _ ∧ ((Engine.restarted _).hand = _ ∨ (Engine.restarted _).hand = none)
  unfold Engine.restarted
  dsimp only
  rw [flushed.hand, flushed.reply]
  refine ⟨rfl, ?_⟩
  split
  · next it hit =>
    split
    · exact .inr rfl
    · exact .inl hit.symm
  · exact .inr rfl

theorem judgeTarget_noReply {p : Part} (hp : p.noReply) (k : Kind) (n : Nat) (order : List Nat) (t : Nat) :
    (p.judgeTarget k n order t).1.noReply := by
  unfold Part.judgeTarget
  split
  · next hadmits =>
    by_cases hk : k = .restart
    · subst hk
      obtain ⟨hreply, hhand⟩ := restart_engine p order
      refine ⟨hreply.trans hp.1, fun it w hit => ?_⟩
      obtain hsame | hnone := hhand
      · exact hp.2 it w (hsame ▸ hit)
      · exact absurd (hnone.symm.trans hit) (by simp)
    · exact hp.of_same ((sameDecoder_workless p).judgeOwner k n order t hadmits (fun h => absurd h hk) (.refl p))
  · exact hp

/-- What judging targets one after another leaves: the decoder's command as it stands, and no reply on its way. -/
theorem judgeAll_decoder (k : Kind) (n : Nat) (order ts : List Nat) : ∀ {p : Part}, p.noReply →
    (p.judgeAll k n order ts).1.noReply ∧
      ∃ m a, (p.judgeAll k n order ts).1.setup = { p.setup with readyMode := m, attnThreshold := a } := by
  induction ts with
  | nil => exact fun hp => ⟨hp, _, _, rfl⟩
  | cons t rest ih =>
    intro p hp
    obtain ⟨hrest, m, a, hsetup⟩ := ih (judgeTarget_noReply hp k n order t)
    refine ⟨hrest, m, a, ?_⟩
    show (Part.judgeAll _ k n order rest).1.setup = _
    rw [hsetup, judgeTarget_setup]

theorem fixReply_ordered {p : Part} (hp : p.noReply) (hin : p.setup.inHand ≠ none) (js : List Judgement) (r : Reply) :
    DecoderOrdered (p.fixReply js r) where
  free := iff_of_false (fun h => nomatch h) hin
  judging := iff_of_false (fun h => nomatch h) (fun h => h rfl)
  replying := iff_of_true rfl rfl
  named h := nomatch h
  owed _ := .inl rfl
  offered _ := ⟨rfl, hp.2⟩
  inHand it l w r hit hw hnotice := absurd hnotice (hp.2 it w hit (by simp [hw]))

theorem gather_ordered {p : Part} (hp : p.noReply) {k : Kind} {cmd : Command} (hstate : p.setup.state = .judging)
    (hin : p.setup.inHand = some cmd) (hreply : p.setup.reply = none) (hk : Kind.ofCode cmd.kind.toNat = some k)
    {js : List Judgement} {rest : List Nat} (hperm : (js.map (fun j => j.target) ++ rest).Perm (k.targets cmd.mask)) :
    DecoderOrdered (p.gather k cmd js rest) := by
  cases rest with
  | nil => exact fixReply_ordered hp (by rw [hin]; simp) _ _
  | cons t rest =>
    constructor
    case free => exact iff_of_false (by simp [Part.gather, hstate]) (by simp [Part.gather, hin])
    case judging => exact iff_of_true hstate (by simp [Part.gather])
    case replying => exact iff_of_false (by simp [Part.gather, hstate]) (by simp [Part.gather, hreply])
    case named => exact fun _ => ⟨cmd, k, hin, hk, hperm⟩
    case owed => exact fun h => absurd (hstate.symm.trans h) (by simp)
    case offered => exact fun h => absurd (hp.1.symm.trans h) (by simp)
    case inHand => exact fun it l w r hit hw hnotice => absurd hnotice (hp.2 it w hit (by simp [hw]))

theorem DecoderOrdered.reply_none {p : Part} (hp : DecoderOrdered p) (h : p.setup.state ≠ .replying) :
    p.setup.reply = none := by
  by_contra hreply
  exact h (hp.replying.2 (Option.isSome_iff_ne_none.2 hreply))

theorem DecoderOrdered.judgeNext {p : Part} (hp : DecoderOrdered p) : DecoderOrdered p.judgeNext := by
  unfold Part.judgeNext
  split
  · next cmd t rest hstate hin hout =>
    split
    · next k hk =>
      have hreplying : p.setup.state ≠ .replying := by rw [hstate]; simp
      have hsetup := judgeTarget_setup p k cmd.arg.toNat [] t
      obtain ⟨cmd', k', hin', hk', hperm⟩ := hp.named hstate
      obtain rfl : cmd = cmd' := Option.some.inj (hin.symm.trans hin')
      obtain rfl : k = k' := Option.some.inj (hk.symm.trans hk')
      refine gather_ordered (judgeTarget_noReply (hp.noReply hreplying) ..) ?_ ?_ ?_ hk ?_
      · rw [hsetup]; exact hstate
      · rw [hsetup]; exact hin
      · rw [hsetup]; exact hp.reply_none hreplying
      · simpa [hout] using hperm
    · exact hp
  · exact hp

theorem DecoderOrdered.receiveCommand {p : Part} (hp : DecoderOrdered p) (b : Beat) (bad : Lanes) (order : List Nat)
    (later : Nat) : DecoderOrdered (p.receiveCommand b bad order later) := by
  unfold Part.receiveCommand
  split
  · exact hp
  split
  · next hfree =>
    have hreplying : p.setup.state ≠ .replying := by rw [hfree]; simp
    have hquiet : (p.setSetup { p.setup with state := .judging, inHand := some (commandOf (seenWord b)) }).noReply :=
      hp.noReply hreplying
    have refused (reason : ReplyReason) := fixReply_ordered hquiet (by simp) []
      { kind := (commandOf (seenWord b)).kind, tag := (commandOf (seenWord b)).tag, result := .refused
        refusedMask := 0, reason := some reason }
    unfold Part.judgeCommand
    dsimp only
    split
    · exact refused _
    split
    · exact refused _
    split
    · exact refused _
    next k hk =>
    split
    · unfold Part.dispatch
      dsimp only
      obtain ⟨hjudged, m, a, hsetup⟩ := judgeAll_decoder k (commandOf (seenWord b)).arg.toNat order
        ((arrange order (k.targets (commandOf (seenWord b)).mask)).take
          (k.atOnce (arrange order (k.targets (commandOf (seenWord b)).mask)).length later)) hquiet
      refine gather_ordered hjudged ?_ ?_ ?_ hk ?_
      · rw [hsetup]; rfl
      · rw [hsetup]; rfl
      · rw [hsetup]; exact hp.reply_none hreplying
      · rw [(judgeAll_spec _ _ _ _ _).1, List.take_append_drop]
        exact arrange_perm _ _
    · exact refused _
  · unfold Part.overrun
    split <;> exact .of_same (p := p) (.of_eq rfl rfl rfl) hp

/-! ### The Write-Back Engine -/

/-- What the engine can choose (R150): what the first class with work owes, taken from its class. -/
theorem chosen_cases {p : Part} {it : Item} {e : Engine} (h : p.chosen = some (it, e)) :
    (∃ c rest, p.engine.urgent = c :: rest ∧ it = ⟨.urgent c, (p.urgentSlot c).words c⟩ ∧
      e = { p.engine with urgent := rest }) ∨
    (∃ i rest, p.engine.demand = i :: rest ∧ it = ⟨.demand i, (p.demandSlot i).words i⟩ ∧
      e = { p.engine with demand := rest }) ∨
    (∃ v rest, p.engine.map = v :: rest ∧ it = ⟨.map v, mapWords v⟩ ∧ e = { p.engine with map := rest }) ∨
    (p.engine.reply = true ∧ it = ⟨.reply, match p.setup.reply with | some r => r.words | none => []⟩ ∧
      e = { p.engine with reply := false }) ∨
    (∃ entry : JournalEntry, it = ⟨.journal, entry.words p.journal.write⟩ ∧ e = p.engine) ∨
    (it = ⟨.trace, match p.analyzer.hand with | some t => t.words | none => []⟩ ∧
      e = { p.engine with trace := false }) := by
  unfold Part.chosen at h
  dsimp only at h
  split at h
  · next c rest hu => cases h; exact .inl ⟨c, rest, hu, rfl, rfl⟩
  split at h
  · next i rest hd => cases h; exact .inr (.inl ⟨i, rest, hd, rfl, rfl⟩)
  split at h
  · next v rest hm => cases h; exact .inr (.inr (.inl ⟨v, rest, hm, rfl, rfl⟩))
  split at h
  · next hr => cases h; exact .inr (.inr (.inr (.inl ⟨hr, rfl, rfl⟩)))
  split at h
  · next entry _ _ =>
    split at h
    · cases h; exact .inr (.inr (.inr (.inr (.inl ⟨entry, rfl, rfl⟩))))
    · cases h
  split at h
  · cases h; exact .inr (.inr (.inr (.inr (.inr ⟨rfl, rfl⟩))))
  · cases h

theorem notice_sampleWords (l : List TraceSample) : ∀ k, ∀ w ∈ sampleWords k l, w.notice = none := by
  induction l with
  | nil => intro k w hw; cases hw
  | cons t rest ih =>
    intro k w hw
    obtain rfl | hw := List.mem_cons.1 hw
    · rfl
    · exact ih _ w hw

theorem notice_traceWords (t : Trace) {w : EngineWord} (hw : w ∈ t.words) :
    w.notice = none ∨ w.notice = some .trace := by
  obtain hw | hw := List.mem_append.1 hw
  · exact .inl (notice_sampleWords _ _ w hw)
  · rw [List.mem_singleton.1 hw]; exact .inr rfl

/-- What a demand slot owes: words that publish at most the take, and last of all the polled word of the final. -/
theorem demandWords_split (d : DemandSlot) (i : SlotId) :
    ∃ l, (∀ w ∈ l, w.notice = none ∨ w.notice = some (.demandTake i)) ∧
      (d.words i = l ∨ ∃ w, w.notice = some (.demandFinal i) ∧ d.final.isSome = true ∧ d.words i = l ++ [w]) := by
  have take_words : ∀ w ∈ (match d.take with | some t => t.words i | none => []),
      w.notice = none ∨ w.notice = some (.demandTake i) := by
    cases d.take <;> simp [DemandTake.words]
  unfold DemandSlot.words
  cases d.final with
  | none => exact ⟨_, take_words, .inl (List.append_nil _)⟩
  | some f =>
    unfold DemandFinal.words
    refine ⟨_ ++ [_, _], ?_, .inr ⟨_, rfl, rfl, by rw [List.append_assoc]; rfl⟩⟩
    intro w hw
    obtain hw | hw := List.mem_append.1 hw
    · exact take_words w hw
    · simp only [List.mem_cons, List.not_mem_nil, or_false] at hw
      obtain rfl | rfl := hw <;> exact .inl rfl

/-- What an urgent slot owes: words that publish at most the take, and last of all the polled word of the final. -/
theorem urgentWords_split (d : UrgentSlot) (c : CornerId) :
    ∃ l, (∀ w ∈ l, w.notice = none ∨ w.notice = some (.urgentTake c)) ∧
      (d.words c = l ∨ ∃ w, w.notice = some (.urgentFinal c) ∧ d.final.isSome = true ∧ d.words c = l ++ [w]) := by
  have take_words : ∀ w ∈ (match d.take with | some t => t.words c | none => []),
      w.notice = none ∨ w.notice = some (.urgentTake c) := by
    cases d.take <;> simp [UrgentTake.words]
  have final_words (f : UrgentFinal) :
      ∃ l w, (∀ x ∈ l, x.notice = none) ∧ w.notice = some (.urgentFinal c) ∧ f.words c = l ++ [w] := by
    cases f
    case ended => exact ⟨[_], _, by simp, rfl, rfl⟩
    case cancelled => exact ⟨[_], _, by simp, rfl, rfl⟩
    case flushed => exact ⟨[_], _, by simp, rfl, rfl⟩
    case refused => exact ⟨[_, _], _, by simp, rfl, rfl⟩
  unfold UrgentSlot.words
  cases d.final with
  | none => exact ⟨_, take_words, .inl (List.append_nil _)⟩
  | some f =>
    obtain ⟨l, w, hl, hw, hwords⟩ := final_words f
    refine ⟨_ ++ l, ?_, .inr ⟨w, hw, rfl, by rw [List.append_assoc]; exact congrArg _ hwords⟩⟩
    intro x hx
    obtain hx | hx := List.mem_append.1 hx
    · exact take_words x hx
    · exact .inl (hl x hx)

theorem demandWords_notice {d : DemandSlot} {i : SlotId} {w : EngineWord} (hw : w ∈ d.words i) :
    w.notice = none ∨ w.notice = some (.demandTake i) ∨ w.notice = some (.demandFinal i) := by
  obtain ⟨l, hl, heq | ⟨x, hx, -, heq⟩⟩ := demandWords_split d i <;> rw [heq] at hw
  · exact (hl w hw).imp_right .inl
  · obtain hw | hw := List.mem_append.1 hw
    · exact (hl w hw).imp_right .inl
    · exact .inr (.inr (List.mem_singleton.1 hw ▸ hx))

theorem urgentWords_notice {d : UrgentSlot} {c : CornerId} {w : EngineWord} (hw : w ∈ d.words c) :
    w.notice = none ∨ w.notice = some (.urgentTake c) ∨ w.notice = some (.urgentFinal c) := by
  obtain ⟨l, hl, heq | ⟨x, hx, -, heq⟩⟩ := urgentWords_split d c <;> rw [heq] at hw
  · exact (hl w hw).imp_right .inl
  · obtain hw | hw := List.mem_append.1 hw
    · exact (hl w hw).imp_right .inl
    · exact .inr (.inr (List.mem_singleton.1 hw ▸ hx))

/-- Only the setup reply's word publishes the reply. -/
theorem chosen_reply {p : Part} {it : Item} {e : Engine} (h : p.chosen = some (it, e)) {w : EngineWord}
    (hw : w ∈ it.words) (hnotice : w.notice = some .reply) : p.engine.reply = true ∧ e.reply = false ∧ it.words = [w] := by
  obtain ⟨c, rest, -, rfl, -⟩ | ⟨i, rest, -, rfl, -⟩ | ⟨v, rest, -, rfl, -⟩ | ⟨hreply, rfl, rfl⟩ | ⟨entry, rfl, -⟩ |
    ⟨rfl, -⟩ := chosen_cases h
  case inr.inr.inr.inl =>
    refine ⟨hreply, rfl, ?_⟩
    revert hw
    cases p.setup.reply with
    | none => exact fun hw => nomatch hw
    | some r => exact fun hw => by rw [List.mem_singleton.1 hw]; rfl
  all_goals exfalso
  case inl => obtain h | h | h := urgentWords_notice hw <;> (rw [h] at hnotice; cases hnotice)
  case inr.inl => obtain h | h | h := demandWords_notice hw <;> (rw [h] at hnotice; cases hnotice)
  case inr.inr.inl => simp [mapWords] at hw; simp [hw] at hnotice
  case inr.inr.inr.inr.inl =>
    simp only [JournalEntry.words, List.mem_cons, List.not_mem_nil, or_false] at hw
    obtain rfl | rfl | rfl | rfl := hw <;> cases hnotice
  case inr.inr.inr.inr.inr =>
    revert hw
    cases p.analyzer.hand with
    | none => exact fun hw => nomatch hw
    | some t => exact fun hw => by obtain h | h := notice_traceWords t hw <;> (rw [h] at hnotice; cases hnotice)

theorem handOf_eq_some {kind : ItemKind} {ws : List EngineWord} {it : Item} (h : handOf kind ws = some it) :
    it.words = ws := by
  unfold handOf at h
  split at h
  · cases h
  · cases h; rfl

/-- An item chosen is in hand, with the words that it owes. -/
theorem chooseItem_cases (p : Part) :
    p.chooseItem = p ∨ ∃ it e, p.engine.hand = none ∧ p.chosen = some (it, e) ∧
      p.chooseItem = p.setEngine { e with hand := handOf it.kind it.words } := by
  unfold Part.chooseItem
  split
  · exact .inl rfl
  · next hhand =>
    split
    · next it e hchosen => exact .inr ⟨it, e, hhand, hchosen, rfl⟩
    · exact .inl rfl

/-- An item other than the reply leaves the reply class. -/
theorem chosen_keeps_reply {p : Part} {it : Item} {e : Engine} (h : p.chosen = some (it, e)) :
    e.reply = p.engine.reply ∨ (p.engine.reply = true ∧ e.reply = false ∧
      it = ⟨.reply, match p.setup.reply with | some r => r.words | none => []⟩) := by
  obtain ⟨c, rest, -, -, rfl⟩ | ⟨i, rest, -, -, rfl⟩ | ⟨v, rest, -, -, rfl⟩ | ⟨hreply, rfl, rfl⟩ | ⟨entry, -, rfl⟩ |
    ⟨-, rfl⟩ := chosen_cases h
  case inr.inr.inr.inl => exact .inr ⟨hreply, rfl, rfl⟩
  all_goals exact .inl rfl

theorem DecoderOrdered.chooseItem {p : Part} (hp : DecoderOrdered p) : DecoderOrdered p.chooseItem := by
  obtain heq | ⟨it, e, hhand, hchosen, heq⟩ := chooseItem_cases p
  · rw [heq]; exact hp
  rw [heq]
  have hreply := chosen_keeps_reply hchosen
  constructor
  case free => exact hp.free
  case judging => exact hp.judging
  case replying => exact hp.replying
  case named => exact hp.named
  case owed =>
    intro hstate
    obtain howed | ⟨x, w, hx, -, -⟩ := hp.owed hstate
    · obtain hsame | ⟨-, -, rfl⟩ := hreply
      · exact .inl (hsame.trans howed)
      · obtain ⟨r, hr⟩ := Option.isSome_iff_exists.1 (hp.replying.1 hstate)
        refine .inr ⟨⟨.reply, r.words⟩, _, ?_, List.mem_singleton.2 rfl, rfl⟩
        simp [hr, handOf, Reply.words]
    · rw [hhand] at hx; cases hx
  case offered =>
    intro hr
    have hclass : p.engine.reply = true := by
      obtain hsame | ⟨htrue, -, -⟩ := hreply
      · exact hsame.symm.trans hr
      · exact htrue
    refine ⟨(hp.offered hclass).1, fun x w hx hw hnotice => ?_⟩
    rw [handOf_eq_some hx] at hw
    have := (chosen_reply hchosen hw hnotice).2.1
    exact absurd (hr.symm.trans this) (by simp)
  case inHand =>
    intro x l w r hx hlr hnotice
    rw [handOf_eq_some hx] at hlr
    obtain ⟨hclass, -, hsingle⟩ := chosen_reply hchosen (w := w) (by simp [hlr]) hnotice
    rw [hsingle] at hlr
    refine ⟨?_, (hp.offered hclass).1⟩
    have hlength := congrArg List.length hlr
    simp only [List.length_nil, List.length_append, List.length_cons] at hlength
    exact List.length_eq_zero_iff.1 (by omega)

/-- A word written other than the reply leaves the decoder's command. -/
theorem publishWord_setup {p : Part} {w : EngineWord} (h : w.notice ≠ some .reply) :
    (p.publishWord w).setup = p.setup ∧ (p.publishWord w).engine = p.engine := by
  unfold Part.publishWord
  split
  · next n hn =>
    cases n
    case reply => exact absurd hn h
    case trace =>
      show p.publishTrace.setup = _ ∧ p.publishTrace.engine = _
      unfold Part.publishTrace
      dsimp only
      split <;> exact ⟨rfl, rfl⟩
    all_goals exact ⟨rfl, rfl⟩
  · exact ⟨rfl, rfl⟩

theorem DecoderOrdered.grant {p : Part} (hp : DecoderOrdered p) {it : Item} {w : EngineWord} {rest : List EngineWord}
    (hit : p.engine.hand = some it) (hwords : it.words = w :: rest) :
    DecoderOrdered ((p.setEngine { p.engine with hand := handOf it.kind rest }).publishWord w) := by
  by_cases hw : w.notice = some .reply
  case pos =>
    obtain ⟨rfl, hstate⟩ := hp.inHand it [] w rest hit hwords hw
    have hreply : p.engine.reply = false := Bool.eq_false_iff.2 fun htrue =>
      (hp.offered htrue).2 it w hit (by simp [hwords]) hw
    have hpub : (p.setEngine { p.engine with hand := handOf it.kind [] }).publishWord w =
        (p.setEngine { p.engine with hand := none }).setSetup p.setup.replied := by
      unfold Part.publishWord; rw [hw]; rfl
    rw [hpub]
    constructor
    case free => exact iff_of_true rfl rfl
    case judging => exact iff_of_false (fun h => nomatch h) (fun h => h rfl)
    case replying => exact iff_of_false (fun h => nomatch h) (fun h => nomatch h)
    case named => exact fun h => nomatch h
    case owed => exact fun h => nomatch h
    case offered => exact fun h => absurd (hreply.symm.trans h) (by simp)
    case inHand => exact fun x l y r hx => nomatch hx
  case neg =>
    obtain ⟨hsetup, hengine⟩ :=
      publishWord_setup (p := p.setEngine { p.engine with hand := handOf it.kind rest }) hw
    have hsub {x : Item} (hx : handOf it.kind rest = some x) : x.words = rest := handOf_eq_some hx
    constructor
    case free => rw [hsetup]; exact hp.free
    case judging => rw [hsetup]; exact hp.judging
    case replying => rw [hsetup]; exact hp.replying
    case named => rw [hsetup]; exact hp.named
    case owed =>
      rw [hsetup, hengine]
      intro hstate
      obtain howed | ⟨x, y, hx, hy, hnotice⟩ := hp.owed hstate
      · exact .inl howed
      · obtain rfl : it = x := Option.some.inj (hit.symm.trans hx)
        rw [hwords] at hy
        obtain rfl | hy := List.mem_cons.1 hy
        · exact absurd hnotice hw
        · refine .inr ⟨⟨it.kind, rest⟩, y, ?_, hy, hnotice⟩
          have : rest ≠ [] := List.ne_nil_of_mem hy
          simp [handOf, this]
    case offered =>
      rw [hsetup, hengine]
      intro hr
      refine ⟨(hp.offered hr).1, fun x y hx hy => (hp.offered hr).2 it y hit ?_⟩
      rw [hwords]
      exact List.mem_cons_of_mem _ (hsub hx ▸ hy)
    case inHand =>
      rw [hsetup, hengine]
      intro x l y r hx hlr hnotice
      refine hp.inHand it (w :: l) y r hit ?_ hnotice
      rw [hwords, ← hsub hx, hlr, List.cons_append]

/-! ### Every step -/

theorem decoderOrdered_kept : Part.Kept DecoderOrdered where
  bridge _ := .of_same (.of_eq rfl rfl rfl)
  port _ := .of_same (.of_eq rfl rfl rfl)
  waitCount _ := .of_same (.of_eq rfl rfl rfl)
  fresh _ := .of_same (.of_eq rfl rfl rfl)
  hand _ _ := .of_same (.of_eq rfl rfl rfl)
  chooseItem := DecoderOrdered.chooseItem
  grant hp hit hwords := hp.grant hit hwords
  stageDemand _ _ _ _ := .of_same (.of_eq rfl rfl rfl)
  closeDemand i cw := .of_same ((sameDecoder_workless _).closeDemand i cw (.refl _))
  stageUrgent _ _ _ _ := .of_same (.of_eq rfl rfl rfl)
  closeUrgent c cw := .of_same ((sameDecoder_workless _).closeUrgent c cw (.refl _))
  stageMap _ _ _ _ := .of_same (.of_eq rfl rfl rfl)
  closeMap {p} v cw := .of_same (by
    unfold Part.closeMap
    dsimp only
    split <;> exact .of_eq rfl rfl rfl)
  judgeNext := DecoderOrdered.judgeNext
  receiveCommand b bad order later hp := hp.receiveCommand b bad order later
  consume _ := .of_same (.of_eq rfl rfl rfl)
  released _ _ _ _ _ := by constructor <;> simp [Part.released, Part.reset, Setup.reset, Engine.reset]
  safeAsserted _ _ :=
    .of_same (.trans (q := Part.setSafe _ true) (.of_eq rfl rfl rfl) (sameDecoder_foldl sameDecoder_safeBlock _ _))
  safeReleased _ _ :=
    .of_same (.trans (q := Part.setSafe _ false) (.of_eq rfl rfl rfl) (sameDecoder_foldl sameDecoder_exitSafe _ _))
  driverChange v asserted := .of_same ((sameDecoder_workless _).driverChange v asserted (.refl _))
  frame _ := .of_same (.of_eq rfl rfl rfl)
  cornerBoundary c _ := .of_same ((sameDecoder_workless _).cornerBoundary c (.refl _))
  partnerNotice c := .of_same ((sameDecoder_workless _).takePartnerNotice c (.refl _))
  channelBoundary v := .of_same ((sameDecoder_workless _).channelBoundary v (.refl _))
  rampRequest v := .of_same ((sameDecoder_workless _).nextRampRequest v (.refl _))
  overrideEnd v := .of_same ((sameDecoder_workless _).nextOverrideEnd v (.refl _))
  sample v x := .of_same ((sameDecoder_workless _).takeSample v x (.refl _))
  prepareTimeout v _ := .of_same ((sameDecoder_workless _).enterFault v _ _ (.refl _))
  prepareEnd v r hr := .of_same ((sameDecoder_workless _).endPrepare v r hr (.refl _))
  settleMiss v _ := .of_same ((sameDecoder_workless _).settleMiss v (.refl _))
  heatUpdate v := .of_same ((sameDecoder_workless _).heatUpdate v (.refl _))
  look hi := .of_same ((sameDecoder_workless _).look hi (.refl _))
  stepTrial s hs :=
    .of_same ((sameDecoder_workless _).stepTrial_keeps s (Part.Atoms.preDriveEnds_searching hs) (.refl _))

/-- Settles O59: each of the two properties is kept by every small event that a step is made of. -/
theorem everyStepKeepsTheSettings : Obligations.EveryStepKeepsTheSettings := fun _ _ hstep =>
  ⟨fun hp => settingsOrdered_unowed.kept.step hp hstep, fun hp => decoderOrdered_kept.step hp hstep⟩

end Sys2Proof.Machine
end

section
/-! The statements of tier 1: a step, the answer of every command, the reset state, RESETN, a partial closing write, the
journal's hand, and the boundaries that a frame alone moves. -/

namespace Sys2Proof.Machine

/-! ### A step -/

theorem judgeNext_of_not_judging {p : Part} (h : p.setup.state ≠ .judging) : p.judgeNext = p := by
  unfold Part.judgeNext
  split
  next hs _ _ => exact absurd hs h
  next => rfl

/-- Settles O1: the three shapes of the queue and of the decoder's outstanding targets. -/
theorem stepPerformsTheFrontCommand : Obligations.StepPerformsTheFrontCommand := by
  unfold Obligations.StepPerformsTheFrontCommand
  refine ⟨fun c rest s h => ?_, fun s h => step_empty h, fun s h hidle => ?_⟩
  · unfold step
    rw [h]
  · have hsame : s.part.judgeNext = s.part := hidle.elim judgeNext_of_not_judging judgeNext_none
    rw [step_empty h, hsame]

theorem exec_read_answers (addr : BitVec 22) (s : State) :
    ∃ t, exec (.forwardedRead addr) s = .next t ∧ t.pending = s.pending := by
  simp only [exec, execForwardedRead]
  split
  · exact ⟨_, rfl, rfl⟩
  · exact ⟨_, rfl, s.grantAccess_pending⟩

/-- Settles O2: a processor write leaves the queue to the forwarded write, and the other commands do not name it. -/
theorem everyCommandAnswers : Obligations.EveryCommandAnswers := by
  unfold Obligations.EveryCommandAnswers
  intro c s
  rcases hw : writeOf s.part.bridge c with _ | ⟨addr, b⟩
  · cases c <;> first
      | (simp [writeOf, setupRow] at hw; done)
      | exact ⟨_, rfl, rfl⟩
      | exact exec_read_answers _ s
      | exact ⟨_, rfl, s.engineWord_pending⟩
  · obtain ⟨capture, he⟩ := exec_writeOf hw
    exact ⟨_, he, by rw [State.forwardWrite_eq]; exact s.forwarded_pending addr b⟩

/-! ### Reset -/

@[simp] theorem reset_demandSlot (i : SlotId) : State.reset.part.demandSlot i = .reset := by
  simp [State.reset, Part.reset, Part.demandSlot]

@[simp] theorem reset_urgentSlot (c : CornerId) : State.reset.part.urgentSlot c = .reset := by
  simp [State.reset, Part.reset, Part.urgentSlot]

@[simp] theorem reset_corner (c : CornerId) : State.reset.part.corner c = .reset := by
  simp [State.reset, Part.reset, Part.corner]

@[simp] theorem reset_channel (v : ValveId) : State.reset.part.channel v = .reset := by
  simp [State.reset, Part.reset, Part.channel]

@[simp] theorem reset_map (v : ValveId) : State.reset.part.map v = .reset := by
  simp [State.reset, Part.reset, Part.map]

theorem reset_reported (c : CornerId) : State.reset.part.lines.reported[c] = false := by
  simp [State.reset, Part.reset, Lines.reset]

/-- Settles O3: each block's reset value, the tables by their one lemma. -/
theorem resetState : Obligations.ResetState := by
  unfold Obligations.ResetState
  exact ⟨rfl, rfl, reset_demandSlot, reset_urgentSlot, rfl, reset_corner, rfl, reset_channel, reset_map, rfl, rfl, rfl, rfl,
    rfl, rfl, rfl, reset_reported⟩

theorem released_driverFault (region : BitVec 4) (psense : ParitySense) (safe : Bool) (dflt : BitVec 8) (fresh : Nat)
    (v : ValveId) : (Part.released region psense safe dflt fresh).driverFault v = dflt.getLsbD v.val := by
  simp [Part.released, Part.driverFault]

/-- Settles O4: the released part differs from the reset part in the straps, the line samples and the corners alone. -/
theorem resetnReleasesThePart : Obligations.ResetnReleasesThePart := by
  unfold Obligations.ResetnReleasesThePart
  intro region psense safe dflt s
  refine ⟨_, rfl, rfl, rfl, rfl, fun c => ?_, rfl, released_driverFault region psense safe dflt _, rfl⟩
  rw [reset_corner]
  simp [Part.released, Part.corner, Corner.restarted]

theorem reset_outputsDriven : OutputsDriven State.reset.part where
  attn := by decide
  ready := by decide
  reported := by decide
  output := by decide
  mode := rfl
  threshold := rfl

theorem reset_loopCoherent : LoopCoherent State.reset.part where
  target v := by simp [Part.targetRule, Channel.reset]
  queueOnce := List.nodup_nil
  queued v := by simp [State.reset, Part.reset, Analyzer.reset, Channel.reset, Part.channel]
  searching v := by simp [State.reset, Part.reset, Analyzer.reset, Channel.reset, Part.channel, AnalyzerState.searchesFor]
  settling v := by simp [Channel.reset]
  mapped v := by simp [Channel.reset, ChannelState.isOffOrFault]
  tuned v := by simp [Channel.reset]

theorem reset_safeHeld : SafeHeld State.reset.part where
  corners := by decide
  channels := by decide

theorem reset_listedSlots : State.reset.part.listedSlots = [] := by
  simp [Part.listedSlots, Corner.reset]

theorem reset_cornersOrdered : CornersOrdered State.reset.part where
  idleEmpty c _ := by simp [Corner.reset]
  runsOnFrames c h := by simp [Corner.reset] at h
  limpCause c := by simp [Corner.reset]
  atMostEight c := by simp [Corner.reset]
  inWindow c e he := by simp [Corner.reset] at he
  sorted c := by simp [Corner.reset]
  distinct c := by simp [Corner.reset]
  hold c := by simp [Corner.reset, UrgentSlot.reset]

theorem reset_slotsListed : SlotsListed State.reset.part where
  once := by simp [reset_listedSlots]
  held i := by simp [reset_listedSlots, DemandSlot.reset]

theorem reset_hand : State.reset.part.engine.hand = none := rfl

theorem reset_finalsOwed : FinalsOwed State.reset.part where
  demand i := by simp [DemandSlot.reset]
  urgent c := by simp [UrgentSlot.reset]
  demandInHand it l w r i h := by simp [reset_hand] at h
  urgentInHand it l w r c h := by simp [reset_hand] at h

theorem reset_settingsOrdered : SettingsOrdered State.reset.part where
  watermarks c := by simp [Corner.reset]
  levels v := by simp [Channel.reset, Heat.reset]
  ceilings v := by simp [Channel.reset, Heat.reset]
  active v pts h := by simp [MapEntry.reset] at h
  pending v h := by simp [MapEntry.reset] at h

theorem reset_setup : State.reset.part.setup = .reset := rfl

theorem reset_decoderOrdered : DecoderOrdered State.reset.part where
  free := by simp [reset_setup, Setup.reset]
  judging := by simp [reset_setup, Setup.reset]
  replying := by simp [reset_setup, Setup.reset]
  named h := by simp [reset_setup, Setup.reset] at h
  owed h := by simp [reset_setup, Setup.reset] at h
  offered h := by simp [State.reset, Part.reset, Engine.reset] at h
  inHand it l w r h := by simp [reset_hand] at h

/-- Settles O60: invariant by invariant. -/
theorem resetHasTheInvariants : Obligations.ResetHasTheInvariants := by
  unfold Obligations.ResetHasTheInvariants
  exact ⟨rfl, reset_outputsDriven, reset_loopCoherent, reset_safeHeld, reset_cornersOrdered, reset_slotsListed,
    reset_finalsOwed, reset_settingsOrdered, reset_decoderOrdered⟩

/-! ### The journal's hand, and frames -/

/-- Settles O37: room in the staging list, or none. -/
theorem journalHand : Obligations.JournalHand := by
  unfold Obligations.JournalHand
  refine fun j e f => ⟨fun h => ?_, fun h => ?_⟩
  · unfold Journal.hand
    rw [if_pos h]
  · unfold Journal.hand
    rw [if_neg (by omega)]

theorem frame_succ_toNat (f : Frame) : (f + 1).toNat = (f.toNat + 1) % 65536 := by bv_omega

theorem cornerDue_eq_false_iff (p : Part) (c : CornerId) :
    p.cornerDue c = false ↔ p.timer.running = false ∨ (p.corner c).frame = p.timer.frame := by
  unfold Part.cornerDue
  cases p.timer.running <;> simp

theorem cornerDue_iff (p : Part) (c : CornerId) :
    p.cornerDue c = true ↔ p.timer.running = true ∧ (p.corner c).frame ≠ p.timer.frame := by
  unfold Part.cornerDue
  simp

theorem exec_cornerFrameBoundary (c : CornerId) (s : State) :
    exec (.cornerFrameBoundary c) s =
      .next { s with part := if s.part.cornerDue c = true then s.part.cornerBoundary c else s.part } := rfl

theorem cornerBoundary_outside_run {p : Part} {c : CornerId} (h : (p.corner c).state ≠ .run) :
    p.cornerBoundary c = p.setCorner c { p.corner c with frame := (p.corner c).frame + 1 } := by
  unfold Part.cornerBoundary
  exact if_neg h

/-- Settles O38: the timer's own boundary, and a corner's outside RUN. -/
theorem frameBoundaries : Obligations.FrameBoundaries := by
  unfold Obligations.FrameBoundaries
  refine ⟨fun s => ⟨fun h => ?_, fun h => ⟨s.part.timer.frame + 1, frame_succ_toNat _, ?_⟩⟩,
    fun c s => ⟨fun h => ?_, fun hr hf hs => ?_⟩⟩
  · simp [exec, execFrameBoundary, h]
  · simp [exec, execFrameBoundary, h, Part.setTimer]
  · rw [exec_cornerFrameBoundary, (cornerDue_eq_false_iff s.part c).2 h]
    rfl
  · rw [exec_cornerFrameBoundary, if_pos ((cornerDue_iff s.part c).2 ⟨hr, hf⟩), cornerBoundary_outside_run hs]

end Sys2Proof.Machine
end

section
/-! The memory path: what a forwarded write leaves in memory, lane parity, the grant, the Control Region's addresses, writes
by address and reads. -/

namespace Sys2Proof.Machine

/-! ### A beat in memory -/

/-- The address lies in an enabled lane of a beat at the word whose lane 0 stands at `base`. -/
abbrev coversByte (b : Beat) (base a : Nat) : Prop :=
  base ≤ a ∧ a < base + 4 ∧ b.lanes.getLsbD (a - base) = true

theorem ne_lane_of_not_covers {b : Beat} {base a : Nat} (h : ¬coversByte b base a) (k : Nat) (hk : k < 4)
    (hl : b.lanes.getLsbD k = true) : a ≠ base + k := by
  rintro rfl
  exact h ⟨by omega, by omega, by simpa using hl⟩

theorem Memory.byte_writeBeat {m : Memory} (h : m.wf = true) (base : Nat) (b : Beat) (a : Nat) :
    (m.writeBeat base b).byte a = if coversByte b base a then laneByte b.data (a - base) else m.byte a := by
  by_cases hc : coversByte b base a
  · obtain ⟨hlo, hhi, hl⟩ := hc
    have hlane := Memory.byte_writeBeat_lane h base b (a - base) (by omega) hl
    rw [if_pos ⟨hlo, hhi, hl⟩, ← hlane, Nat.add_sub_cancel' hlo]
  · rw [if_neg hc, Memory.byte_writeBeat_other h base b a (ne_lane_of_not_covers hc)]

theorem Memory.parityBit_writeBeat {m : Memory} (h : m.wf = true) (base : Nat) (b : Beat) (a : Nat) :
    (m.writeBeat base b).parityBit a = if coversByte b base a then b.parity.getLsbD (a - base) else m.parityBit a := by
  by_cases hc : coversByte b base a
  · obtain ⟨hlo, hhi, hl⟩ := hc
    have hlane := Memory.parityBit_writeBeat_lane h base b (a - base) (by omega) hl
    rw [if_pos ⟨hlo, hhi, hl⟩, ← hlane, Nat.add_sub_cancel' hlo]
  · rw [if_neg hc, Memory.parityBit_writeBeat_other h base b a (ne_lane_of_not_covers hc)]

/-- Settles O5: a write command is a forwarded write, which writes its beat over the granted memory. -/
theorem forwardedWrite : Obligations.ForwardedWrite := by
  unfold Obligations.ForwardedWrite
  refine ⟨fun c s addr b hwf hc => ?_, fun s addr b => ⟨s.forwarded_pending addr b, ?_⟩⟩
  · obtain ⟨capture, he⟩ := exec_writeOf hc
    have hg := State.grantAccess_wf hwf
    exact ⟨_, he, Memory.byte_writeBeat hg _ b, Memory.parityBit_writeBeat hg _ b⟩
  · rw [State.forwarded_part]
    unfold Part.reportP
    rfl

/-! ### Lane parity -/

theorem countP_range_eight (f : Nat → Bool) :
    (List.range 8).countP f =
      (f 0).toNat + (f 1).toNat + (f 2).toNat + (f 3).toNat + (f 4).toNat + (f 5).toNat + (f 6).toNat + (f 7).toNat := by
  have hr : List.range 8 = [0, 1, 2, 3, 4, 5, 6, 7] := rfl
  have hbit : ∀ b : Bool, (if b = true then 1 else 0) = b.toNat := by decide
  simp only [hr, List.countP_cons, List.countP_nil, hbit, Nat.zero_add]
  omega

theorem xor_eq_decide_odd (x y : Bool) (n : Nat) (h : x = decide (n % 2 = 1)) :
    (x ^^ y) = decide ((n + y.toNat) % 2 = 1) := by
  subst h
  rcases Nat.mod_two_eq_zero_or_one n with h | h <;> cases y <;> simp [Nat.add_mod, h]

theorem byteOdd_eq (b : Byte) : byteOdd b = decide ((List.range 8).countP (fun k => b.getLsbD k) % 2 = 1) := by
  rw [countP_range_eight]
  unfold byteOdd
  repeat refine xor_eq_decide_odd _ _ _ ?_
  cases b.getLsbD 0 <;> rfl

/-- Settles O6: a byte and its parity bit hold nine bits, whose number PSENSE compares. -/
theorem laneParity : Obligations.LaneParity := by
  unfold Obligations.LaneParity
  refine ⟨fun sense b q => ?_, beatBadLanes_bit, badLanes_goodParity⟩
  have hodd := xor_eq_decide_odd _ q _ (byteOdd_eq b)
  cases sense
  · exact hodd
  · show (!(byteOdd b ^^ q)) = decide (_ % 2 = 0)
    rw [hodd, ← decide_not]
    exact decide_eq_decide.2 (by omega)

/-! ### The grant -/

/-- Settles O7: no word in hand, a word that waits, and a word that has waited out eight accesses. -/
theorem accessGrant : Obligations.AccessGrant := by
  unfold Obligations.AccessGrant
  refine fun s => ⟨State.grantAccess_none, fun hh hw => ?_, fun hh hw => ⟨_, _, rfl, rfl, ?_⟩⟩
  · have hlow : ¬(s.part.engine.hand.isSome = true ∧ 8 ≤ s.part.waitCount) := fun h => by omega
    simp only [State.grantAccess, if_neg hlow, if_pos hh, Part.setWaitCount]
  · simp only [State.grantAccess, if_pos (And.intro hh hw)]
    rfl

/-! ### The Control Region -/

theorem classOfOffset_plain {o : Nat} (h : (0x180 ≤ o ∧ o < 0x400) ∨ (0x1100 ≤ o ∧ o < 0x1800) ∨ 0x2104 ≤ o) :
    classOfOffset o = .plain := by
  unfold classOfOffset
  split_ifs <;> first | rfl | omega

theorem Bridge.wordAddress_bytes (b : Bridge) {o : Nat} (h : o < 16384) (h4 : 4 ∣ o) :
    4 * (b.wordAddress o).toNat = b.region.toNat * 2 ^ 20 + o := by
  rw [b.wordAddress_toNat o (by omega)]
  omega

/-- Settles O8: the areas one by one, then addresses and offsets. -/
theorem regionLayout : Obligations.RegionLayout := by
  unfold Obligations.RegionLayout
  exact ⟨fun _ => rfl, fun _ _ => rfl, fun _ _ => rfl, fun _ _ => rfl, fun _ => rfl, fun _ _ => rfl, fun _ => rfl, rfl,
    classOfOffset_setup, classOfOffset_urgent, classOfOffset_demand, classOfOffset_map, classOfOffset_window,
    classOfOffset_ring, classOfOffset_sample, rfl, fun _ => classOfOffset_plain,
    fun b => ⟨fun o ho h4 => ⟨b.offset_wordAddress o ho h4, b.wordAddress_bytes ho h4⟩, b.offset_eq⟩⟩

/-! ### Writes by address -/

theorem Bridge.offset_congr {b c : Bridge} (h : b.region = c.region) (addr : BitVec 22) : b.offset addr = c.offset addr := by
  unfold Bridge.offset
  rw [h]

theorem exec_plainWrite (addr : BitVec 22) (b : Beat) (s : State) :
    exec (.plainWrite addr b) s =
      .next { s.forwarded addr b with part := (s.forwarded addr b).part.captureWord addr b (s.badOf b) } :=
  congrArg Host.Outcome.next (s.forwardWrite_eq addr b fun bad p => p.captureWord addr b bad)

theorem captureWord_some {s : State} {a : BitVec 22} {o : Nat} (h : s.part.bridge.offset a = some o) (addr : BitVec 22)
    (b : Beat) (bad : Lanes) :
    (s.forwarded addr b).part.captureWord a b bad = (s.forwarded addr b).part.captureAt o b bad := by
  simp only [Part.captureWord, Bridge.offset_congr (s.forwarded_region addr b), h]

theorem captureWord_none {s : State} {a : BitVec 22} (h : s.part.bridge.offset a = none) (addr : BitVec 22)
    (b : Beat) (bad : Lanes) : (s.forwarded addr b).part.captureWord a b bad = (s.forwarded addr b).part := by
  simp only [Part.captureWord, Bridge.offset_congr (s.forwarded_region addr b), h]

theorem exec_plainWrite_at (s : State) {o : Nat} (ho : o < 16384) (h4 : 4 ∣ o) (b : Beat) :
    exec (.plainWrite (s.part.bridge.wordAddress o) b) s =
      .next { s.arrived o b with part := (s.arrived o b).part.captureAt o b (s.badOf b) } := by
  rw [exec_plainWrite, captureWord_some (s.part.bridge.offset_wordAddress o ho h4)]
  rfl

/-- The write at this offset is captured by no block. -/
def uncaptured (o : Nat) : Prop :=
  match classOfOffset o with
  | .plain => True
  | .statusWindow => True
  | .journalRing => True
  | .traceArea => True
  | .setupBlock => o / 4 ≠ 0 ∧ o / 4 ≠ 2
  | .urgentSlot => 4 ≤ o / 4 % 8
  | .demandSlot => 4 ≤ o / 4 % 8
  | .mapBlock => o / 4 % 32 = 1 ∨ 18 ≤ o / 4 % 32

theorem captureAt_uncaptured {o : Nat} (h : uncaptured o) (p : Part) (b : Beat) (bad : Lanes) :
    p.captureAt o b bad = p := by
  unfold uncaptured at h
  unfold Part.captureAt
  cases hc : classOfOffset o <;> rw [hc] at h <;> dsimp only at h ⊢
  case setupBlock => rw [Part.captureSetup, if_neg h.1, if_neg h.2]
  case urgentSlot => rw [Part.captureUrgent, if_neg (by omega), if_neg (by omega)]
  case demandSlot => rw [Part.captureDemand, if_neg (by omega), if_neg (by omega)]
  case mapBlock => rw [Part.captureMap, if_neg (by omega), if_neg (by omega)]

theorem exec_plainWrite_uncaptured {addr : BitVec 22} {s : State}
    (h : ∀ o, s.part.bridge.offset addr = some o → uncaptured o) (b : Beat) :
    exec (.plainWrite addr b) s = .next (s.forwarded addr b) := by
  rw [exec_plainWrite]
  cases ho : s.part.bridge.offset addr with
  | some o => rw [captureWord_some ho, captureAt_uncaptured (h o ho)]
  | none => rw [captureWord_none ho]

section Areas
variable (p : Part) (b : Beat) (bad : Lanes)

theorem captureAt_demand (i : SlotId) (w : Nat) (hw : w < 8) :
    p.captureAt (demandOffset i w) b bad = p.captureDemand i w b bad := by
  have hi : demandAt (demandOffset i w) = i := Fin.ext (by simp only [demandAt, demandOffset]; omega)
  have hn : demandOffset i w / 4 % 8 = w := by unfold demandOffset; omega
  unfold Part.captureAt
  rw [classOfOffset_demand i w hw, hi, hn]

theorem captureAt_urgent (c : CornerId) (w : Nat) (hw : w < 8) :
    p.captureAt (urgentOffset c w) b bad = p.captureUrgent c w b bad := by
  have hi : urgentAt (urgentOffset c w) = c := Fin.ext (by simp only [urgentAt, cornerAt, urgentOffset]; omega)
  have hn : urgentOffset c w / 4 % 8 = w := by unfold urgentOffset; omega
  unfold Part.captureAt
  rw [classOfOffset_urgent c w hw, hi, hn]

theorem captureAt_map (v : ValveId) (w : Nat) (hw : w < 32) :
    p.captureAt (mapOffset v w) b bad = p.captureMap v w b bad := by
  have hi : mapAt (mapOffset v w) = v := Fin.ext (by simp only [mapAt, valveOf, mapOffset]; omega)
  have hn : mapOffset v w / 4 % 32 = w := by unfold mapOffset; omega
  unfold Part.captureAt
  rw [classOfOffset_map v w hw, hi, hn]

theorem captureAt_setup (w : Nat) (hw : w < 64) : p.captureAt (setupOffset w) b bad = p.captureSetup w b bad := by
  have hn : setupOffset w / 4 = w := by unfold setupOffset; omega
  unfold Part.captureAt
  rw [classOfOffset_setup w hw, hn]

end Areas

theorem exec_plainWrite_demand (s : State) (i : SlotId) (w : Nat) (hw : w < 8) (b : Beat) :
    exec (.plainWrite (s.part.bridge.wordAddress (demandOffset i w)) b) s =
      .next { s.arrived (demandOffset i w) b with
        part := (s.arrived (demandOffset i w) b).part.captureDemand i w b (s.badOf b) } := by
  rw [exec_plainWrite_at s (by unfold demandOffset; omega) (by unfold demandOffset; omega), captureAt_demand _ _ _ i w hw]

theorem exec_plainWrite_urgent (s : State) (c : CornerId) (w : Nat) (hw : w < 8) (b : Beat) :
    exec (.plainWrite (s.part.bridge.wordAddress (urgentOffset c w)) b) s =
      .next { s.arrived (urgentOffset c w) b with
        part := (s.arrived (urgentOffset c w) b).part.captureUrgent c w b (s.badOf b) } := by
  rw [exec_plainWrite_at s (by unfold urgentOffset; omega) (by unfold urgentOffset; omega), captureAt_urgent _ _ _ c w hw]

theorem exec_plainWrite_map (s : State) (v : ValveId) (w : Nat) (hw : w < 32) (b : Beat) :
    exec (.plainWrite (s.part.bridge.wordAddress (mapOffset v w)) b) s =
      .next { s.arrived (mapOffset v w) b with
        part := (s.arrived (mapOffset v w) b).part.captureMap v w b (s.badOf b) } := by
  rw [exec_plainWrite_at s (by unfold mapOffset; omega) (by unfold mapOffset; omega), captureAt_map _ _ _ v w hw]

theorem exec_plainWrite_setup (s : State) (w : Nat) (hw : w < 64) (b : Beat) :
    exec (.plainWrite (s.part.bridge.wordAddress (setupOffset w)) b) s =
      .next { s.arrived (setupOffset w) b with
        part := (s.arrived (setupOffset w) b).part.captureSetup w b (s.badOf b) } := by
  rw [exec_plainWrite_at s (by unfold setupOffset; omega) (by unfold setupOffset; omega), captureAt_setup _ _ _ w hw]

/-! ### The rows as captures -/

theorem exec_demandSlotWrite (i : SlotId) (w : Fin 3) (b : Beat) (s : State) :
    exec (.demandSlotWrite i w b) s =
      .next { s.arrived (demandOffset i w.val) b with
        part := (s.arrived (demandOffset i w.val) b).part.stageDemand i w.val b (s.badOf b) } :=
  congrArg Host.Outcome.next (s.regionWrite_eq _ b _)

theorem exec_demandClosingWrite (i : SlotId) (data : Word) (parity : Lanes) (s : State) :
    exec (.demandClosingWrite i data parity) s =
      .next { s.arrived (demandOffset i 3) (fullBeat data parity) with
        part := (s.arrived (demandOffset i 3) (fullBeat data parity)).part.closeDemand i
          ⟨data, s.badOf (fullBeat data parity)⟩ } :=
  congrArg Host.Outcome.next (s.regionWrite_eq _ _ _)

theorem exec_urgentSlotWrite (c : CornerId) (w : Fin 3) (b : Beat) (s : State) :
    exec (.urgentSlotWrite c w b) s =
      .next { s.arrived (urgentOffset c w.val) b with
        part := (s.arrived (urgentOffset c w.val) b).part.stageUrgent c w.val b (s.badOf b) } :=
  congrArg Host.Outcome.next (s.regionWrite_eq _ b _)

theorem exec_mapPointWrite (v : ValveId) (q : Fin 16) (b : Beat) (s : State) :
    exec (.mapPointWrite v q b) s =
      .next { s.arrived (mapOffset v (q.val + 2)) b with
        part := (s.arrived (mapOffset v (q.val + 2)) b).part.writePoint v q.val b (s.badOf b) } :=
  congrArg Host.Outcome.next (s.regionWrite_eq _ b _)

theorem exec_mapClosingWrite (v : ValveId) (data : Word) (parity : Lanes) (s : State) :
    exec (.mapClosingWrite v data parity) s =
      .next { s.arrived (mapOffset v 0) (fullBeat data parity) with
        part := (s.arrived (mapOffset v 0) (fullBeat data parity)).part.writeHeader v
          ⟨data, s.badOf (fullBeat data parity)⟩ } :=
  congrArg Host.Outcome.next (s.regionWrite_eq _ _ _)

theorem exec_journalReadIndex (b : Beat) (s : State) :
    exec (.journalReadIndex b) s =
      .next { s.arrived (setupOffset 2) b with
        part := (s.arrived (setupOffset 2) b).part.readIndexWrite b (s.badOf b) } :=
  congrArg Host.Outcome.next (s.regionWrite_eq _ b _)

theorem fullBeat_of_lanes {b : Beat} (h : b.lanes = 15) : fullBeat b.data b.parity = b := by
  obtain ⟨lanes, data, parity⟩ := b
  cases h
  rfl

section ByAddress
variable (s : State) (b : Beat)

theorem plainWrite_demandSlotWrite (i : SlotId) (w : Fin 3) :
    exec (.plainWrite (s.part.bridge.wordAddress (demandOffset i w.val)) b) s = exec (.demandSlotWrite i w b) s := by
  rw [exec_plainWrite_demand s i w.val (by omega), exec_demandSlotWrite, Part.captureDemand, if_pos w.isLt]

theorem plainWrite_demandClosingWrite (i : SlotId) (h : b.lanes = 15) :
    exec (.plainWrite (s.part.bridge.wordAddress (demandOffset i 3)) b) s =
      exec (.demandClosingWrite i b.data b.parity) s := by
  rw [exec_plainWrite_demand s i 3 (by omega), exec_demandClosingWrite, fullBeat_of_lanes h, Part.captureDemand,
    if_neg (by omega), if_pos ⟨rfl, h⟩]
  rfl

theorem plainWrite_demand_partial (i : SlotId) (h : b.lanes ≠ 15) :
    exec (.plainWrite (s.part.bridge.wordAddress (demandOffset i 3)) b) s = .next (s.arrived (demandOffset i 3) b) := by
  rw [exec_plainWrite_demand s i 3 (by omega), Part.captureDemand, if_neg (by omega), if_neg fun hw => h hw.2]

theorem plainWrite_urgentSlotWrite (c : CornerId) (w : Fin 3) :
    exec (.plainWrite (s.part.bridge.wordAddress (urgentOffset c w.val)) b) s = exec (.urgentSlotWrite c w b) s := by
  rw [exec_plainWrite_urgent s c w.val (by omega), exec_urgentSlotWrite, Part.captureUrgent, if_pos w.isLt]

theorem plainWrite_urgentClosingWrite (c : CornerId) (h : b.lanes = 15) :
    exec (.plainWrite (s.part.bridge.wordAddress (urgentOffset c 3)) b) s =
      exec (.urgentClosingWrite c b.data b.parity) s := by
  rw [exec_plainWrite_urgent s c 3 (by omega), exec_urgentClosingWrite, fullBeat_of_lanes h, Part.captureUrgent,
    if_neg (by omega), if_pos ⟨rfl, h⟩]
  rfl

theorem plainWrite_urgent_partial (c : CornerId) (h : b.lanes ≠ 15) :
    exec (.plainWrite (s.part.bridge.wordAddress (urgentOffset c 3)) b) s = .next (s.arrived (urgentOffset c 3) b) := by
  rw [exec_plainWrite_urgent s c 3 (by omega), Part.captureUrgent, if_neg (by omega), if_neg fun hw => h hw.2]

theorem plainWrite_mapPointWrite (v : ValveId) (q : Fin 16) :
    exec (.plainWrite (s.part.bridge.wordAddress (mapOffset v (q.val + 2))) b) s = exec (.mapPointWrite v q b) s := by
  rw [exec_plainWrite_map s v (q.val + 2) (by omega), exec_mapPointWrite, Part.captureMap, if_neg (by omega),
    if_pos (by omega), Nat.add_sub_cancel]

theorem plainWrite_mapClosingWrite (v : ValveId) (h : b.lanes = 15) :
    exec (.plainWrite (s.part.bridge.wordAddress (mapOffset v 0)) b) s = exec (.mapClosingWrite v b.data b.parity) s := by
  rw [exec_plainWrite_map s v 0 (by omega), exec_mapClosingWrite, fullBeat_of_lanes h, Part.captureMap, if_pos rfl,
    if_pos h]
  rfl

theorem plainWrite_map_partial (v : ValveId) (h : b.lanes ≠ 15) :
    exec (.plainWrite (s.part.bridge.wordAddress (mapOffset v 0)) b) s = .next (s.arrived (mapOffset v 0) b) := by
  rw [exec_plainWrite_map s v 0 (by omega), Part.captureMap, if_pos rfl, if_neg h]

theorem plainWrite_journalReadIndex :
    exec (.plainWrite (s.part.bridge.wordAddress (setupOffset 2)) b) s = exec (.journalReadIndex b) s := by
  rw [exec_plainWrite_setup s 2 (by omega), exec_journalReadIndex]
  rfl

theorem plainWrite_setupRow {c : Instr} {code : BitVec 8} {w : CommandWrite} (hc : setupRow c = some (code, w))
    (ho : w.order = []) (hl : w.later = 0) :
    exec (.plainWrite (s.part.bridge.wordAddress (setupOffset 0)) (commandBeat code w)) s = exec c s := by
  rw [exec_plainWrite_setup s 0 (by omega), exec_setupRow hc, State.setupCommand_eq, ho, hl]
  rfl

end ByAddress

/-- Settles O9: the writes that no block captures, then each captured word as its own row. -/
theorem writesByAddress : Obligations.WritesByAddress := by
  unfold Obligations.WritesByAddress
  refine ⟨fun addr b s h => exec_plainWrite_uncaptured (fun o ho => ?_) b, fun s b =>
    ⟨plainWrite_demandSlotWrite s b, plainWrite_demandClosingWrite s b, plainWrite_urgentSlotWrite s b,
      plainWrite_urgentClosingWrite s b, plainWrite_urgent_partial s b, plainWrite_mapPointWrite s b,
      plainWrite_mapClosingWrite s b, plainWrite_map_partial s b, plainWrite_journalReadIndex s b,
      fun c code w => plainWrite_setupRow s⟩⟩
  rw [ho] at h
  exact h

/-- Settles O14. -/
theorem partialClosingWriteIsNotCaptured : Obligations.PartialClosingWriteIsNotCaptured := by
  unfold Obligations.PartialClosingWriteIsNotCaptured
  exact fun i b s => ⟨plainWrite_demand_partial s b i, plainWrite_demandClosingWrite s b i⟩

/-! ### Reads -/

theorem laneByte_word (m : Memory) (base k : Nat) (hk : k < 4) : laneByte (m.word base) k = m.byte (base + k) := by
  obtain ⟨h0, h1, h2, h3⟩ := laneByte_append (m.byte base) (m.byte (base + 1)) (m.byte (base + 2)) (m.byte (base + 3))
  interval_cases k <;> assumption

theorem lanesParity_bit (m : Memory) (base k : Nat) (hk : k < 4) :
    (m.lanesParity base).getLsbD k = m.parityBit (base + k) := by
  unfold Memory.lanesParity
  interval_cases k
  · exact lanes_bit0 _ _ _ _
  · exact lanes_bit1 _ _ _ _
  · exact lanes_bit2 _ _ _ _
  · exact lanes_bit3 _ _ _ _

theorem windowWord_none {p : Part} {addr : BitVec 22} (h : p.bridge.classOf addr ≠ .statusWindow) :
    p.windowWord addr = none := by
  unfold Part.windowWord
  split
  next o ho =>
    rw [Bridge.classOf, ho] at h
    exact if_neg h
  next => rfl

theorem windowWord_at (p : Part) (w : Fin 64) : p.windowWord (p.bridge.wordAddress (windowOffset w.val)) = some w := by
  have ho := p.bridge.offset_wordAddress (windowOffset w.val) (by unfold windowOffset; omega)
    (by unfold windowOffset; omega)
  unfold Part.windowWord
  rw [ho]
  simp only [classOfOffset_window w.val w.isLt, if_true, Option.some.injEq, Fin.ext_iff]
  unfold windowOffset
  omega

theorem exec_forwardedRead_memory {addr : BitVec 22} {s : State} (h : s.part.windowWord addr = none) :
    exec (.forwardedRead addr) s = .next (s.forwardRead addr) := by
  simp only [exec, execForwardedRead, h]

theorem forwardRead_part (s : State) (addr : BitVec 22) :
    (s.forwardRead addr).part =
      (let g := s.grantAccess.part
       let data := s.grantAccess.mem.word (byteAddress addr)
       let parity := s.grantAccess.mem.lanesParity (byteAddress addr)
       let bad := badLanes s.part.bridge.psense data parity
       if bad = 0 then { g with port := ⟨data, parity⟩ }
       else
         { g with
           port := ⟨data, parity⟩
           bridge := { g.bridge with stickyM := true }
           journal := g.journal.hand (.parityM (addr ++ (0 : BitVec 2)) bad (g.bridge.classOf addr)) g.timer.frame }) := by
  obtain ⟨hb, -⟩ := s.grantAccess_access
  dsimp only [State.forwardRead]
  rw [← congrArg Bridge.psense hb]
  unfold Part.reportM
  split <;> rfl

theorem readWindow_eq (p : Part) (w : Fin 64) :
    p.readWindow w =
      { p with
        port := ⟨p.statusWord w, goodParity p.bridge.psense (p.statusWord w)⟩
        bridge := if w.val = 1 then { p.bridge with stickyP := false, stickyM := false } else p.bridge
        fresh := p.fresh + 1 } := by
  unfold Part.readWindow
  dsimp only
  split <;> rfl

/-- Settles O10: a read that memory answers, and one that the Status Window answers. -/
theorem processorReads : Obligations.ProcessorReads := by
  unfold Obligations.ProcessorReads
  refine ⟨fun addr s h => ⟨_, exec_forwardedRead_memory (windowWord_none h), rfl, s.grantAccess_pending, fun k hk =>
    ⟨laneByte_word _ _ k hk, lanesParity_bit _ _ k hk⟩, forwardRead_part s addr⟩, fun w s => ⟨?_, ?_⟩⟩
  · rw [← readWindow_eq]
    rfl
  · simp only [exec, execForwardedRead, windowWord_at]
    rfl

end Sys2Proof.Machine
end

section
/-! The layouts: the words of the part as sums of their fields, the codes, the entries of the journal, and the fields of
the words the processor writes. -/

namespace Sys2Proof.Machine

/-! ### The ranges of the codes -/

theorem bitOf_lt (b : Bool) : bitOf b < 2 := by cases b <;> decide

theorem CornerState.code_lt (x : CornerState) : x.code < 4 := by cases x <;> decide

theorem LimpCause.code_lt (x : LimpCause) : x.code < 8 := by cases x <;> decide

theorem ChannelName.code_lt (x : ChannelName) : x.code < 8 := by cases x <;> decide

theorem ThermalLevel.code_lt (x : ThermalLevel) : x.code < 4 := by cases x <;> decide

theorem UrgentState.code_lt (x : UrgentState) : x.code < 4 := by cases x <;> decide

theorem PendingState.code_lt (x : PendingState) : x.code < 4 := by cases x <;> simp [PendingState.code]

theorem ReplyResult.code_lt (x : ReplyResult) : x.code < 4 := by cases x <;> decide

/-- An optional thing's code keeps the bound of the codes. -/
theorem codeOr0_lt {α : Type} {f : α → Nat} {n : Nat} (hn : 0 < n) (h : ∀ x, f x < n) : ∀ x, codeOr0 f x < n
  | none => hn
  | some x => h x

theorem faultCode_lt : ∀ x, codeOr0 FaultCause.code x < 8 :=
  codeOr0_lt (by omega) fun x => by cases x <;> decide

theorem mapReasonCode_lt : ∀ x, codeOr0 MapReason.code x < 16 :=
  codeOr0_lt (by omega) fun x => by cases x <;> decide

theorem replyReasonCode_lt : ∀ x, codeOr0 ReplyReason.code x < 32 :=
  codeOr0_lt (by omega) fun x => by cases x <;> decide

theorem traceMarkCode_lt : ∀ x, codeOr0 TraceMark.code x < 4 :=
  codeOr0_lt (by omega) fun x => by cases x <;> decide

/-! ### The Status Window -/

section Window
variable (p : Part)

theorem frameStatus_toNat :
    p.frameStatus.toNat = p.timer.frame.toNat + bitOf p.timer.running * 2 ^ 16 + p.timer.period % 16 * 2 ^ 20 := by
  have := bitOf_lt p.timer.running
  rw [Part.frameStatus, packWord_value _ rfl]
  simp only [packValue]
  omega

theorem lineStatus_toNat :
    p.lineStatus.toNat =
      bitOf p.lines.safe + (allValves.map fun v => bitOf (p.driverFault v) * 2 ^ (8 + v.val)).sum +
        bitOf p.bridge.stickyP * 2 ^ 16 + bitOf p.bridge.stickyM * 2 ^ 17 := by
  have hbit : ∀ b, bitOf b % 2 ^ 1 = bitOf b := fun b => Nat.mod_eq_of_lt (bitOf_lt b)
  rw [Part.lineStatus, packWord_value _ rfl]
  simp only [allValves, List.map_cons, List.map_nil, List.cons_append, List.nil_append, packValue, hbit, List.sum_cons,
    List.sum_nil]
  omega

theorem journalStatus_toNat :
    p.journalStatus.toNat =
      p.journal.write.toNat + p.journal.read.toNat * 2 ^ 8 + p.journal.lost % 256 * 2 ^ 16 +
        bitOf p.journal.alarm.isSome * 2 ^ 24 := by
  have := bitOf_lt p.journal.alarm.isSome
  rw [Part.journalStatus, packWord_value _ rfl]
  simp only [packValue]
  omega

theorem analyzerShown_code : p.analyzerShown.1 =
    match p.analyzer.state with | .idle => 0 | .searching _ => 1 | .capturing _ => 2 | .writing => 3 := by
  unfold Part.analyzerShown
  cases p.analyzer.state <;> rfl

theorem traceShown_code : p.traceShown.1 =
    match p.analyzer.trace with | .idle => 0 | .armed _ => 1 | .capturing => 2 | .writing => 3 := by
  unfold Part.traceShown
  cases p.analyzer.trace <;> rfl

theorem analyzerShown_lt : p.analyzerShown.1 < 4 ∧ p.analyzerShown.2 < 8 := by
  unfold Part.analyzerShown
  split <;> exact ⟨by dsimp only; omega, by dsimp only; omega⟩

theorem traceValve_lt : p.traceValve < 8 := by
  unfold Part.traceValve
  split <;> omega

theorem traceShown_lt : p.traceShown.1 < 4 ∧ p.traceShown.2 < 8 := by
  have := traceValve_lt p
  unfold Part.traceShown
  split <;> exact ⟨by dsimp only; omega, by dsimp only; omega⟩

theorem analyzerStatus_toNat :
    ∃ x y, x < 8 ∧ y < 8 ∧
      p.analyzerStatus.toNat =
        (match p.analyzer.state with | .idle => 0 | .searching _ => 1 | .capturing _ => 2 | .writing => 3) + x * 2 ^ 2 +
          (match p.analyzer.trace with | .idle => 0 | .armed _ => 1 | .capturing => 2 | .writing => 3) * 2 ^ 8 +
          y * 2 ^ 10 + p.analyzer.queue.length % 16 * 2 ^ 16 ∧
      (∀ h, p.analyzer.state = .searching h → x = h.valve.val) ∧
      (∀ v, p.analyzer.state = .capturing v → x = v.val) ∧
      (∀ v, p.analyzer.trace = .armed v → y = v.val) ∧
      (∀ t, p.analyzer.trace = .capturing ∨ p.analyzer.trace = .writing → p.analyzer.hand = some t →
        y = t.valve.val) := by
  obtain ⟨ha, hx⟩ := analyzerShown_lt p
  obtain ⟨ht, hy⟩ := traceShown_lt p
  refine ⟨_, _, hx, hy, ?_, fun h e => ?_, fun v e => ?_, fun v e => ?_, fun t e hh => ?_⟩
  · rw [← analyzerShown_code, ← traceShown_code, Part.analyzerStatus, packWord_value _ rfl]
    simp only [packValue]
    omega
  · simp only [Part.analyzerShown, e]
  · simp only [Part.analyzerShown, e]
  · simp only [Part.traceShown, e]
  · rcases e with e | e <;> simp only [Part.traceShown, Part.traceValve, e, hh]

theorem packValue_nibbles {f : Nat → Nat} (h : ∀ k, f k < 16) : ∀ l : List Nat,
    packValue (l.map fun k => (4 * k, 4, f k)) = (l.map fun k => f k * 2 ^ (4 * k)).sum
  | [] => rfl
  | k :: l => by
    have hk : f k % 2 ^ 4 = f k := Nat.mod_eq_of_lt (h k)
    rw [List.map_cons, List.map_cons, packValue, List.sum_cons, packValue_nibbles h l, hk]

theorem packNibbles_toNat (f : Nat → Nat) (h : ∀ k, f k < 16) :
    (packWord ([0, 1, 2, 3, 4, 5, 6, 7].map fun k => (4 * k, 4, f k))).toNat =
      ([0, 1, 2, 3, 4, 5, 6, 7].map fun k => f k * 2 ^ (4 * k)).sum := by
  rw [packWord_value _ rfl, packValue_nibbles h]

/-- The nibble of a place in the Tune Queue: its valve, 15 beyond the length. -/
def queueNibble (o : Option ValveId) : Nat := match o with | some v => v.val | none => 15

theorem queueNibble_lt : ∀ o, queueNibble o < 16
  | some v => by simp only [queueNibble]; omega
  | none => by decide

theorem queueStatus_toNat :
    p.queueStatus.toNat =
      ([0, 1, 2, 3, 4, 5, 6, 7].map fun k => queueNibble p.analyzer.queue[k]? * 2 ^ (4 * k)).sum :=
  packNibbles_toNat (fun k => queueNibble p.analyzer.queue[k]?) fun _ => queueNibble_lt _

theorem statusWord_corner1 {c : CornerId} {w : Fin 64} (h : w.val = 8 + 2 * c.val) :
    p.statusWord w = p.cornerStatus1 c := by
  have hc : (⟨(w.val - 8) / 2 % 4, Nat.mod_lt _ (by decide)⟩ : CornerId) = c := Fin.ext (by dsimp only; omega)
  unfold Part.statusWord
  iterate 6 rw [if_neg (by omega)]
  rw [if_pos (by omega)]
  dsimp only
  rw [hc, if_pos (by omega)]

theorem statusWord_corner2 {c : CornerId} {w : Fin 64} (h : w.val = 9 + 2 * c.val) :
    p.statusWord w = p.cornerStatus2 c := by
  have hc : (⟨(w.val - 8) / 2 % 4, Nat.mod_lt _ (by decide)⟩ : CornerId) = c := Fin.ext (by dsimp only; omega)
  unfold Part.statusWord
  iterate 6 rw [if_neg (by omega)]
  rw [if_pos (by omega)]
  dsimp only
  rw [hc, if_neg (by omega)]

/-- The four words of a valve. -/
theorem statusWord_valve {v : ValveId} {n : Nat} {w : Fin 64} (h : w.val = 16 + n + 4 * v.val) (hn : n < 4) :
    p.statusWord w =
      if n = 0 then p.valveStatus0 v else if n = 1 then p.valveStatus1 v
      else if n = 2 then p.valveStatus2 v else p.valveStatus3 v := by
  have hv : (⟨(w.val - 16) / 4 % 8, Nat.mod_lt _ (by decide)⟩ : ValveId) = v := Fin.ext (by dsimp only; omega)
  have hw : w.val % 4 = n := by omega
  unfold Part.statusWord
  iterate 7 rw [if_neg (by omega)]
  rw [if_pos (by omega)]
  dsimp only
  rw [hv, hw]

theorem statusWord_unused {w : Fin 64} (h : (4 < w.val ∧ w.val < 8) ∨ 48 ≤ w.val) : p.statusWord w = 0 := by
  unfold Part.statusWord
  iterate 5 rw [if_neg (by omega)]
  split_ifs <;> first | rfl | omega

theorem cornerStatus1_toNat (c : CornerId) :
    (p.cornerStatus1 c).toNat =
      (p.corner c).state.code + (p.corner c).limpCause.code * 2 ^ 4 + (p.corner c).list.length % 16 * 2 ^ 8 +
        bitOf (p.corner c).dryRun * 2 ^ 12 + (p.corner c).silence % 256 * 2 ^ 16 := by
  have := bitOf_lt (p.corner c).dryRun
  have := (p.corner c).state.code_lt
  have := (p.corner c).limpCause.code_lt
  rw [Part.cornerStatus1, packWord_value _ rfl]
  simp only [packValue]
  omega

theorem cornerStatus2_toNat (c : CornerId) :
    ∃ x, x < 65536 ∧ (∀ q, (p.corner c).lastTaken = some q → x = q.toNat) ∧
      (p.cornerStatus2 c).toNat =
        x + bitOf (p.corner c).lastTaken.isNone * 2 ^ 16 + (p.urgentSlot c).state.code * 2 ^ 20 +
          (p.corner c).holdLeft % 256 * 2 ^ 24 := by
  have hx : p.sequenceShown c < 65536 := by
    unfold Part.sequenceShown
    split <;> omega
  refine ⟨_, hx, fun q hq => by rw [Part.sequenceShown, hq], ?_⟩
  have := bitOf_lt (p.corner c).lastTaken.isNone
  have := (p.urgentSlot c).state.code_lt
  rw [Part.cornerStatus2, packWord_value _ rfl]
  simp only [packValue]
  omega

theorem valveStatus0_toNat (v : ValveId) :
    ∃ x, x < 16 ∧ (∀ g, (p.channel v).tunedGain = some g → x = g.val) ∧
      (p.valveStatus0 v).toNat =
        (p.channel v).state.name.code + codeOr0 FaultCause.code (p.channel v).state.faultCause * 2 ^ 4 + x * 2 ^ 8 +
          bitOf (p.channel v).tunedGain.isNone * 2 ^ 12 + (p.channel v).drive % 2048 * 2 ^ 16 := by
  have hx : p.gainShown v < 16 := by
    unfold Part.gainShown
    split <;> omega
  refine ⟨_, hx, fun g hg => by rw [Part.gainShown, hg], ?_⟩
  have := bitOf_lt (p.channel v).tunedGain.isNone
  have := (p.channel v).state.name.code_lt
  have := faultCode_lt (p.channel v).state.faultCause
  rw [Part.valveStatus0, packWord_value _ rfl]
  simp only [packValue]
  omega

theorem valveStatus1_toNat (v : ValveId) :
    (p.valveStatus1 v).toNat = (p.channel v).target % 4096 + (p.channel v).measured % 4096 * 2 ^ 16 := by
  rw [Part.valveStatus1, packWord_value _ rfl]
  simp only [packValue]
  omega

theorem valveStatus2_toNat (v : ValveId) :
    (p.valveStatus2 v).toNat = (p.channel v).heat.index % 65536 + (p.channel v).heat.level.code * 2 ^ 16 := by
  have := (p.channel v).heat.level.code_lt
  rw [Part.valveStatus2, packWord_value _ rfl]
  simp only [packValue]
  omega

theorem valveStatus3_toNat (v : ValveId) :
    (p.valveStatus3 v).toNat =
      (p.map v).activeCount % 32 + (p.map v).state.code * 2 ^ 8 := by
  have := (p.map v).state.code_lt
  rw [Part.valveStatus3, packWord_value _ rfl]
  simp only [packValue]
  omega

end Window

/-! ### Published words -/

theorem frameWord_toNat (f : Frame) : (frameWord f).toNat = f.toNat := by
  rw [frameWord, packWord_value _ rfl]
  simp only [packValue]
  omega

theorem currentsWord_toNat (i j : Nat) : (currentsWord i j).toNat = i % 65536 + j % 65536 * 2 ^ 16 := by
  rw [currentsWord, packWord_value _ rfl]
  simp only [packValue]
  omega

theorem dispositionWord_toNat (code reason : Nat) :
    (dispositionWord code reason).toNat = code % 16 + reason % 16 * 2 ^ 8 := by
  rw [dispositionWord, packWord_value _ rfl]
  simp only [packValue]
  omega

/-- The code of a map result's outcome. -/
theorem outcomeCode_eq (r : MapResult) :
    (if r.reason.isNone = true then 1 else 2) = if r.reason = none then 1 else 2 := by
  cases r.reason <;> rfl

theorem mapResult_word_toNat (r : MapResult) :
    r.word.toNat =
      (if r.reason = none then 1 else 2) + codeOr0 MapReason.code r.reason * 2 ^ 8 + r.count % 32 * 2 ^ 16 := by
  have := mapReasonCode_lt r.reason
  rw [MapResult.word, packWord_value _ rfl, ← outcomeCode_eq]
  simp only [packValue]
  split <;> omega

theorem reply_word_toNat (r : Reply) :
    r.word.toNat =
      r.kind.toNat + r.refusedMask.toNat * 2 ^ 8 + r.tag.toNat * 2 ^ 16 + r.result.code * 2 ^ 20 +
        codeOr0 ReplyReason.code r.reason * 2 ^ 24 := by
  have := replyReasonCode_lt r.reason
  have := r.result.code_lt
  rw [Reply.word, packWord_value _ rfl]
  simp only [packValue]
  omega

theorem journalEntry_words_toNat (e : JournalEntry) :
    e.word0.toNat =
      e.event.kind % 256 + e.sequence.toNat * 2 ^ 8 + e.lostBefore % 256 * 2 ^ 16 + e.event.subject % 256 * 2 ^ 24 ∧
    e.word1.toNat = e.frame.toNat + e.event.detailA % 65536 * 2 ^ 16 := by
  rw [JournalEntry.word0, JournalEntry.word1, packWord_value _ rfl, packWord_value _ rfl]
  simp only [packValue]
  omega

theorem traceSample_word_toNat (t : TraceSample) : t.word.toNat = t.measured % 4096 + t.target % 4096 * 2 ^ 16 := by
  rw [TraceSample.word, packWord_value _ rfl]
  simp only [packValue]
  omega

theorem trace_header_toNat (t : Trace) :
    t.header.toNat =
      codeOr0 TraceMark.code t.mark + t.valve.val * 2 ^ 2 + t.gain % 16 * 2 ^ 5 + t.samples.length % 128 * 2 ^ 9 +
        t.frame.toNat * 2 ^ 16 := by
  have := traceMarkCode_lt t.mark
  rw [Trace.header, packWord_value _ rfl]
  simp only [packValue]
  omega

/-! ### Channel states -/

theorem isFault_iff_name (st : ChannelState) : st.isFault = true ↔ st.name = .fault := by
  cases st <;> simp [ChannelState.isFault, ChannelState.name]

theorem isOffOrFault_iff_name (st : ChannelState) : st.isOffOrFault = true ↔ st.name = .off ∨ st.name = .fault := by
  cases st <;> simp [ChannelState.isOffOrFault, ChannelState.name]

/-! ### Journal entries -/

/-- The kind, the subject and the three details of an event. -/
structure EventRow (e : Event) (kind subject a b c : Nat) : Prop where
  kind : e.kind = kind
  subject : e.subject = subject
  detailA : e.detailA = a
  detailB : e.detailB.toNat = b % 2 ^ 32
  detailC : e.detailC.toNat = c % 2 ^ 32

theorem EventRow.fields {e : Event} {kind subject a b c : Nat} (h : EventRow e kind subject a b c) :
    e.kind = kind ∧ e.subject = subject ∧ e.detailA = a ∧ e.detailB.toNat = b % 2 ^ 32 ∧ e.detailC.toNat = c % 2 ^ 32 :=
  ⟨h.kind, h.subject, h.detailA, h.detailB, h.detailC⟩

theorem eventRow_cornerLimp (c : CornerId) (d : LimpDetail) :
    EventRow (.cornerLimp c d) 6 c.val d.cause.code d.figure d.fault :=
  ⟨rfl, rfl, rfl, BitVec.toNat_ofNat _ _, BitVec.toNat_ofNat _ _⟩

theorem eventRow_channelState (v : ValveId) (l e : ChannelName) (cause : ChangeCause) :
    EventRow (.channelState v l e cause) 11 v.val (l.code + e.code * 2 ^ 4 + cause.code * 2 ^ 8) cause.figure 0 :=
  ⟨rfl, rfl, by simp only [Event.detailA]; omega, BitVec.toNat_ofNat _ _, rfl⟩

theorem eventRow_tuned (v : ValveId) (n : Nat) (best : BestTrial) :
    EventRow (.tuned v n best) 15 v.val (n * 2 ^ 8) best.gain (best.score % (2 ^ 32 : ℤ)).toNat where
  kind := rfl
  subject := rfl
  detailA := by simp only [Event.detailA]; omega
  detailB := BitVec.toNat_ofNat _ _
  detailC := by
    simp only [Event.detailC, BitVec.toNat_ofInt]
    omega

theorem eventRow_setupOverrun (k : BitVec 8) (t : BitVec 4) (k' : BitVec 8) (t' : BitVec 4) :
    EventRow (.setupOverrun k t k' t') 19 255 (k.toNat + t.toNat * 2 ^ 8) (k'.toNat + t'.toNat * 2 ^ 8) 0 where
  kind := rfl
  subject := rfl
  detailA := by simp only [Event.detailA]; omega
  detailB := by
    rw [Event.detailB, packWord_value _ rfl]
    simp only [packValue]
    omega
  detailC := rfl

theorem eventRow_badReadIndex (x : IndexFailure) (value : Word) (r w : BitVec 7) :
    EventRow (.badReadIndex x value r w) 20 255 x.code value.toNat (r.toNat + w.toNat * 2 ^ 16) where
  kind := rfl
  subject := rfl
  detailA := rfl
  detailB := by simp only [Event.detailB]; omega
  detailC := by
    rw [Event.detailC, packWord_value _ rfl]
    simp only [packValue]
    omega

theorem eventRow_parity (addr : BitVec 24) (l : Lanes) (k : AccessClass) :
    EventRow (.parityP addr l k) 17 0 (l.toNat + k.code * 2 ^ 4 + 2 ^ 8) addr.toNat 0 ∧
      EventRow (.parityM addr l k) 18 1 (l.toNat + k.code * 2 ^ 4) addr.toNat 0 :=
  ⟨⟨rfl, rfl, by simp only [Event.detailA]; omega, BitVec.toNat_setWidth _ _, rfl⟩,
    ⟨rfl, rfl, by simp only [Event.detailA]; omega, BitVec.toNat_setWidth _ _, rfl⟩⟩

theorem eventRow_mapResult (v : ValveId) (r : MapResult) :
    EventRow (.mapResult v r) 21 v.val
      ((if r.reason = none then 1 else 2) + codeOr0 MapReason.code r.reason * 2 ^ 8) r.count 0 :=
  ⟨rfl, rfl, by simp only [Event.detailA, outcomeCode_eq]; omega, BitVec.toNat_ofNat _ _, rfl⟩

/-- Settles O11: the words of the window, the published words, the codes, the channel states, the journal entries. -/
theorem partWordLayouts : Obligations.PartWordLayouts := by
  unfold Obligations.PartWordLayouts
  refine ⟨fun p => ⟨frameStatus_toNat p, lineStatus_toNat p, journalStatus_toNat p, analyzerStatus_toNat p,
      queueStatus_toNat p, fun c w h => ?_, fun c w h => ?_, fun v w h => ?_, fun v w h => ?_, fun v w h => ?_,
      fun v w h => ?_, fun w => statusWord_unused p⟩,
    ⟨frameWord_toNat, currentsWord_toNat, dispositionWord_toNat, mapResult_word_toNat, reply_word_toNat,
      journalEntry_words_toNat, traceSample_word_toNat, trace_header_toNat⟩,
    ⟨rfl, rfl, rfl, rfl, rfl, rfl, rfl, rfl, rfl, fun _ => rfl, rfl, rfl, rfl, rfl, rfl, rfl, rfl, fun _ _ _ => rfl, rfl,
      rfl, fun _ => ⟨rfl, fun _ => rfl⟩⟩,
    ⟨fun _ _ _ => rfl, fun _ _ _ => rfl, fun st => ⟨isFault_iff_name st, isOffOrFault_iff_name st⟩⟩, ?_⟩
  · rw [statusWord_corner1 p h]
    exact cornerStatus1_toNat p c
  · rw [statusWord_corner2 p h]
    exact cornerStatus2_toNat p c
  · rw [statusWord_valve p (n := 0) h (by omega)]
    exact valveStatus0_toNat p v
  · rw [statusWord_valve p (n := 1) h (by omega)]
    exact valveStatus1_toNat p v
  · rw [statusWord_valve p (n := 2) h (by omega)]
    exact valveStatus2_toNat p v
  · rw [statusWord_valve p (n := 3) h (by omega)]
    exact valveStatus3_toNat p v
  · have num : ∀ n : Nat, (BitVec.ofNat 32 n).toNat = n % 2 ^ 32 := fun n => BitVec.toNat_ofNat n 32
    exact ⟨fun _ _ => ⟨rfl, rfl, rfl, rfl, rfl⟩, fun _ _ => ⟨rfl, rfl, rfl, rfl, rfl⟩,
      fun _ _ _ => ⟨rfl, rfl, rfl, num _, rfl⟩,
      fun _ _ _ => ⟨⟨rfl, rfl, rfl, num _, rfl⟩, ⟨rfl, rfl, rfl, num _, rfl⟩⟩,
      fun c n => (eventRow_cornerLimp c (.silence n)).fields,
      fun c v x => (eventRow_cornerLimp c (.valveFault v x)).fields,
      fun c v => (eventRow_cornerLimp c (.valveLost v)).fields,
      fun c d => (eventRow_cornerLimp c (.partner d)).fields,
      fun _ _ => ⟨⟨rfl, rfl, rfl, rfl, rfl⟩, ⟨rfl, rfl, rfl, rfl, rfl⟩, ⟨rfl, rfl, rfl, rfl, rfl⟩, ⟨rfl, rfl, rfl, rfl, rfl⟩⟩,
      fun v l e r g x => ⟨(eventRow_channelState v l e .enable).fields,
        (eventRow_channelState v l e (.prepareDone r)).fields, (eventRow_channelState v l e (.searchDone g)).fields,
        (eventRow_channelState v l e .retune).fields, (eventRow_channelState v l e .disable).fields,
        (eventRow_channelState v l e .safe).fields, (eventRow_channelState v l e (.clearFault x)).fields⟩,
      fun _ x l _ => ⟨rfl, rfl, congrArg (x.code + ·) (Nat.mul_comm 16 l.code), num _, rfl⟩,
      fun _ _ _ => ⟨rfl, rfl, rfl, num _, rfl⟩,
      fun _ l e _ _ => ⟨rfl, rfl, congrArg (l.code + ·) (Nat.mul_comm 16 e.code), num _, num _⟩,
      fun v n best => (eventRow_tuned v n best).fields,
      fun _ n => ⟨rfl, rfl, congrArg (1 + ·) (Nat.mul_comm 256 n), rfl, rfl⟩,
      fun _ m n _ => ⟨rfl, rfl, congrArg (codeOr0 TraceMark.code m + ·) (Nat.mul_comm 256 n), num _, rfl⟩,
      fun addr l k => ⟨(eventRow_parity addr l k).1.fields, (eventRow_parity addr l k).2.fields⟩,
      fun k t k' t' => (eventRow_setupOverrun k t k' t').fields,
      fun x value r w => (eventRow_badReadIndex x value r w).fields,
      fun v r => (eventRow_mapResult v r).fields, rfl, rfl, rfl, rfl, rfl⟩

/-! ### Received words -/

theorem field_eq (w : Word) (lo len : Nat) : field w lo len = w.toNat / 2 ^ lo % 2 ^ len := by
  rw [field, BitVec.extractLsb'_toNat, Nat.shiftRight_eq_div_pow]

theorem extract_toNat (w : Word) (lo len : Nat) : (w.extractLsb' lo len).toNat = w.toNat / 2 ^ lo % 2 ^ len :=
  field_eq w lo len

theorem bit_eq_decide (w : Word) (k : Nat) : w.getLsbD k = decide (w.toNat / 2 ^ k % 2 = 1) := by
  rw [BitVec.getLsbD, Nat.testBit_eq_decide_div_mod_eq]

theorem demandRecord_fields (w0 w1 w2 w3 : Word) :
    let r := demandRecord w0 w1 w2 w3
    r.corner.val = w0.toNat % 4 ∧ r.select = selectOfCode (w0.toNat / 2 ^ 2 % 4) ∧
      r.timing = (if w0.toNat / 2 ^ 4 % 2 = 1 then .nextFrame else .atFrame) ∧ r.ramp = w0.toNat / 2 ^ 8 % 64 ∧
      r.sequence.toNat = w0.toNat / 2 ^ 16 ∧ r.target.toNat = w1.toNat % 65536 ∧ r.compression = w2.toNat % 2048 ∧
      r.rebound = w2.toNat / 2 ^ 16 % 2048 ∧ r.check.toNat = w3.toNat % 65536 ∧ r.echo = w3.toNat / 2 ^ 16 % 128 := by
  have hw := w0.isLt
  dsimp only [demandRecord]
  simp only [BitVec.val_toFin, extract_toNat, field_eq, bit_eq_decide, decide_eq_true_eq, true_and]
  exact ⟨by omega, rfl, by omega⟩

theorem urgentRecord_fields (w0 w1 w2 w3 : Word) :
    let r := urgentRecord w0 w1 w2 w3
    r.select = selectOfCode (w0.toNat % 4) ∧ r.cancel = decide (w0.toNat / 2 ^ 2 % 2 = 1) ∧
      r.release = w0.toNat / 2 ^ 8 % 64 ∧ r.sequence.toNat = w0.toNat / 2 ^ 16 ∧ r.hold = w1.toNat % 256 ∧
      r.compression = w2.toNat % 2048 ∧ r.rebound = w2.toNat / 2 ^ 16 % 2048 ∧ r.check.toNat = w3.toNat % 65536 ∧
      r.echo = w3.toNat / 2 ^ 16 % 128 := by
  have hw := w0.isLt
  dsimp only [urgentRecord]
  simp only [extract_toNat, field_eq, bit_eq_decide, true_and]
  exact ⟨congrArg selectOfCode (by omega), by omega⟩

theorem selectOfCode_eq (n : Nat) : selectOfCode n =
    if n = 0 then some .compression else if n = 1 then some .rebound else if n = 2 then some .both else none := by
  rcases n with _ | _ | _ | n <;> simp [selectOfCode]

theorem header_fields (h : Word) :
    headerCount h = h.toNat % 32 ∧ (headerCheck h).toNat = h.toNat / 2 ^ 16 := by
  have hh := h.isLt
  rw [headerCount, headerCheck, field_eq, extract_toNat]
  omega

theorem mapPoint_eq (w : Word) : mapPoint w = ⟨w.toNat % 2048, w.toNat / 2 ^ 16 % 4096⟩ := by
  rw [mapPoint, field_eq, field_eq]
  simp

theorem commandWord_toNat (code : BitVec 8) (w : CommandWrite) :
    (commandWord code w).toNat =
      code.toNat + w.mask.toNat * 2 ^ 8 + w.tag.toNat * 2 ^ 16 + w.arg.toNat * 2 ^ 20 := by
  rw [commandWord, toNat_append_add, toNat_append_add, toNat_append_add]
  omega

theorem commandOf_fields (x : Word) :
    (commandOf x).kind.toNat = x.toNat % 2 ^ 8 ∧ (commandOf x).mask.toNat = x.toNat / 2 ^ 8 % 2 ^ 8 ∧
      (commandOf x).tag.toNat = x.toNat / 2 ^ 16 % 2 ^ 4 ∧ (commandOf x).arg.toNat = x.toNat / 2 ^ 20 := by
  have hx := x.isLt
  simp only [commandOf, extract_toNat, true_and]
  omega

theorem laneByte_toNat (w : Word) (k : Nat) : (laneByte w k).toNat = w.toNat / 2 ^ (8 * k) % 2 ^ 8 := extract_toNat w _ _

/-- Lane k of four bytes side by side. -/
theorem laneByte_four (b : Nat → Byte) (k : Nat) (hk : k < 4) : laneByte (b 3 ++ b 2 ++ b 1 ++ b 0) k = b k := by
  obtain ⟨h0, h1, h2, h3⟩ := laneByte_append (b 0) (b 1) (b 2) (b 3)
  interval_cases k <;> assumption

theorem laneByte_seenWord (b : Beat) (k : Nat) (hk : k < 4) :
    laneByte (seenWord b) k = if b.lanes.getLsbD k = true then laneByte b.data k else 0 :=
  laneByte_four (fun k => if b.lanes.getLsbD k then laneByte b.data k else 0#8) k hk

theorem seenWord_lane_toNat (b : Beat) (k : Nat) (hk : k < 4) :
    (seenWord b).toNat / 2 ^ (8 * k) % 2 ^ 8 = if b.lanes.getLsbD k = true then (laneByte b.data k).toNat else 0 := by
  rw [← laneByte_toNat, laneByte_seenWord b k hk]
  split <;> rfl

theorem laneByte_stagedWord (l : List StagedByte) (w k : Nat) (hk : k < 4) :
    laneByte (stagedWord l w) k = (l.getD (4 * w + k) .clear).value :=
  laneByte_four (fun k => (l.getD (4 * w + k) .clear).value) k hk

theorem stagedWord_lane_toNat (l : List StagedByte) (w k : Nat) (b : StagedByte) (hk : k < 4)
    (hb : l[4 * w + k]? = some b) : (stagedWord l w).toNat / 2 ^ (8 * k) % 256 = b.value.toNat := by
  have hlane := laneByte_toNat (stagedWord l w) k
  rw [laneByte_stagedWord l w k hk, List.getD_eq_getElem?_getD, hb] at hlane
  exact hlane.symm

/-- The four fields of a word by its bytes. -/
theorem commandOf_lanes (x : Word) :
    commandOf x =
      { kind := laneByte x 0, mask := laneByte x 1, tag := (laneByte x 2).extractLsb' 0 4
        arg := laneByte x 3 ++ (laneByte x 2).extractLsb' 4 4 } := by
  have hx := x.isLt
  simp only [commandOf, Command.mk.injEq]
  refine ⟨rfl, rfl, ?_, ?_⟩ <;> apply BitVec.eq_of_toNat_eq
  · simp only [extract_toNat, BitVec.extractLsb'_toNat, laneByte_toNat, Nat.shiftRight_eq_div_pow]
    omega
  · simp only [extract_toNat, toNat_append_add, BitVec.extractLsb'_toNat, laneByte_toNat, Nat.shiftRight_eq_div_pow]
    omega

theorem seen_command (code : BitVec 8) (w : CommandWrite) :
    commandOf (seenWord (commandBeat code w)) =
      { kind := if w.lanes.getLsbD 0 = true then code else 0
        mask := if w.lanes.getLsbD 1 = true then w.mask else 0
        tag := if w.lanes.getLsbD 2 = true then w.tag else 0
        arg := (if w.lanes.getLsbD 3 = true then w.arg.extractLsb' 4 8 else 0) ++
          (if w.lanes.getLsbD 2 = true then w.arg.extractLsb' 0 4 else 0) } := by
  obtain ⟨h0, h1, h2, h3⟩ := commandWord_lanes code w
  have htag : (w.arg.extractLsb' 0 4 ++ w.tag).extractLsb' 0 4 = w.tag := by
    apply BitVec.eq_of_toNat_eq
    simp only [BitVec.extractLsb'_toNat, toNat_append_add, Nat.shiftRight_eq_div_pow]
    omega
  have harg : (w.arg.extractLsb' 0 4 ++ w.tag).extractLsb' 4 4 = w.arg.extractLsb' 0 4 := by
    apply BitVec.eq_of_toNat_eq
    simp only [BitVec.extractLsb'_toNat, toNat_append_add, Nat.shiftRight_eq_div_pow]
    omega
  have hdata : (commandBeat code w).data = commandWord code w := rfl
  rw [commandOf_lanes]
  simp only [laneByte_seenWord _ 0 (by omega), laneByte_seenWord _ 1 (by omega), laneByte_seenWord _ 2 (by omega),
    laneByte_seenWord _ 3 (by omega), commandBeat_lanes, hdata, h0, h1, h2, h3]
  by_cases hl : w.lanes.getLsbD 2 = true
  · simp only [if_pos hl, htag, harg]
  · simp only [if_neg hl]
    rfl

/-- Settles O12: records, headers and points, the command word, and the bytes of words and stagings. -/
theorem receivedWordLayouts : Obligations.ReceivedWordLayouts := by
  unfold Obligations.ReceivedWordLayouts
  exact ⟨demandRecord_fields, urgentRecord_fields, selectOfCode_eq, header_fields, mapPoint_eq,
    fun code w => ⟨rfl, rfl, commandWord_toNat code w⟩, commandOf_fields,
    fun b k hk => ⟨laneByte_toNat b.data k, seenWord_lane_toNat b k hk⟩, seen_command, stagedWord_lane_toNat,
    fun _ _ => rfl, fun _ _ => rfl⟩

end Sys2Proof.Machine
end

section
/-! Slot Capture at the demand slots, and what the slots and the Map Store share: staging, the checks of a record, busy
slots, refusals, takes, and the place of a new entry. -/

namespace Sys2Proof.Machine

/-! ### A unit written back as it stands -/

theorem setDemand_same (p : Part) (i : SlotId) : p.setDemand i (p.demandSlot i) = p := by
  simp [Part.setDemand, Part.demandSlot]

theorem setUrgent_same (p : Part) (c : CornerId) : p.setUrgent c (p.urgentSlot c) = p := by
  simp [Part.setUrgent, Part.urgentSlot]

theorem setMap_same (p : Part) (v : ValveId) : p.setMap v (p.map v) = p := by
  simp [Part.setMap, Part.map]

/-! ### Staging -/

theorem stageLanes_get {n : Nat} (old : Vector StagedByte n) (w : Nat) (b : Beat) (bad : Lanes) (k : Fin n) :
    (stageLanes old w b bad)[k] =
      if k.val / 4 = w ∧ b.lanes.getLsbD (k.val % 4) = true then
        ⟨laneByte b.data (k.val % 4), true, bad.getLsbD (k.val % 4)⟩
      else old[k] := by
  simp [stageLanes]

theorem stageLanes_none {n : Nat} (old : Vector StagedByte n) (w : Nat) {b : Beat} (h : b.lanes = 0) (bad : Lanes) :
    stageLanes old w b bad = old := by
  ext k hk
  simp [stageLanes, h]

/-- Staging at a slot that takes it: with no lane enabled the slot stands. -/
theorem demandSlot_stage_open {d : DemandSlot} (h : d.state = .free ∨ d.state = .filling) (w : Nat) (b : Beat)
    (bad : Lanes) :
    d.stage w b bad =
      { d with state := if b.lanes = 0 then d.state else .filling, staging := stageLanes d.staging w b bad } := by
  obtain ⟨state, bytes, closing, take, final⟩ := d
  rcases h with rfl | rfl <;> by_cases hl : b.lanes = 0
  · simp only [DemandSlot.stage, if_pos hl, stageLanes_none bytes w hl]
  · simp only [DemandSlot.stage, if_neg hl]
  · simp only [DemandSlot.stage, if_pos hl]
  · simp only [DemandSlot.stage, if_neg hl]

theorem demandSlot_stage_busy {d : DemandSlot} (hfree : d.state ≠ .free) (hfill : d.state ≠ .filling) (w : Nat)
    (b : Beat) (bad : Lanes) : d.stage w b bad = d := by
  unfold DemandSlot.stage
  cases hs : d.state <;> first | exact absurd hs hfree | exact absurd hs hfill | rfl

theorem urgentSlot_stage_open {d : UrgentSlot} (h : d.state = .free ∨ d.state = .filling) (w : Nat) (b : Beat)
    (bad : Lanes) :
    d.stage w b bad =
      { d with state := if b.lanes = 0 then d.state else .filling, staging := stageLanes d.staging w b bad } := by
  obtain ⟨state, bytes, closing, cancel, take, final⟩ := d
  rcases h with rfl | rfl <;> by_cases hl : b.lanes = 0
  · simp only [UrgentSlot.stage, if_pos hl, stageLanes_none bytes w hl]
  · simp only [UrgentSlot.stage, if_neg hl]
  · simp only [UrgentSlot.stage, if_pos hl]
  · simp only [UrgentSlot.stage, if_neg hl]

theorem urgentSlot_stage_active {d : UrgentSlot} (h : d.state = .active) (w : Nat) (b : Beat) (bad : Lanes) :
    d.stage w b bad = { d with cancel := stageLanes d.cancel w b bad } := by
  unfold UrgentSlot.stage
  rw [h]

theorem urgentSlot_stage_owed {d : UrgentSlot} (h : d.state = .owed) (w : Nat) (b : Beat) (bad : Lanes) :
    d.stage w b bad = d := by
  unfold UrgentSlot.stage
  rw [h]

/-- The staging and the header that a point write finds: a validated map is discarded first. -/
def MapEntry.opened (m : MapEntry) : Vector StagedByte 64 × Option ClosingWord :=
  if m.state = .empty ∨ m.state = .filling then (m.staging, m.header) else (Vector.replicate 64 .clear, none)

theorem mapEntry_stage {b : Beat} (h : b.lanes ≠ 0) (m : MapEntry) (w : Nat) (bad : Lanes) :
    m.stage w b bad =
      { m with state := .filling, staging := stageLanes m.opened.1 w b bad, header := m.opened.2 } := by
  unfold MapEntry.stage MapEntry.opened
  rw [if_neg h]
  cases m.state <;> simp

theorem opened_staging_get (m : MapEntry) (k : Fin 64) :
    m.opened.1[k] = if m.state = .empty ∨ m.state = .filling then m.staging[k] else ⟨0, false, false⟩ := by
  unfold MapEntry.opened
  split <;> simp [StagedByte.clear]

theorem opened_header (m : MapEntry) :
    m.opened.2 = if m.state = .empty ∨ m.state = .filling then m.header else none := by
  unfold MapEntry.opened
  split <;> rfl

/-- Settles O13: demand slots, urgent slots, Map Blocks, each by the state of what stages. -/
theorem staging : Obligations.Staging := by
  unfold Obligations.Staging
  refine ⟨fun i w b s => ⟨fun h => ?_, fun hfree hfill => ?_⟩,
    fun c w b s => ⟨fun h => ?_, fun h => ?_, fun h => ?_⟩, fun v q b s => ⟨fun h => ?_, fun h => ?_⟩⟩
  · let d := (s.arrived (demandOffset i w.val) b).part.demandSlot i
    refine ⟨{ d with
      state := if b.lanes = 0 then d.state else .filling, staging := stageLanes d.staging w.val b (s.badOf b) }, ?_, rfl,
      stageLanes_get d.staging w.val b (s.badOf b), rfl, rfl, rfl⟩
    rw [exec_demandSlotWrite, Part.stageDemand, demandSlot_stage_open h]
  · rw [exec_demandSlotWrite, Part.stageDemand, demandSlot_stage_busy hfree hfill, setDemand_same]
  · refine ⟨_, stageLanes_get _ w.val b (s.badOf b), ?_⟩
    rw [exec_urgentSlotWrite, Part.stageUrgent, urgentSlot_stage_open h]
  · refine ⟨_, stageLanes_get _ w.val b (s.badOf b), ?_⟩
    rw [exec_urgentSlotWrite, Part.stageUrgent, urgentSlot_stage_active h]
  · rw [exec_urgentSlotWrite, Part.stageUrgent, urgentSlot_stage_owed h, setUrgent_same]
  · rw [exec_mapPointWrite, Part.writePoint, if_pos h]
  · let m := (s.arrived (mapOffset v (q.val + 2)) b).part.promotionsFirst.map v
    refine ⟨stageLanes m.opened.1 q.val b (s.badOf b), fun k => ?_, ?_⟩
    · rw [stageLanes_get, opened_staging_get]
    · rw [exec_mapPointWrite, Part.writePoint, if_neg h, Part.stageMap, mapEntry_stage h, opened_header]

/-! ### Busy slots -/

theorem closeDemand_busy {p : Part} {i : SlotId} (hfree : (p.demandSlot i).state ≠ .free)
    (hfill : (p.demandSlot i).state ≠ .filling) (cw : ClosingWord) :
    p.closeDemand i cw = p.hand (.slotBusy i (p.demandSlot i).state) p.timer.frame := by
  unfold Part.closeDemand
  cases hs : (p.demandSlot i).state <;> first | exact absurd hs hfree | exact absurd hs hfill | rfl

theorem closeUrgent_not_cancel {p : Part} {c : CornerId} {cw : ClosingWord} {h : Hold} {x : CancelFailure}
    (hs : (p.urgentSlot c).state = .active) (hh : (p.corner c).hold = some h)
    (hx : cancelFailure (p.urgentSlot c).cancel.toList cw c h = some x) :
    p.closeUrgent c cw = p.hand (.urgentBusy c .active (some x)) (p.corner c).frame := by
  simp only [Part.closeUrgent, hs, Part.closeActive, hh, hx]

theorem closeUrgent_owed {p : Part} {c : CornerId} (hs : (p.urgentSlot c).state = .owed) (cw : ClosingWord) :
    p.closeUrgent c cw = p.hand (.urgentBusy c .owed none) (p.corner c).frame := by
  simp only [Part.closeUrgent, hs]

/-- Settles O15: the three ways a closing write finds its slot busy. -/
theorem closingWriteToBusySlot : Obligations.ClosingWriteToBusySlot := by
  unfold Obligations.ClosingWriteToBusySlot
  refine ⟨fun i data parity s hfree hfill => ?_, fun c data parity s => ⟨fun h x hs hh hx => ?_, fun hs => ?_⟩⟩
  · rw [exec_demandClosingWrite, closeDemand_busy hfree hfill]
    rfl
  · rw [exec_urgentClosingWrite, closeUrgent_not_cancel hs hh hx]
    rfl
  · rw [exec_urgentClosingWrite, closeUrgent_owed hs]
    rfl

/-! ### The checks of a record on its own bytes -/

section Flaws
variable (staging : List StagedByte)

theorem any_not_staged_iff : (staging.any fun b => !b.staged) = true ↔ ∃ b ∈ staging, b.staged = false := by
  simp

theorem any_poisoned_iff : (staging.any fun b => b.poisoned) = true ↔ ∃ b ∈ staging, b.poisoned = true := by
  simp

theorem closingCheck_toNat (data : Word) : (closingCheck data).toNat = data.toNat % 65536 := by
  rw [closingCheck, extract_toNat]
  omega

theorem closingEcho_eq (data : Word) : closingEcho data = data.toNat / 2 ^ 16 % 128 := field_eq data 16 7

theorem wrongCheck_iff (l : List Byte) (data : Word) :
    checkCode l ≠ closingCheck data ↔ (checkCode l).toNat ≠ data.toNat % 65536 := by
  rw [← closingCheck_toNat, ne_eq, ne_eq, BitVec.toNat_inj]

/-- The first of four conditions that holds names the flaw. -/
theorem firstFlaw_iff (a b c d : Prop) [Decidable a] [Decidable b] [Decidable c] [Decidable d] :
    let flaw := if a then some RecordFlaw.incomplete else if b then some .poisoned else if c then some .check
      else if d then some .slotMismatch else none
    (flaw = some .incomplete ↔ a) ∧ (flaw = some .poisoned ↔ ¬a ∧ b) ∧ (flaw = some .check ↔ ¬a ∧ ¬b ∧ c) ∧
      (flaw = some .slotMismatch ↔ ¬a ∧ ¬b ∧ ¬c ∧ d) ∧ (flaw = none ↔ ¬a ∧ ¬b ∧ ¬c ∧ ¬d) := by
  by_cases ha : a
  · simp [ha]
  by_cases hb : b
  · simp [ha, hb]
  by_cases hc : c
  · simp [ha, hb, hc]
  by_cases hd : d <;> simp [ha, hb, hc, hd]

theorem firmnessInRange_iff (sel : Option ValveSelect) (compression rebound : Nat) :
    firmnessInRange sel compression rebound = true ↔
      (sel = some .compression ∧ compression ≤ 1000) ∨ (sel = some .rebound ∧ rebound ≤ 1000) ∨
        (sel = some .both ∧ compression ≤ 1000 ∧ rebound ≤ 1000) := by
  unfold firmnessInRange
  rcases sel with _ | _ | _ | _ <;> simp [ValveSelect.hasCompression, ValveSelect.hasRebound]

end Flaws

/-! ### The checks at the corner -/

theorem isPast_iff (f n : Frame) : isPast f n = true ↔ ahead f n = 0 ∨ 32768 ≤ ahead f n := by
  simp only [isPast, Bool.or_eq_true, beq_iff_eq, decide_eq_true_eq]

theorem sequenceStale_iff (s l : Sequence) : sequenceStale s l = true ↔ ahead s l = 0 ∨ 32768 ≤ ahead s l := by
  simp only [sequenceStale, Bool.or_eq_true, beq_iff_eq, decide_eq_true_eq]

/-- The record's sequence is not one to take: not ahead of the last taken one, or pending already (R11, R27). -/
def Corner.sequenceTaken (k : Corner) (s : Sequence) : Prop :=
  (∃ l, k.lastTaken = some l ∧ (ahead s l = 0 ∨ 32768 ≤ ahead s l)) ∨ ∃ e ∈ k.list, e.sequence = s

theorem sequenceTaken_iff (k : Corner) (s : Sequence) :
    k.sequenceTaken s ↔
      (k.lastTaken.any fun l => sequenceStale s l) = true ∨ (k.list.any fun e => e.sequence == s) = true := by
  simp only [Corner.sequenceTaken, Option.any_eq_true, sequenceStale_iff, List.any_eq_true, beq_iff_eq]

section CornerChecks
variable {k : Corner} {r : DemandRecord}

theorem refusal_outside_run (h : k.state ≠ .run) : k.refusal r = k.state.refusal := if_pos h

/-- The corner's own checks, one after another, at a corner in RUN (R11). -/
theorem refusal_in_run (h : k.state = .run) :
    (k.sequenceTaken r.sequence → k.refusal r = some .sequence) ∧
    (¬k.sequenceTaken r.sequence → r.timing = .atFrame ∧ isPast r.target k.frame = true → k.refusal r = some .stale) ∧
    (¬k.sequenceTaken r.sequence → ¬(r.timing = .atFrame ∧ isPast r.target k.frame = true) →
      r.timing = .atFrame ∧ 65 ≤ ahead r.target k.frame → k.refusal r = some .tooEarly) ∧
    (¬k.sequenceTaken r.sequence → ¬(r.timing = .atFrame ∧ isPast r.target k.frame = true) →
      ¬(r.timing = .atFrame ∧ 65 ≤ ahead r.target k.frame) →
        k.refusal r = if 8 ≤ k.list.length then some .queueFull else none) := by
  have hrun : ¬k.state ≠ .run := fun hne => hne h
  simp only [sequenceTaken_iff]
  unfold Corner.refusal
  rw [if_neg hrun]
  exact ⟨fun h1 => if_pos h1, fun h1 h2 => by rw [if_neg h1, if_pos h2],
    fun h1 h2 h3 => by rw [if_neg h1, if_neg h2, if_pos h3], fun h1 h2 h3 => by rw [if_neg h1, if_neg h2, if_neg h3]⟩

end CornerChecks

/-! ### The check code -/

/-- One data bit of the check code, as R9 words it. -/
def checkBit (r : BitVec 16) (b : Bool) : BitVec 16 :=
  if (r.getLsbD 15 ^^ b) = true then (r <<< 1) ^^^ 0x1021 else r <<< 1

theorem crcBit_eq_checkBit (r : BitVec 16) (b : Bool) : crcBit r b = checkBit r b := by
  unfold crcBit checkBit
  rw [BitVec.msb_eq_getLsbD_last]
  rfl

theorem checkCode_append (l : List Byte) (b : Byte) :
    checkCode (l ++ [b]) =
      [b.getLsbD 7, b.getLsbD 6, b.getLsbD 5, b.getLsbD 4, b.getLsbD 3, b.getLsbD 2, b.getLsbD 1,
        b.getLsbD 0].foldl checkBit (checkCode l) := by
  unfold checkCode
  rw [List.foldl_append]
  simp only [List.foldl_cons, List.foldl_nil, crcByte, crcBit_eq_checkBit]

/-- Settles O16: each checker's definition as conditions, whose order the statement spells out. -/
theorem recordChecksInOrder : Obligations.RecordChecksInOrder := by
  unfold Obligations.RecordChecksInOrder
  refine ⟨fun staging cw n => ?_, fun k r => ?_, fun staging cw c h => ?_, rfl, rfl, checkCode_append,
    Tests.test_check_code_of_the_digits⟩
  · intro incomplete poisoned wrongCheck wrongEcho
    have hincomplete : incomplete ↔ (staging.any fun b => !b.staged) = true := (any_not_staged_iff staging).symm
    have hpoisoned : poisoned ↔ (staging.any fun b => b.poisoned) = true ∨ cw.poisoned ≠ 0 :=
      or_congr (any_poisoned_iff staging).symm Iff.rfl
    have hcheck : wrongCheck ↔ checkCode (staging.map fun b => b.value) ≠ closingCheck cw.data :=
      (wrongCheck_iff _ _).symm
    have hecho : wrongEcho ↔ closingEcho cw.data ≠ n := by rw [closingEcho_eq]
    obtain ⟨h1, h2, h3, h4, h5⟩ := firstFlaw_iff ((staging.any fun b => !b.staged) = true)
      ((staging.any fun b => b.poisoned) = true ∨ cw.poisoned ≠ 0)
      (checkCode (staging.map fun b => b.value) ≠ closingCheck cw.data) (closingEcho cw.data ≠ n)
    rw [hincomplete, hpoisoned, hcheck, hecho]
    exact ⟨h1, h2, h3, h4, h5, firmnessInRange_iff⟩
  · intro d sequence stale early full
    have hsequence : sequence ↔ k.sequenceTaken r.sequence := Iff.rfl
    have hstale : stale ↔ r.timing = .atFrame ∧ isPast r.target k.frame = true :=
      and_congr_right fun _ => (isPast_iff r.target k.frame).symm
    cases hk : k.state
    case idle => rw [refusal_outside_run (by rw [hk]; decide), hk]; rfl
    case limp => rw [refusal_outside_run (by rw [hk]; decide), hk]; rfl
    case safe => rw [refusal_outside_run (by rw [hk]; decide), hk]; rfl
    case run =>
      obtain ⟨htaken, hpast, hearly, hfull⟩ := refusal_in_run (r := r) hk
      rw [if_neg (by decide), if_neg (by decide), if_neg (by decide)]
      by_cases h1 : sequence
      · rw [if_pos h1, htaken h1]
      by_cases h2 : stale
      · rw [if_neg h1, if_pos h2, hpast h1 (hstale.1 h2)]
      rw [if_neg h1, if_neg h2]
      by_cases h3 : r.timing = .atFrame ∧ 65 ≤ ahead r.target k.frame
      · have hnear : ¬32768 ≤ d := fun h => h2 ⟨h3.1, Or.inr h⟩
        rw [if_pos ⟨h3.1, h3.2, by omega⟩, hearly h1 (fun h => h2 (hstale.2 h)) h3]
      · rw [if_neg fun h => h3 ⟨h.1, h.2.1⟩, hfull h1 (fun h => h2 (hstale.2 h)) h3]
  · unfold cancelFailure
    cases recordFlaw staging cw (64 + c.val) with
    | none => rfl
    | some flaw => cases flaw <;> rfl

/-! ### Refusals and takes -/

/-- A record that fails a check: its reason, and the frame that its refusal names (R10, R11). -/
def refusesDemand (p : Part) (i : SlotId) (cw : ClosingWord) (reason : RefusalReason) (frame : Frame) : Prop :=
  let d := p.demandSlot i
  let r := d.record cw.data
  let k := p.corner r.corner
  (∃ flaw, recordFlaw d.staging.toList cw i.val = some flaw ∧ reason = flaw.refusal ∧ frame = p.timer.frame) ∨
    (recordFlaw d.staging.toList cw i.val = none ∧ firmnessInRange r.select r.compression r.rebound = false ∧
      reason = .range ∧ frame = p.timer.frame) ∨
    (recordFlaw d.staging.toList cw i.val = none ∧ firmnessInRange r.select r.compression r.rebound = true ∧
      k.refusal r = some reason ∧ frame = k.frame)

theorem firmnessInRange_none (compression rebound : Nat) : firmnessInRange none compression rebound = false := rfl

theorem validateDemand_refused {p : Part} {i : SlotId} {cw : ClosingWord} {reason : RefusalReason} {frame : Frame}
    (h : refusesDemand p i cw reason frame) :
    p.validateDemand i cw = (p.setDemand i { p.demandSlot i with closing := some cw }).refuseDemand i reason frame := by
  unfold Part.validateDemand
  obtain ⟨flaw, hflaw, rfl, rfl⟩ | ⟨hflaw, hrange, rfl, rfl⟩ | ⟨hflaw, hrange, hcorner, rfl⟩ := h
  · simp only [hflaw]
  · simp only [hflaw, hrange, if_true]
    split <;> rfl
  · simp only [hflaw, hrange, hcorner]
    split
    next hsel => rw [hsel, firmnessInRange_none] at hrange; cases hrange
    next => rfl

/-- Settles O17. -/
theorem demandRefused : Obligations.DemandRefused := by
  unfold Obligations.DemandRefused
  intro i data parity s reason frame f d cw r k hopen hrefused
  rw [exec_demandClosingWrite, closeDemand_open hopen, validateDemand_refused hrefused, refuseDemand_captured]

theorem validateDemand_taken {p : Part} {i : SlotId} {cw : ClosingWord} {sel : ValveSelect}
    (hflaw : recordFlaw (p.demandSlot i).staging.toList cw i.val = none)
    (hsel : ((p.demandSlot i).record cw.data).select = some sel)
    (hrange : firmnessInRange (some sel) ((p.demandSlot i).record cw.data).compression
      ((p.demandSlot i).record cw.data).rebound = true)
    (hcorner : (p.corner ((p.demandSlot i).record cw.data).corner).refusal ((p.demandSlot i).record cw.data) = none) :
    p.validateDemand i cw =
      (p.setDemand i { p.demandSlot i with closing := some cw }).takeDemand i ((p.demandSlot i).record cw.data) sel := by
  simp only [Part.validateDemand, hflaw, hsel, hrange, hcorner]
  rfl

theorem entryOf_eq (i : SlotId) (r : DemandRecord) (sel : ValveSelect) (n : Frame) :
    entryOf i r sel n =
      { slot := i, select := sel, timing := r.timing, sequence := r.sequence
        target := if r.timing = .nextFrame then n + 1 else r.target
        ramp := r.ramp, compression := r.compression, rebound := r.rebound, takenAt := n } := by
  unfold entryOf
  cases r.timing <;> rfl

/-- Settles O18. -/
theorem demandTaken : Obligations.DemandTaken := by
  unfold Obligations.DemandTaken
  intro i data parity s sel f d cw r k e hopen hflaw hsel hrange hcorner
  rw [exec_demandClosingWrite, closeDemand_open hopen, validateDemand_taken hflaw hsel (hsel ▸ hrange) hcorner,
    takeDemand_captured, entryOf_eq]

/-! ### The place of a new entry -/

/-- Settles O19, by induction on the list: behind the head while the head is not farther, else before everything. -/
theorem newEntryPlace : Obligations.NewEntryPlace := by
  unfold Obligations.NewEntryPlace
  intro n e l
  induction l with
  | nil => intro _; rfl
  | cons x l ih =>
    intro hsorted
    obtain ⟨hx, hl⟩ := List.pairwise_cons.1 hsorted
    by_cases hxe : ahead x.target n ≤ ahead e.target n
    · have hnot : ¬ahead e.target n < ahead x.target n := by omega
      rw [insertEntry, if_pos hxe, ih hl]
      simp [hxe, hnot]
    · have hfar : ∀ y ∈ x :: l, ahead e.target n < ahead y.target n := by
        intro y hy
        rcases List.mem_cons.1 hy with rfl | hy
        · omega
        · have := hx y hy
          omega
      have hnone : (x :: l).filter (fun y => decide (ahead y.target n ≤ ahead e.target n)) = [] :=
        List.filter_eq_nil_iff.2 fun y hy => by
          have := hfar y hy
          simpa using this
      have hall : (x :: l).filter (fun y => decide (ahead e.target n < ahead y.target n)) = x :: l :=
        List.filter_eq_self.2 fun y hy => by simpa using hfar y hy
      rw [insertEntry, if_neg hxe, hnone, hall, List.nil_append]

end Sys2Proof.Machine
end

section
/-! Urgent takes and cancels, and the Map Store: the checks of a pending map and its validation. -/

namespace Sys2Proof.Machine

/-! ### An urgent take (R46, R48) -/

theorem urgentInRange_of {r : UrgentRecord} (hc : r.cancel = false) (h1 : 1 ≤ r.hold) (h2 : r.hold ≤ 250)
    (hf : firmnessInRange r.select r.compression r.rebound = true) : urgentInRange r = true := by
  simp [urgentInRange, hc, h1, h2, hf]

theorem validateUrgent_taken {p : Part} {c : CornerId} {cw : ClosingWord} {sel : ValveSelect}
    (hflaw : recordFlaw (p.urgentSlot c).staging.toList cw (64 + c.val) = none)
    (hsel : (urgentRecordOf (p.urgentSlot c).staging.toList cw.data).select = some sel)
    (hrange : urgentInRange (urgentRecordOf (p.urgentSlot c).staging.toList cw.data) = true)
    (hrun : (p.corner c).state = .run) :
    p.validateUrgent c cw =
      (p.setUrgent c { p.urgentSlot c with closing := some cw }).takeUrgent c
        (urgentRecordOf (p.urgentSlot c).staging.toList cw.data) sel := by
  simp only [Part.validateUrgent, hflaw, hsel, hrange, hrun, CornerState.refusal]
  rfl

/-- The currents at take of an urgent record (R46). -/
def Part.urgentTakeOf (p : Part) (c : CornerId) (r : UrgentRecord) (sel : ValveSelect) : UrgentTake :=
  { frame := (p.corner c).frame
    compression := if sel.hasCompression = true then p.currentAt (compressionValve c) r.compression else 0
    rebound := if sel.hasRebound = true then p.currentAt (reboundValve c) r.rebound else 0 }

/-- The part after the hold is recorded and the take is owed, before the overrides start. -/
def Part.urgentHeld (p : Part) (c : CornerId) (cw : ClosingWord) (r : UrgentRecord) (sel : ValveSelect) : Part :=
  { p with
    corners := p.corners.set c { p.corner c with hold := some ⟨r.sequence, sel, r.hold, r.release⟩, silence := 0 }
    urgent := p.urgent.set c
      { p.urgentSlot c with
        state := .active, closing := some cw, take := some (p.urgentTakeOf c r sel)
        cancel := Vector.replicate 12 ⟨0, false, false⟩ }
    engine := { p.engine with urgent := offered p.engine.urgent c } }

theorem takeUrgent_captured (p : Part) (c : CornerId) (cw : ClosingWord) (r : UrgentRecord) (sel : ValveSelect) :
    (p.setUrgent c { p.urgentSlot c with closing := some cw }).takeUrgent c r sel =
      (p.urgentHeld c cw r sel).startOverrides c sel r.compression r.rebound := by
  unfold Part.takeUrgent Part.urgentHeld
  simp [Part.setUrgent, Part.setCorner, Part.offerUrgent, Part.setEngine, Part.urgentSlot, Part.corner, StagedByte.clear]
  rfl

/-- Settles O21. -/
theorem urgentTaken : Obligations.UrgentTaken := by
  unfold Obligations.UrgentTaken
  intro c data parity s sel f d k cw r compression rebound take p1 p2 p3 hopen hflaw hsel hcancel hlow hhigh hrange hrun
  rw [exec_urgentClosingWrite, closeUrgent_open hopen,
    validateUrgent_taken hflaw hsel (urgentInRange_of hcancel hlow hhigh hrange) hrun, takeUrgent_captured]
  rfl

/-! ### A cancel (R51) -/

theorem closeUrgent_cancel {p : Part} {c : CornerId} {cw : ClosingWord} {h : Hold}
    (hs : (p.urgentSlot c).state = .active) (hh : (p.corner c).hold = some h)
    (hx : cancelFailure (p.urgentSlot c).cancel.toList cw c h = none) :
    p.closeUrgent c cw = p.cancelHold c h (urgentRecordOf (p.urgentSlot c).cancel.toList cw.data).release := by
  simp only [Part.closeUrgent, hs, Part.closeActive, hh, hx]

theorem sendEnds_eq (p : Part) (c : CornerId) (sel : ValveSelect) (e : OverrideEnd) :
    p.sendEnds c sel e =
      (let p2 : Part :=
        if sel.hasCompression = true then
          p.setChannel (compressionValve c)
            { p.channel (compressionValve c) with ends := (p.channel (compressionValve c)).ends ++ [e] }
        else p
      if sel.hasRebound = true then
        p2.setChannel (reboundValve c)
          { p.channel (reboundValve c) with ends := (p.channel (reboundValve c)).ends ++ [e] }
      else p2) := by
  cases sel <;> simp [Part.sendEnds, Part.sendOverrideEnd, ValveSelect.hasCompression, ValveSelect.hasRebound,
    channel_setChannel_ne, rebound_ne_compression]

/-- Settles O22. -/
theorem urgentCancelled : Obligations.UrgentCancelled := by
  unfold Obligations.UrgentCancelled
  intro c data parity s h f d k cw ended compression rebound p1 p2 p3 hs hh hx
  rw [exec_urgentClosingWrite, closeUrgent_cancel hs hh hx, Part.cancelHold, sendEnds_eq]
  rfl

/-! ### The checks of a pending map (R77) -/

/-- The first of six conditions that holds names the reason. -/
theorem firstMapReason_iff (a b c d e f : Prop) [Decidable a] [Decidable b] [Decidable c] [Decidable d] [Decidable e]
    [Decidable f] :
    let reason := if a then some MapReason.incomplete else if b then some .poisoned else if c then some .count
      else if d then some .check else if e then some .shape else if f then some .range else none
    (reason = some .incomplete ↔ a) ∧ (reason = some .poisoned ↔ ¬a ∧ b) ∧ (reason = some .count ↔ ¬a ∧ ¬b ∧ c) ∧
      (reason = some .check ↔ ¬a ∧ ¬b ∧ ¬c ∧ d) ∧ (reason = some .shape ↔ ¬a ∧ ¬b ∧ ¬c ∧ ¬d ∧ e) ∧
      (reason = some .range ↔ ¬a ∧ ¬b ∧ ¬c ∧ ¬d ∧ ¬e ∧ f) ∧ (reason = none ↔ ¬a ∧ ¬b ∧ ¬c ∧ ¬d ∧ ¬e ∧ ¬f) := by
  by_cases ha : a
  · simp [ha]
  by_cases hb : b
  · simp [ha, hb]
  by_cases hc : c
  · simp [ha, hb, hc]
  by_cases hd : d
  · simp [ha, hb, hc, hd]
  by_cases he : e
  · simp [ha, hb, hc, hd, he]
  by_cases hf : f <;> simp [ha, hb, hc, hd, he, hf]

theorem wellShaped_eq_true_iff (l : List MapPoint) :
    wellShaped l = true ↔
      (∃ a, l.head? = some a ∧ a.firmness = 0) ∧ (∃ z, l.getLast? = some z ∧ z.firmness = 1000) ∧
        l.IsChain fun a b => a.firmness < b.firmness := by
  unfold wellShaped
  rw [Bool.and_eq_true, Bool.and_eq_true, rising_iff_isChain, and_assoc]
  cases l.head? <;> cases l.getLast? <;> simp

theorem any_current_iff (l : List MapPoint) :
    (l.any fun q => decide (2000 < q.current)) = true ↔ ∃ q ∈ l, 2000 < q.current := by
  simp

/-- Settles O23. -/
theorem mapChecksInOrder : Obligations.MapChecksInOrder := by
  unfold Obligations.MapChecksInOrder
  intro staging cw _ p counted points incomplete poisoned wrongCount wrongCheck shaped outOfRange
  have hincomplete : incomplete ↔ (counted.any fun b => !b.staged) = true := (any_not_staged_iff counted).symm
  have hpoisoned : poisoned ↔ (counted.any fun b => b.poisoned) = true ∨ cw.poisoned ≠ 0 :=
    or_congr (any_poisoned_iff counted).symm Iff.rfl
  have hunshaped : ¬shaped ↔ wellShaped (stagedPoints staging p) = false := by
    rw [← Bool.not_eq_true, wellShaped_eq_true_iff]
    exact Iff.rfl
  have hshaped : shaped ↔ ¬wellShaped (stagedPoints staging p) = false := by rw [← hunshaped, not_not]
  have hrange : outOfRange ↔ ((stagedPoints staging p).any fun q => decide (2000 < q.current)) = true :=
    (any_current_iff _).symm
  rw [hunshaped, hincomplete, hpoisoned, hrange, hshaped]
  exact firstMapReason_iff _ _ _ _ _ _

/-! ### Validation (R76, R78, R79) -/

theorem closeMap_eq (p : Part) (v : ValveId) (cw : ClosingWord) :
    p.closeMap v cw =
      (let m := p.map v
       let reason := mapFlaw m.staging.toList cw
       let result : MapResult := ⟨reason, headerCount cw.data⟩
       { p with
         maps := p.maps.set v
           { m with state := pendingOf reason, header := some cw, result := some result }
         engine := if m.result = none then { p.engine with map := offered p.engine.map v } else p.engine
         journal := p.journal.hand (.mapResult v result) p.timer.frame }) := by
  have hisNone : (p.map v).result.isNone = true ↔ (p.map v).result = none := Option.isNone_iff_eq_none
  simp only [Part.closeMap, hisNone]
  split <;> rfl

/-- Settles O24. -/
theorem mapValidated : Obligations.MapValidated := by
  unfold Obligations.MapValidated
  intro v data parity s f p m cw reason result
  rw [exec_mapClosingWrite, Part.writeHeader, closeMap_eq]
  have hstate : pendingOf reason = match reason with | none => .valid | some r => .invalid r := by
    cases reason <;> rfl
  exact congrArg (fun st => Host.Outcome.next { f with
    part :=
      { p with
        maps := p.maps.set v { m with state := st, header := some cw, result := some result }
        engine := if m.result = none then { p.engine with map := offered p.engine.map v } else p.engine
        journal := p.journal.hand (.mapResult v result) p.timer.frame } }) hstate

end Sys2Proof.Machine
end

section
/-! Setup commands that are not dispatched, and the commands that set the part, a corner or a valve. -/

namespace Sys2Proof.Machine

/-! ### Commands that are not dispatched (R131 to R134) -/

theorem namesKind_iff (code : BitVec 8) : namesKind code = true ↔ 1 ≤ code.toNat ∧ code.toNat ≤ 25 := by
  simp [namesKind]

/-- The codes 1 to 25 are those that name a kind. -/
theorem ofCode_none_of {n : Nat} (h : ¬(1 ≤ n ∧ n ≤ 25)) : Kind.ofCode n = none := by
  have hn : n = 0 ∨ 26 ≤ n := by omega
  rcases hn with rfl | hn
  · rfl
  · unfold Kind.ofCode
    split <;> first | rfl | (exfalso; omega)

theorem ofCode_some_of {n : Nat} (h : 1 ≤ n ∧ n ≤ 25) : ∃ k, Kind.ofCode n = some k := by
  obtain ⟨h1, h2⟩ := h
  interval_cases n <;> exact ⟨_, rfl⟩

/-- Each kind's class and whether it wants one target, by its code (R134). -/
theorem ofCode_class {n : Nat} {k : Kind} (h : Kind.ofCode n = some k) :
    k.cls =
      (if n = 1 ∨ n = 2 ∨ 22 ≤ n then .global
       else if n = 3 ∨ n = 4 ∨ (10 ≤ n ∧ n ≤ 13) ∨ n = 21 then .corner
       else .valve) ∧ (k = .armTrace ↔ n = 20) := by
  have hn : 1 ≤ n ∧ n ≤ 25 := by
    by_contra hn
    rw [ofCode_none_of hn] at h
    cases h
  obtain ⟨h1, h2⟩ := hn
  interval_cases n <;> cases h <;> simp [Kind.cls]

/-- The targets of the mask among the first `n` bits. -/
def namedBits (n : Nat) (m : BitVec 8) : List Nat := (List.range n).filter fun t => m.getLsbD t

theorem targets_eq (k : Kind) (m : BitVec 8) :
    k.targets m =
      match k.cls with | .valve => namedBits 8 m | .corner => namedBits 4 m | .global => [0] := by
  unfold Kind.targets
  cases k.cls <;> rfl

theorem namedBits_eq_nil_iff (n : Nat) (m : BitVec 8) :
    namedBits n m = [] ↔ m.toNat % 2 ^ n = 0 := by
  rw [namedBits, List.filter_eq_nil_iff]
  constructor
  · intro h
    apply Nat.eq_of_testBit_eq
    intro i
    rw [Nat.testBit_mod_two_pow, Nat.zero_testBit, Bool.and_eq_false_iff, decide_eq_false_iff_not]
    by_cases hi : i < n
    · exact Or.inr (Bool.eq_false_iff.2 (h i (List.mem_range.2 hi)))
    · exact Or.inl hi
  · intro h t ht
    have hbit : (m.toNat % 2 ^ n).testBit t = false := by rw [h, Nat.zero_testBit]
    rw [Nat.testBit_mod_two_pow, decide_eq_true (List.mem_range.1 ht), Bool.true_and] at hbit
    exact Bool.eq_false_iff.1 hbit

theorem mem_namedBits {n t : Nat} {m : BitVec 8} : t ∈ namedBits n m ↔ t < n ∧ m.getLsbD t = true := by
  simp [namedBits]

theorem namedBits_nodup (n : Nat) (m : BitVec 8) : (namedBits n m).Nodup := List.nodup_range.filter _

/-- One valve is named exactly when the mask's bits are one. -/
theorem length_namedBits_one_iff (w : CommandWrite) : (namedBits 8 w.mask).length = 1 ↔ ∃ v, w.namesValve v := by
  constructor
  · intro h
    obtain ⟨t, ht⟩ := List.length_eq_one_iff.1 h
    have hmem : t ∈ namedBits 8 w.mask := by rw [ht]; exact List.mem_singleton_self t
    refine ⟨⟨t, (mem_namedBits.1 hmem).1⟩, fun u => ?_⟩
    have hu : w.mask.getLsbD u.val = true ↔ u.val = t := by
      have hsingle : u.val ∈ namedBits 8 w.mask ↔ u.val = t := by rw [ht, List.mem_singleton]
      rw [← hsingle, mem_namedBits]
      exact ⟨fun h => ⟨u.isLt, h⟩, And.right⟩
    rw [Bool.eq_iff_iff, hu, beq_iff_eq, Fin.ext_iff]
  · rintro ⟨v, hv⟩
    have htargets := targets_valve (k := .armTrace) rfl hv
    rw [targets_eq] at htargets
    exact congrArg List.length htargets

theorem namedBits_eight_eq_nil_iff (m : BitVec 8) : namedBits 8 m = [] ↔ m = 0 := by
  rw [namedBits_eq_nil_iff 8, Nat.mod_eq_of_lt m.isLt]
  exact ⟨fun h => BitVec.eq_of_toNat_eq h, fun h => by rw [h]; rfl⟩

theorem targetsOk_eq_false_iff {k : Kind} (h : k ≠ .armTrace) (m : BitVec 8) :
    k.targetsOk m = false ↔ k.targets m = [] := by
  cases k <;> first | exact absurd rfl h | simp [Kind.targetsOk]

/-- A mask that names too few targets, by the kind's code (R133, R134). -/
theorem targetsOk_of_targetless {n : Nat} {k : Kind} (hk : Kind.ofCode n = some k) (w : CommandWrite)
    (h : if n = 1 ∨ n = 2 ∨ 22 ≤ n then False
      else if n = 3 ∨ n = 4 ∨ (10 ≤ n ∧ n ≤ 13) ∨ n = 21 then w.mask.toNat % 16 = 0
      else if n = 20 then ¬∃ v, w.namesValve v
      else w.mask = 0) : k.targetsOk w.mask = false := by
  obtain ⟨hclass, harm⟩ := ofCode_class hk
  split_ifs at h hclass with hglobal hcorner htrace
  · rw [targetsOk_eq_false_iff fun e => by have := harm.1 e; omega, targets_eq, hclass]
    exact (namedBits_eq_nil_iff 4 _).2 h
  · obtain rfl := harm.2 htrace
    rw [← length_namedBits_one_iff] at h
    rw [Kind.targetsOk, targets_eq]
    exact beq_eq_false_iff_ne.2 h
  · rw [targetsOk_eq_false_iff fun e => htrace (harm.1 e), targets_eq, hclass]
    exact (namedBits_eight_eq_nil_iff _).2 h

/-! ### What a received command is refused for as a whole (R133) -/

section Whole
variable (p : Part) (cmd : Command) (lanes bad : Lanes) (order : List Nat) (later : Nat)

/-- The part with the command in hand, being judged. -/
def Part.judging : Part := p.setSetup { p.setup with state := .judging, inHand := some cmd }

theorem judgeCommand_partial (h : lanes ≠ 15) :
    p.judgeCommand cmd lanes bad order later = (p.judging cmd).refuseCommand cmd .partialWrite := if_pos h

theorem judgeCommand_parity (h : bad ≠ 0) :
    p.judgeCommand cmd 15 bad order later = (p.judging cmd).refuseCommand cmd .parity := if_pos h

theorem judgeCommand_unknown (h : Kind.ofCode cmd.kind.toNat = none) :
    p.judgeCommand cmd 15 0 order later = (p.judging cmd).refuseCommand cmd .unknownKind := by
  simp only [Part.judgeCommand, h]
  rfl

theorem judgeCommand_targetless {k : Kind} (hk : Kind.ofCode cmd.kind.toNat = some k)
    (h : k.targetsOk cmd.mask = false) :
    p.judgeCommand cmd 15 0 order later = (p.judging cmd).refuseCommand cmd .target := by
  simp only [Part.judgeCommand, hk, h]
  rfl

end Whole

/-- A received command at a FREE decoder, before it is judged. -/
theorem exec_received {c : Instr} {code : BitVec 8} {w : CommandWrite} (hc : setupRow c = some (code, w)) {s : State}
    (hl : w.lanes ≠ 0) (hf : (s.commandArrived code w).part.setup.state = .free) :
    exec c s = .next { s.commandArrived code w with
      part := (s.commandArrived code w).part.judgeCommand (commandOf (seenWord (commandBeat code w))) w.lanes
        (s.badOf (commandBeat code w)) w.order w.later } := by
  rw [exec_setupRow hc, State.setupCommand_eq]
  simp only [Part.receiveCommand, commandBeat_lanes, hl, if_false, hf, if_true]

/-- What a refusal as a whole leaves (R133, R137). -/
theorem refuseCommand_eq (p : Part) (cmd : Command) (reason : ReplyReason) :
    p.refuseCommand cmd reason = p.owing [] ⟨cmd.kind, cmd.tag, .refused, 0, some reason⟩ := rfl

/-- Settles O27: the three ways a command word is not dispatched. -/
theorem commandRefusedWhole : Obligations.CommandRefusedWhole := by
  unfold Obligations.CommandRefusedWhole
  refine ⟨namesKind_iff, fun c code w s hc => ⟨fun hl => ?_, fun h hl hbusy hh => ?_⟩, ?_⟩
  · rw [exec_setupRow hc, State.setupCommand_eq]
    simp only [Part.receiveCommand, commandBeat_lanes, hl, if_true]
  · rw [exec_setupRow hc, State.setupCommand_eq]
    simp only [Part.receiveCommand, commandBeat_lanes, hl, if_false, hbusy, Part.overrun, hh]
    rfl
  · intro c code w s reason hc hl f seen n bad targetless hf hcase
    rw [exec_received hc hl hf]
    rcases hcase with ⟨hpartial, rfl⟩ | ⟨hfull, hbad, rfl⟩ | ⟨hfull, hgood, hunknown, rfl⟩ |
      ⟨hfull, hgood, hknown, htargetless, rfl⟩
    · rw [judgeCommand_partial _ _ _ _ _ _ hpartial]
      rfl
    · rw [hfull, judgeCommand_parity _ _ _ _ _ hbad]
      rfl
    · have hseen : seen.kind = code := by rw [show seen = _ from commandOf_received hfull]
      have hnone : Kind.ofCode seen.kind.toNat = none := by
        rw [hseen]
        refine ofCode_none_of fun h => ?_
        rw [(namesKind_iff code).2 h] at hunknown
        cases hunknown
      rw [hfull, not_not.1 hgood, judgeCommand_unknown _ _ _ _ hnone]
      rfl
    · have hseen : seen = ⟨code, w.mask, w.tag, w.arg⟩ := commandOf_received hfull
      obtain ⟨k, hk⟩ := ofCode_some_of ((namesKind_iff code).1 hknown)
      have hok := targetsOk_of_targetless hk w htargetless
      rw [hfull, not_not.1 hgood, judgeCommand_targetless (k := k) _ seen _ _ (by rw [hseen]; exact hk)
        (by rw [hseen]; exact hok)]
      rfl

end Sys2Proof.Machine
end

section
/-! Setup commands with one target: the settings of the part, of a corner and of a valve. -/

namespace Sys2Proof.Machine

/-! ### A target judged -/

/-- A judgement as the statements word it: turned away for a reason, or taken with the part `q` made. -/
def judgedAs (p : Part) (x : Option ReplyReason) (q : Part) : Judged :=
  match x with
  | some r => (p, some r)
  | none => (q, none)

theorem judgedAs_none (p q : Part) : judgedAs p none q = (q, none) := rfl

theorem judgedAs_some (p q : Part) (r : ReplyReason) : judgedAs p (some r) q = (p, some r) := rfl

theorem judgedAs_ite (p q : Part) (c : Prop) [Decidable c] (r : ReplyReason) (x : Option ReplyReason) :
    judgedAs p (if c then some r else x) q = if c then (p, some r) else judgedAs p x q := by
  split <;> rfl

section One
variable {c : Instr} {code : BitVec 8} {w : CommandWrite} {s : State} {k : Kind} {x : Option ReplyReason} {q : Part}

/-- A command whose one target reaches its owner within the write's own step. -/
theorem exec_judgedAs {t : Nat} (hc : setupRow c = some (code, w)) (hr : s.hears code w)
    (hn : k.atOnce 1 w.later = 1) (hk : Kind.ofCode code.toNat = some k) (ht : k.targets w.mask = [t]) (hlt : t < 8)
    (hj : (s.met code w).judgeTarget k w.arg.toNat w.order t = judgedAs (s.met code w) x q) :
    exec c s = .next (s.judged code w t (if k.cls = .global then 0 else targetBit t) x q) := by
  rw [exec_one hc hr hk ht hlt hn, hj]
  cases x <;> simp [judgedAs, State.judged, State.taken, State.turnedAway]

theorem exec_judged_valve {v : ValveId} (hc : setupRow c = some (code, w)) (hr : s.receives code w)
    (hk : Kind.ofCode code.toNat = some k) (hcls : k.cls = .valve) (hv : w.namesValve v)
    (hj : (s.met code w).judgeTarget k w.arg.toNat w.order v.val = judgedAs (s.met code w) x q) :
    exec c s = .next (s.judged code w v.val (targetBit v.val) x q) := by
  rw [exec_judgedAs hc hr.1 (atOnce_now hr.2) hk (targets_valve hcls hv) v.isLt hj, hcls]
  rfl

theorem exec_judged_corner {d : CornerId} (hc : setupRow c = some (code, w)) (hr : s.receives code w)
    (hk : Kind.ofCode code.toNat = some k) (hcls : k.cls = .corner) (hd : w.namesCorner d)
    (hj : (s.met code w).judgeTarget k w.arg.toNat w.order d.val = judgedAs (s.met code w) x q) :
    exec c s = .next (s.judged code w d.val (targetBit d.val) x q) := by
  rw [exec_judgedAs hc hr.1 (atOnce_now hr.2) hk (targets_corner hcls hd) (by omega) hj, hcls]
  rfl

theorem exec_judged_global (hc : setupRow c = some (code, w)) (hr : s.hears code w) (hn : k.atOnce 1 w.later = 1)
    (hk : Kind.ofCode code.toNat = some k) (hcls : k.cls = .global)
    (hj : (s.met code w).judgeTarget k w.arg.toNat w.order 0 = judgedAs (s.met code w) x q) :
    exec c s = .next (s.judged code w 0 0 x q) := by
  rw [exec_judgedAs hc hr hn hk (targets_global hcls w.mask) (by omega) hj, if_pos hcls]

end One

/-! ### The part's settings (R21, R67, R138) -/

section Global
variable (p : Part) (a : Nat) (order : List Nat)

theorem judgeTarget_framePeriod :
    p.judgeTarget .framePeriod a order 0 =
      judgedAs p (if 14 < a then some .range else if p.timer.running = true then some .framesRunning else none)
        { p with timer := { p.timer with period := a } } := by
  simp only [Part.judgeTarget, Kind.admits, Part.judgeOwner, Part.judgeFramePeriod, judgedAs_ite, judgedAs_none,
    decide_eq_true_eq]
  split_ifs <;> first | rfl | omega

theorem judgeTarget_startFrames :
    p.judgeTarget .startFrames a order 0 =
      judgedAs p (if p.timer.running = true then some .framesRunning else none)
        { p with timer := { p.timer with running := true } } := by
  simp only [Part.judgeTarget, Kind.admits, Part.judgeOwner, Part.judgeStartFrames, judgedAs_ite, judgedAs_none]
  rfl

theorem beq_one_eq_decide : (a == 1) = decide (a = 1) := rfl

theorem judgeTarget_axlePairing :
    p.judgeTarget .axlePairing a order 0 =
      judgedAs p (if 1 < a then some .range else none) { p with pairing := decide (a = 1) } := by
  simp only [Part.judgeTarget, Kind.admits, Part.judgeOwner, Part.judgeAxlePairing, judgedAs_ite, judgedAs_none,
    decide_eq_true_eq, beq_one_eq_decide]
  split_ifs <;> first | rfl | omega

theorem readyModeOf_eq :
    readyModeOf a = if a = 0 then .all else if a = 1 then .any else if a = 2 then .front else .rear := by
  rcases a with _ | _ | _ | a <;> simp [readyModeOf]

theorem readyOutput_readyModeOf (r : Vector Bool 4) :
    readyOutput (readyModeOf a) r =
      if a = 0 then r[0] && r[1] && r[2] && r[3] else if a = 1 then r[0] || r[1] || r[2] || r[3]
      else if a = 2 then r[0] && r[1] else r[2] && r[3] := by
  rcases a with _ | _ | _ | a <;> simp [readyModeOf, readyOutput]

theorem judgeTarget_readyMode :
    p.judgeTarget .readyMode a order 0 =
      judgedAs p (if 3 < a then some .range else none)
        { p with
          setup := { p.setup with readyMode := readyModeOf a }
          lines := { p.lines with mode := readyModeOf a, ready := readyOutput (readyModeOf a) p.lines.reported } } := by
  simp only [Part.judgeTarget, Kind.admits, Part.judgeOwner, Part.judgeReadyMode, judgedAs_ite, judgedAs_none,
    decide_eq_true_eq]
  split_ifs <;> first | rfl | omega

theorem judgeTarget_attnThreshold :
    p.judgeTarget .attnThreshold a order 0 =
      judgedAs p (if a = 0 ∨ 127 < a then some .range else none)
        { p with
          setup := { p.setup with attnThreshold := a }
          journal :=
            { p.journal with
              threshold := a
              attn := decide (a ≤ (p.journal.write - p.journal.read).toNat) || p.journal.alarm.isSome } } := by
  simp only [Part.judgeTarget, Kind.admits, Part.judgeOwner, Part.judgeAttnThreshold, judgedAs_ite, judgedAs_none,
    decide_eq_true_eq]
  split_ifs <;> first | rfl | omega

end Global

/-- Settles O29. -/
theorem partSettings : Obligations.PartSettings := by
  unfold Obligations.PartSettings
  intro w s
  refine ⟨fun hr => ?_, fun hr => ?_, fun hr => ?_, fun hr => ?_, fun hr => ?_⟩
  · exact exec_judged_global rfl hr.1 (atOnce_now hr.2) rfl rfl (judgeTarget_framePeriod _ _ _)
  · exact exec_judged_global rfl hr.1 (atOnce_now hr.2) rfl rfl (judgeTarget_startFrames _ _ _)
  · exact exec_judged_global rfl hr.1 (atOnce_now hr.2) rfl rfl (judgeTarget_axlePairing _ _ _)
  · intro p mode r
    rw [show mode = readyModeOf w.arg.toNat from (readyModeOf_eq _).symm, ← readyOutput_readyModeOf]
    exact exec_judged_global rfl hr (atOnce_readyMode _ _) rfl rfl (judgeTarget_readyMode _ _ _)
  · exact exec_judged_global rfl hr (atOnce_attnThreshold _ _) rfl rfl (judgeTarget_attnThreshold _ _ _)

/-! ### A corner's settings (R32, R62, R63, R70) -/

section Corner
variable (p : Part) (a : Nat) (order : List Nat) (c : CornerId)

theorem judgeTarget_limpFirmness :
    p.judgeTarget .limpFirmness a order c.val =
      judgedAs p (if 1000 < a then some .range else none)
        (let p1 := p.setCorner c { p.corner c with limpFirmness := a }
         if (p.corner c).state = .idle ∨ (p.corner c).state = .limp then p1.limpRamped c ((p.corner c).frame + 1)
         else p1) := by
  simp only [Part.judgeTarget, Kind.admits, Part.judgeOwner, Part.judgeLimpFirmness, judgedAs_ite, judgedAs_none,
    decide_eq_true_eq, cornerAt_val, sendLimpRamp_eq, Part.nextFrame, corner_setCorner_self]
  split_ifs <;> first | rfl | omega

theorem judgeTarget_limpRamp :
    p.judgeTarget .limpRamp a order c.val =
      judgedAs p (if 255 < a then some .range else none) (p.setCorner c { p.corner c with limpRamp := a }) := by
  simp only [Part.judgeTarget, Kind.admits, Part.judgeOwner, Part.judgeLimpRamp, judgedAs_ite, judgedAs_none,
    decide_eq_true_eq, cornerAt_val]
  split_ifs <;> first | rfl | omega

theorem judgeTarget_silenceLimit :
    p.judgeTarget .silenceLimit a order c.val =
      judgedAs p (if a < 2 ∨ 255 < a then some .range else none)
        (p.setCorner c { p.corner c with silenceLimit := a }) := by
  simp only [Part.judgeTarget, Kind.admits, Part.judgeOwner, Part.judgeSilenceLimit, judgedAs_ite, judgedAs_none,
    decide_eq_true_eq, cornerAt_val]
  split_ifs <;> first | rfl | omega

theorem judgeTarget_watermarks :
    p.judgeTarget .watermarks a order c.val =
      judgedAs p (if 255 < a ∨ a / 16 ≤ a % 16 ∨ 8 < a / 16 then some .range else none)
        (p.setCorner c { p.corner c with lowMark := a % 16, highMark := a / 16 }) := by
  simp only [Part.judgeTarget, Kind.admits, Part.judgeOwner, Part.judgeWatermarks, judgedAs_ite, judgedAs_none,
    decide_eq_true_eq, cornerAt_val]
  split_ifs <;> first | rfl | omega

theorem judgeTarget_dryRun :
    p.judgeTarget .dryRun a order c.val =
      judgedAs p
        (if 1 < a then some .range
         else if (p.corner c).state = .idle ∧ (p.channel (compressionValve c)).state.isOffOrFault = true ∧
            (p.channel (reboundValve c)).state.isOffOrFault = true then none
         else some .wrongState)
        (p.setCorner c { p.corner c with dryRun := decide (a = 1) }) := by
  simp only [Part.judgeTarget, Kind.admits, Part.judgeOwner, Part.judgeDryRun, judgedAs_ite,
    decide_eq_true_eq, cornerAt_val, beq_one_eq_decide]
  split_ifs <;> first | rfl | omega

end Corner

/-- Settles O33. -/
theorem cornerSettings : Obligations.CornerSettings := by
  unfold Obligations.CornerSettings
  intro w s c hc
  refine ⟨fun hr => ?_, fun hr => ?_, fun hr => ?_, fun hr => ?_, fun hr => ?_⟩
  · have h := exec_judged_corner (c := .limpFirmness w) rfl hr rfl rfl hc (judgeTarget_limpFirmness (s.met 10 w) w.arg.toNat w.order c)
    refine ⟨fun hfar => ?_, fun hin hs => ?_, fun hin hs => ?_⟩
    · rw [h, if_pos hfar]
      rfl
    · rw [h, if_neg (by omega), if_neg (by rcases hs with hs | hs <;> rw [hs] <;> decide)]
      rfl
    · rw [h, if_neg (by omega), if_pos hs]
      rfl
  · exact exec_judged_corner rfl hr rfl rfl hc (judgeTarget_limpRamp _ _ _ c)
  · exact exec_judged_corner rfl hr rfl rfl hc (judgeTarget_silenceLimit _ _ _ c)
  · exact exec_judged_corner rfl hr rfl rfl hc (judgeTarget_watermarks _ _ _ c)
  · exact exec_judged_corner rfl hr rfl rfl hc (judgeTarget_dryRun _ _ _ c)

/-! ### A valve's settings (R98, R112, R115, R127) -/

section Valve
variable (p : Part) (a : Nat) (order : List Nat) (v : ValveId)

theorem judgeTarget_settleTimeout :
    p.judgeTarget .settleTimeout a order v.val =
      judgedAs p (if a = 0 ∨ 15 < a then some .range else none)
        (p.setChannel v { p.channel v with settleTimeout := a }) := by
  simp only [Part.judgeTarget, Kind.admits, Part.judgeOwner, Part.judgeSettleTimeout, judgedAs_ite, judgedAs_none,
    decide_eq_true_eq, valveOf_val]
  split_ifs <;> first | rfl | omega

theorem judgeTarget_searchReach :
    p.judgeTarget .searchReach a order v.val =
      judgedAs p (if a = 0 ∨ 8 < a then some .range else none)
        (p.setChannel v { p.channel v with searchReach := a }) := by
  simp only [Part.judgeTarget, Kind.admits, Part.judgeOwner, Part.judgeSearchReach, judgedAs_ite, judgedAs_none,
    decide_eq_true_eq, valveOf_val]
  split_ifs <;> first | rfl | omega

theorem judgeTarget_warmCeiling :
    p.judgeTarget .warmCeiling a order v.val =
      judgedAs p (if 2000 < a ∨ a < (p.channel v).heat.hotCeiling then some .range else none)
        (let p1 := p.setChannel v { p.channel v with heat := { (p.channel v).heat with warmCeiling := a } }
         if (p.channel v).heat.level = .warm then p1.recompute v else p1) := by
  simp only [Part.judgeTarget, Kind.admits, Part.judgeOwner, Part.judgeWarmCeiling, judgedAs_ite, judgedAs_none,
    decide_eq_true_eq, valveOf_val, Part.recomputeIn, Part.setHeat, channel_setChannel_self]
  split_ifs <;> first | rfl | omega

theorem judgeTarget_hotCeiling :
    p.judgeTarget .hotCeiling a order v.val =
      judgedAs p (if 2000 < a ∨ (p.channel v).heat.warmCeiling < a then some .range else none)
        (let p1 := p.setChannel v { p.channel v with heat := { (p.channel v).heat with hotCeiling := a } }
         if (p.channel v).heat.level = .hot then p1.recompute v else p1) := by
  simp only [Part.judgeTarget, Kind.admits, Part.judgeOwner, Part.judgeHotCeiling, judgedAs_ite, judgedAs_none,
    decide_eq_true_eq, valveOf_val, Part.recomputeIn, Part.setHeat, channel_setChannel_self]
  split_ifs <;> first | rfl | omega

theorem judgeTarget_armTrace :
    p.judgeTarget .armTrace a order v.val =
      judgedAs p (if p.analyzer.trace = .idle then none else some .busy)
        { p with analyzer := { p.analyzer with trace := .armed v } } := by
  simp only [Part.judgeTarget, Kind.admits, Part.judgeOwner, Part.judgeArmTrace, valveOf_val, if_true]
  split <;> rfl

end Valve

/-- Settles O34. -/
theorem valveSettings : Obligations.ValveSettings := by
  unfold Obligations.ValveSettings
  intro w s v hv
  refine ⟨fun hr => ?_, fun hr => ?_, fun hr => ?_, fun hr => ?_, fun hr => ?_⟩
  · exact exec_judged_valve rfl hr rfl rfl hv (judgeTarget_settleTimeout _ _ _ v)
  · exact exec_judged_valve rfl hr rfl rfl hv (judgeTarget_searchReach _ _ _ v)
  · exact exec_judged_valve rfl hr rfl rfl hv (judgeTarget_warmCeiling _ _ _ v)
  · exact exec_judged_valve rfl hr rfl rfl hv (judgeTarget_hotCeiling _ _ _ v)
  · exact exec_judged_valve rfl hr rfl rfl hv (judgeTarget_armTrace _ _ _ v)

end Sys2Proof.Machine
end

section
/-! The commands that move corners and channels: RUN and IDLE CORNERS, ENABLE and DISABLE VALVES, CLEAR FAULT, RETUNE,
PROMOTE MAP; and the journal read index. -/

namespace Sys2Proof.Machine

/-! ### RUN CORNERS and IDLE CORNERS (R58, R59) -/

theorem isTrack_eq_decide (st : ChannelState) : st.isTrack = decide (st = .track) := by
  cases st <;> simp [ChannelState.isTrack]

/-- What entry to RUN makes of a corner's readiness (R71). -/
def Part.runReady (p : Part) (c : CornerId) : Bool :=
  !(p.corner c).dryRun && decide ((p.channel (compressionValve c)).state = .track) &&
    decide ((p.channel (reboundValve c)).state = .track)

/-- The part once corner c is in RUN (R58). -/
def Part.running (p : Part) (c : CornerId) : Part :=
  { p with
    corners := p.corners.set c
      { p.corner c with state := .run, silence := 0, lastTaken := none, limpCause := .none, ready := p.runReady c }
    lines :=
      { p.lines with
        reported := p.lines.reported.set c (p.runReady c)
        ready := readyOutput p.lines.mode (p.lines.reported.set c (p.runReady c)) }
    journal := p.journal.hand (.cornerRun c (p.corner c).state) (p.corner c).frame }

theorem enterRun_eq (p : Part) (c : CornerId) : p.enterRun c = p.running c := by
  let p1 := (p.setCorner c { p.corner c with state := .run, silence := 0, lastTaken := none, limpCause := .none }).hand
    (.cornerRun c (p.corner c).state) (p.corner c).frame
  have hcorner : p1.corner c =
      { p.corner c with state := .run, silence := 0, lastTaken := none, limpCause := .none } :=
    corner_setCorner_self p c _
  have hready : p1.readyCondition c = p.runReady c := by
    rw [Part.readyCondition, hcorner, isTrack_eq_decide, isTrack_eq_decide]
    rfl
  unfold Part.enterRun Part.running
  show p1.evalReady c = _
  simp only [Part.evalReady, hready, hcorner]
  simp [p1, Part.setCorner, Part.setLines, Part.hand, Part.setJournal]

theorem judgeTarget_runCorners (p : Part) (a : Nat) (order : List Nat) (c : CornerId) :
    p.judgeTarget .runCorners a order c.val =
      judgedAs p
        (if p.timer.running = false then some .framesStopped
         else if p.lines.safe = true then some .safe
         else if (p.corner c).state = .run ∨ (p.corner c).state = .safe then some .wrongState
         else if (p.channel (compressionValve c)).state.isFault = true ∨
            (p.channel (reboundValve c)).state.isFault = true then some .faultPresent
         else none)
        (p.running c) := by
  have hstate : (p.corner c).state ≠ .idle ∧ (p.corner c).state ≠ .limp ↔
      (p.corner c).state = .run ∨ (p.corner c).state = .safe := by
    cases (p.corner c).state <;> simp
  simp only [Part.judgeTarget, Kind.admits, Part.judgeOwner, Part.judgeRunCorner, judgedAs_ite, judgedAs_none,
    cornerAt_val, hstate, Part.faultPresent, Bool.or_eq_true, enterRun_eq, if_true]

theorem judgeTarget_idleCorners (p : Part) (a : Nat) (order : List Nat) (c : CornerId) :
    p.judgeTarget .idleCorners a order c.val =
      judgedAs p (if (p.corner c).state = .run ∨ (p.corner c).state = .limp then none else some .wrongState)
        (p.enterIdle c) := by
  simp only [Part.judgeTarget, Kind.admits, Part.judgeOwner, Part.judgeIdleCorner, cornerAt_val, if_true]
  split <;> rfl

/-- Settles O30. -/
theorem runAndIdleCorners : Obligations.RunAndIdleCorners := by
  unfold Obligations.RunAndIdleCorners
  intro w s c hc
  refine ⟨fun hr => ?_, fun hr => ?_⟩
  · exact exec_judged_corner rfl hr rfl rfl hc (judgeTarget_runCorners _ _ _ c)
  · have h := exec_judged_corner (c := .idleCorners w) rfl hr rfl rfl hc
      (judgeTarget_idleCorners (s.met 4 w) w.arg.toNat w.order c)
    refine ⟨fun hs => ?_, fun hs => ⟨(s.met 4 w).enterIdle c, ?_, ?_⟩⟩
    · rw [h, if_neg (by rcases hs with hs | hs <;> rw [hs] <;> decide)]
      rfl
    · rw [h, if_pos hs]
      rfl
    · obtain ⟨hwork, hcorners, hloops, hlines, hjournal⟩ := enterIdle_entered (s.met 4 w) c
      exact ⟨hwork, by rw [hcorners, if_pos rfl], fun e he => by rw [hcorners, if_neg he], hloops, hlines, hjournal⟩

/-! ### ENABLE VALVES, DISABLE VALVES, CLEAR FAULT (R88, R99, R103) -/

theorem judgeTarget_enableValves (p : Part) (a : Nat) (order : List Nat) (v : ValveId) :
    p.judgeTarget .enableValves a order v.val =
      judgedAs p
        (if (p.channel v).state ≠ .off then some .wrongState
         else if p.lines.safe = true then some .safe
         else if (p.corner (cornerOf v)).dryRun = true then some .dryRun
         else if p.driverFault v = true then some .driverLine
         else if (p.map v).active = none then some .noMap
         else none)
        { p with
          channels := p.channels.set v { p.channel v with state := .prepare ⟨0, .reaching 0⟩, target := 250 }
          journal := p.journal.hand (.channelState v .off .prepare .enable) (p.channel v).frame } := by
  have hentered : p.enterPrepare v =
      { p with
        channels := p.channels.set v { p.channel v with state := .prepare ⟨0, .reaching 0⟩, target := 250 }
        journal := p.journal.hand (.channelState v .off .prepare .enable) (p.channel v).frame } := by
    simp only [Part.enterPrepare, Part.handChange, channel_setChannel_self]
    rfl
  simp only [Part.judgeTarget, Kind.admits, Part.judgeOwner, Part.judgeEnable, judgedAs_ite, judgedAs_none, valveOf_val,
    Option.isNone_iff_eq_none, hentered, if_true]

theorem isOffOrFault_iff (st : ChannelState) : st.isOffOrFault = true ↔ st = .off ∨ ∃ x, st = .fault x := by
  cases st <;> simp [ChannelState.isOffOrFault]

theorem judgeTarget_disableValves (p : Part) (a : Nat) (order : List Nat) (v : ValveId) :
    p.judgeTarget .disableValves a order v.val =
      judgedAs p (if (p.channel v).state.isOffOrFault = true then some .wrongState else none) (p.disable v) := by
  simp only [Part.judgeTarget, Kind.admits, Part.judgeOwner, Part.judgeDisable, judgedAs_ite, judgedAs_none, valveOf_val,
    if_true]

theorem judgeTarget_clearFault_none (p : Part) (a : Nat) (order : List Nat) {v : ValveId}
    (h : ∀ x, (p.channel v).state ≠ .fault x) (q : Part) :
    p.judgeTarget .clearFault a order v.val = judgedAs p (some .wrongState) q := by
  simp only [Part.judgeTarget, Kind.admits, Part.judgeOwner, Part.judgeClearFault, valveOf_val, if_true]
  cases hs : (p.channel v).state <;> first | rfl | exact absurd hs (h _)

theorem judgeTarget_clearFault (p : Part) (a : Nat) (order : List Nat) {v : ValveId} {x : FaultCause}
    (h : (p.channel v).state = .fault x) :
    p.judgeTarget .clearFault a order v.val =
      judgedAs p (if p.driverFault v = true then some .driverLine else none)
        { p with
          channels := p.channels.set v { p.channel v with state := .off }
          journal := p.journal.hand (.channelState v .fault .off (.clearFault x)) (p.channel v).frame } := by
  simp only [Part.judgeTarget, Kind.admits, Part.judgeOwner, Part.judgeClearFault, valveOf_val, if_true, h, judgedAs_ite,
    judgedAs_none, Part.handChange, channel_setChannel_self]
  rfl

/-- Settles O31. -/
theorem enableDisableClear : Obligations.EnableDisableClear := by
  unfold Obligations.EnableDisableClear
  intro w s v hv
  refine ⟨fun hr => ?_, fun hr => ?_, fun hr => ⟨fun h => ?_, fun x h => ?_⟩⟩
  · exact exec_judged_valve rfl hr rfl rfl hv (judgeTarget_enableValves _ _ _ v)
  · have h := exec_judged_valve (c := .disableValves w) rfl hr rfl rfl hv
      (judgeTarget_disableValves (s.met 6 w) w.arg.toNat w.order v)
    refine ⟨fun hs => ?_, fun hoff hfault => ⟨_, ?_, disable_lost _ v⟩⟩
    · rw [h, if_pos ((isOffOrFault_iff _).2 hs)]
      rfl
    · rw [h, if_neg fun hs => ((isOffOrFault_iff _).1 hs).elim hoff fun ⟨x, hx⟩ => hfault x hx]
      rfl
  · exact exec_judged_valve rfl hr rfl rfl hv (judgeTarget_clearFault_none _ _ _ h (s.met 7 w))
  · exact exec_judged_valve rfl hr rfl rfl hv (judgeTarget_clearFault _ _ _ h)

/-! ### RETUNE and PROMOTE MAP (R82, R93) -/

theorem enterWaiting_retuned (p : Part) (v : ValveId) :
    (p.enterWaiting v).handChange v .track .retune =
      { p.stopChannel v (.tune .waiting) with
        analyzer :=
          { (p.stopChannel v (.tune .waiting)).analyzer with
            queue := (p.stopChannel v (.tune .waiting)).analyzer.queue ++ [v] }
        journal := p.journal.hand (.channelState v .track .tune .retune) (p.channel v).frame } := by
  have hstopped := stopChannel_stopped p v (.tune .waiting) rfl
  obtain ⟨-, -, -, -, -, -, -, -, -, hjournal, -⟩ := hstopped.elsewhere
  have hchannel : (p.enterWaiting v).channel v =
      { p.channel v with state := .tune .waiting, target := 0, settle := none, misses := 0 } := hstopped.channel
  rw [Part.handChange, hchannel]
  unfold Part.enterWaiting Part.hand Part.setJournal Part.setAnalyzer
  dsimp only
  rw [hjournal]
  rfl

theorem judgeTarget_retune (p : Part) (a : Nat) (order : List Nat) (v : ValveId) :
    p.judgeTarget .retune a order v.val =
      judgedAs p
        (if (p.channel v).state ≠ .track then some .wrongState
         else if (p.corner (cornerOf v)).state = .run then some .notQuiescent
         else if (p.channel v).heat.level = .hot then some .hot
         else none)
        ((p.enterWaiting v).handChange v .track .retune) := by
  simp only [Part.judgeTarget, Kind.admits, Part.judgeOwner, Part.judgeRetune, judgedAs_ite, judgedAs_none, valveOf_val,
    if_true]

theorem quiescent_iff (p : Part) (v : ValveId) :
    p.quiescent v = true ↔
      (p.channel v).state = .off ∨ (∃ x, (p.channel v).state = .fault x) ∨ (p.corner (cornerOf v)).state ≠ .run ∨
        ((p.corner (cornerOf v)).list = [] ∧ (p.corner (cornerOf v)).hold = none ∧ (p.channel v).ramp = none ∧
          (p.channel v).waiting = none ∧ (p.channel v).requests = [] ∧ (p.channel v).phase = .none) := by
  simp only [Part.quiescent, Bool.or_eq_true, Bool.and_eq_true, isOffOrFault_iff, bne_iff_ne, List.isEmpty_iff,
    Option.isNone_iff_eq_none, beq_iff_eq, or_assoc, and_assoc]

theorem judgeTarget_promoteMap (p : Part) (a : Nat) (order : List Nat) (v : ValveId) :
    p.judgeTarget .promoteMap a order v.val =
      judgedAs p
        (if (p.map v).state ≠ .valid then some .noPendingMap
         else if p.quiescent v = false then some .notQuiescent
         else none)
        (p.promote v) := by
  simp only [Part.judgeTarget, Kind.admits, Part.judgeOwner, Part.judgePromote, judgedAs_ite, judgedAs_none, valveOf_val,
    if_true]

theorem promote_of_header {p : Part} {v : ValveId} {h : ClosingWord} (hh : (p.map v).header = some h) :
    p.promote v =
      (p.setMap v
        { p.map v with
          active := some ((List.range (h.data.toNat % 32)).map fun n =>
            mapPoint (stagedWord (p.map v).staging.toList n))
          state := .empty, staging := Vector.replicate 64 ⟨0, false, false⟩, header := none }).recompute v := by
  have hpoints : (p.map v).pendingPoints =
      (List.range (h.data.toNat % 32)).map fun n => mapPoint (stagedWord (p.map v).staging.toList n) := by
    rw [MapEntry.pendingPoints, hh, ← (header_fields h.data).1]
    rfl
  rw [Part.promote, hpoints]
  rfl

/-- Settles O32. -/
theorem retuneAndPromote : Obligations.RetuneAndPromote := by
  unfold Obligations.RetuneAndPromote
  intro w s v hv
  refine ⟨fun hr => ?_, fun hr => ?_⟩
  · have h := exec_judged_valve (c := .retune w) rfl hr rfl rfl hv
      (judgeTarget_retune (s.met 8 w) w.arg.toNat w.order v)
    intro p ch x hx
    rw [← hx] at h
    refine ⟨fun r hxr => ?_, fun hxn => ⟨_, stopChannel_stopped p v (.tune .waiting) rfl, ?_⟩⟩
    · rw [h, hxr]
      rfl
    · rw [h, hxn, enterWaiting_retuned]
      rfl
  · have h := exec_judged_valve (c := .promoteMap w) rfl hr rfl rfl hv
      (judgeTarget_promoteMap (s.met 9 w) w.arg.toNat w.order v)
    refine ⟨fun hs => ?_, fun hs hq => ?_, fun hd hs hq hh => ?_⟩
    · rw [h, if_pos hs]
      rfl
    · rw [h, if_neg (not_not.2 hs), if_pos (Bool.eq_false_iff.2 fun hq' => hq ((quiescent_iff _ v).1 hq'))]
      rfl
    · rw [h, if_neg (not_not.2 hs), if_neg (by rw [(quiescent_iff _ v).2 hq]; decide), promote_of_header hh]
      rfl

/-! ### The journal read index (R141, R142, R158) -/

theorem index_distance (a b : BitVec 7) : (a - b).toNat = (a.toNat + 128 - b.toNat) % 128 := by bv_omega

theorem readIndex_of_full {b : Beat} (h : b.lanes = 15) : field (seenWord b) 0 8 = b.data.toNat % 256 := by
  rw [seenWord_full b h, field_eq]
  omega

theorem onSpan_iff (j : Journal) (x : Nat) :
    j.onSpan x = true ↔
      x ≤ 127 ∧ (x + 128 - j.read.toNat) % 128 ≤ (j.write.toNat + 128 - j.read.toNat) % 128 := by
  simp only [Journal.onSpan, Journal.unconsumed, Bool.and_eq_true, decide_eq_true_eq, index_distance,
    BitVec.toNat_ofNat]
  constructor <;> rintro ⟨h1, h2⟩ <;> refine ⟨h1, ?_⟩ <;> rwa [Nat.mod_eq_of_lt (by omega : x < 2 ^ 7)] at *

/-- What a taken read index makes of the journal (R158, R160). -/
theorem consume_eq {j : Journal} {x : Nat} (hx : x ≤ 127)
    (hspan : (x + 128 - j.read.toNat) % 128 ≤ (j.write.toNat + 128 - j.read.toNat) % 128) :
    j.consume (BitVec.ofNat 7 x) =
      (let taken := (x + 128 - j.read.toNat) % 128
       let alarm := j.alarm.bind fun a => if (a.toNat + 128 - j.read.toNat) % 128 < taken then none else some a
       { j with
         read := BitVec.ofNat 7 x
         alarm := alarm
         attn := decide (j.threshold ≤ (j.write.toNat + 128 - j.read.toNat) % 128 - taken) || alarm.isSome }) := by
  have hread : (BitVec.ofNat 7 x).toNat = x := by
    rw [BitVec.toNat_ofNat]
    omega
  have hleft : (j.write - BitVec.ofNat 7 x).toNat =
      (j.write.toNat + 128 - j.read.toNat) % 128 - (x + 128 - j.read.toNat) % 128 := by
    have hw := j.write.isLt
    have hr := j.read.isLt
    rw [index_distance, hread]
    omega
  unfold Journal.consume Journal.driveAttn Journal.attnCondition Journal.unconsumed
  dsimp only
  rw [hleft]
  cases j.alarm with
  | none => rfl
  | some a => simp only [index_distance, hread, Option.bind_some]

theorem readIndexWrite_partial {b : Beat} (p : Part) (bad : Lanes) (h0 : b.lanes ≠ 0) (hl : b.lanes ≠ 15) :
    p.readIndexWrite b bad = p.badReadIndex .partialWrite (seenWord b) := by
  rw [Part.readIndexWrite, if_neg h0, if_pos hl]

theorem readIndexWrite_parity {b : Beat} {bad : Lanes} (p : Part) (hl : b.lanes = 15) (hb : bad ≠ 0) :
    p.readIndexWrite b bad = p.badReadIndex .parity b.data := by
  rw [Part.readIndexWrite, if_neg (by rw [hl]; decide), if_neg (not_not.2 hl), if_pos hb, seenWord_full b hl]

theorem readIndexWrite_full {b : Beat} {bad : Lanes} (p : Part) (hl : b.lanes = 15) (hb : bad = 0) :
    p.readIndexWrite b bad =
      if p.journal.onSpan (b.data.toNat % 256) then
        p.setJournal (p.journal.consume (BitVec.ofNat 7 (b.data.toNat % 256)))
      else p.badReadIndex .outOfSpan b.data := by
  rw [Part.readIndexWrite, if_neg (by rw [hl]; decide), if_neg (not_not.2 hl), if_neg (not_not.2 hb),
    readIndex_of_full hl, seenWord_full b hl]

/-- Settles O36: the checks of a read index write, in their order. -/
theorem journalReadIndex : Obligations.JournalReadIndex := by
  unfold Obligations.JournalReadIndex
  intro b s f j bad x taken unconsumed
  refine ⟨fun hl => ?_, fun h0 hl => ?_, fun hl hb => ?_, fun hl hb hout => ?_, fun hl hb hx hspan => ?_⟩
  · rw [exec_journalReadIndex, Part.readIndexWrite, if_pos hl]
  · simp only [bad]
    rw [exec_journalReadIndex, readIndexWrite_partial _ _ h0 hl]
    rfl
  · simp only [bad]
    rw [exec_journalReadIndex, readIndexWrite_parity _ hl hb]
    rfl
  · have hoff : ¬j.onSpan x = true := fun h => by
      have hspan := (onSpan_iff j x).1 h
      rcases hout with hout | hout
      · exact absurd hspan.1 (by omega)
      · exact absurd hspan.2 (by omega)
    simp only [bad]
    rw [exec_journalReadIndex, readIndexWrite_full _ hl hb, if_neg hoff]
    rfl
  · have hon : j.onSpan x = true := (onSpan_iff j x).2 ⟨hx, hspan⟩
    rw [exec_journalReadIndex, readIndexWrite_full _ hl hb, if_pos hon, consume_eq hx hspan]
    rfl

end Sys2Proof.Machine
end

section
/-! The Step Analyzer: the look at the Tune Queue, the pre-drive, and the score of a trial (chapter 7). -/

namespace Sys2Proof.Machine

/-! ### The look and the pre-drive (R109, R110, R116) -/

theorem lookAt_all_hot {hot : ValveId → Bool} {l : List ValveId} (passed : List ValveId) (h : ∀ v ∈ l, hot v = true) :
    lookAt hot passed l = none := by
  induction l generalizing passed with
  | nil => rfl
  | cons v rest ih =>
    rw [lookAt, if_pos (h v List.mem_cons_self)]
    exact ih _ fun u hu => h u (List.mem_cons_of_mem _ hu)

theorem lookAt_first {hot : ValveId → Bool} {v : ValveId} (l r passed : List ValveId) (h : ∀ u ∈ l, hot u = true)
    (hv : hot v = false) : lookAt hot passed (l ++ v :: r) = some (v, r ++ (passed ++ l)) := by
  induction l generalizing passed with
  | nil => rw [List.nil_append, lookAt, hv, List.append_nil]; rfl
  | cons u rest ih =>
    rw [List.cons_append, lookAt, if_pos (h u List.mem_cons_self), ih _ fun w hw => h w (List.mem_cons_of_mem _ hw),
      List.append_assoc, List.singleton_append]

/-- The analyzer's look as a command: only an IDLE analyzer looks. -/
theorem exec_queueLook (s : State) :
    exec .queueLook s = .next { s with part := if s.part.analyzer.state = .idle then s.part.look else s.part } := rfl

theorem look_all_hot {p : Part} (h : ∀ v ∈ p.analyzer.queue, (p.channel v).heat.level = .hot) : p.look = p := by
  rw [Part.look, lookAt_all_hot [] fun v hv => beq_iff_eq.2 (h v hv)]

theorem look_first {p : Part} {l r : List ValveId} {v : ValveId} (hq : p.analyzer.queue = l ++ v :: r)
    (hl : ∀ u ∈ l, (p.channel u).heat.level = .hot) (hv : (p.channel v).heat.level ≠ .hot) :
    p.look = p.startSearch v (r ++ l) := by
  rw [Part.look, hq, lookAt_first l r [] (fun u hu => beq_iff_eq.2 (hl u hu)) (beq_eq_false_iff_ne.2 hv), List.nil_append]

theorem preDriveEnds_other {a : Analyzer} (h : ∀ x, a.state ≠ .searching x) : a.preDriveEnds = none := by
  cases hs : a.state with
  | searching x => exact absurd hs (h x)
  | idle => rw [Analyzer.preDriveEnds, hs]
  | capturing v => rw [Analyzer.preDriveEnds, hs]
  | writing => rw [Analyzer.preDriveEnds, hs]

theorem preDriveEnds_step {a : Analyzer} {h : Search} (hs : a.state = .searching h) (hp : h.phase = .step) :
    a.preDriveEnds = none := by
  simp only [Analyzer.preDriveEnds, hs, hp]

theorem preDriveEnds_preDrive {a : Analyzer} {h : Search} {k : Nat} (hs : a.state = .searching h)
    (hp : h.phase = .preDrive k) : a.preDriveEnds = if 40 ≤ k then some h else none := by
  simp only [Analyzer.preDriveEnds, hs, hp]

theorem exec_preDriveEnd_none {s : State} (h : s.part.analyzer.preDriveEnds = none) :
    exec .preDriveEnd s = .next s := by
  show execPreDriveEnd s = _
  rw [execPreDriveEnd, h]

theorem exec_preDriveEnd_some {s : State} {h : Search} (hs : s.part.analyzer.preDriveEnds = some h) :
    exec .preDriveEnd s = .next { s with part := s.part.stepTrial h } := by
  show execPreDriveEnd s = _
  rw [execPreDriveEnd, hs]

/-- The step of a trial, which starts a capture at an armed valve (R110, R116). -/
theorem stepTrial_eq (p : Part) (h : Search) :
    p.stepTrial h =
      (let armed := p.analyzer.trace = .armed h.valve
       { p.setChannel h.valve { p.channel h.valve with target := 800 } with
         analyzer :=
           { p.analyzer with
             state := .searching { h with phase := .step }, buffer := []
             trace := if armed then .capturing else p.analyzer.trace
             hand :=
               if armed then some ⟨h.valve, h.gain, (p.channel h.valve).frame, [], none⟩ else p.analyzer.hand } }) := by
  have hframe : ∀ a : Analyzer,
      (((p.setChannel h.valve { p.channel h.valve with target := 800 }).setAnalyzer a).channel h.valve).frame =
        (p.channel h.valve).frame := fun a => by
    rw [channel_setAnalyzer, channel_setChannel_self]
  unfold Part.stepTrial Part.trialTrigger
  by_cases harmed : p.analyzer.trace = .armed h.valve
  · simp only [analyzer_setAnalyzer, hframe, harmed, if_true]
    rfl
  · simp only [analyzer_setAnalyzer, harmed, if_false]
    rfl

/-- Settles O49. -/
theorem queueLookAndPreDrive : Obligations.QueueLookAndPreDrive := by
  unfold Obligations.QueueLookAndPreDrive
  intro s p a hot
  refine ⟨fun h => ?_, fun l v r hidle hq hl hv => ?_, fun h => ?_, fun h hs => ⟨fun hp => ?_, fun k hp => ⟨?_, ?_⟩⟩⟩
  · rw [exec_queueLook]
    split
    · next hidle => rw [look_all_hot (h.resolve_left (not_not.2 hidle))]
    · rfl
  · rw [exec_queueLook, if_pos hidle, look_first hq hl hv]
    rfl
  · exact exec_preDriveEnd_none (preDriveEnds_other h)
  · exact exec_preDriveEnd_none (preDriveEnds_step hs hp)
  · intro hk
    exact exec_preDriveEnd_none (by rw [preDriveEnds_preDrive hs hp, if_neg (by omega)])
  · intro hk
    rw [exec_preDriveEnd_some (h := h) (by rw [preDriveEnds_preDrive hs hp, if_pos hk]), stepTrial_eq]

/-! ### The score of a trial (R111) -/

theorem settleIndex_cons_zero {i : Nat} {rest : List Nat} (h : settleIndex rest = 0) :
    settleIndex (i :: rest) = if inStepBand i then 0 else 1 := by rw [settleIndex, h]

theorem settleIndex_cons_succ {i n : Nat} {rest : List Nat} (h : settleIndex rest = n + 1) :
    settleIndex (i :: rest) = n + 2 := by rw [settleIndex, h]

theorem settleIndex_le_iff (l : List Nat) (k : Nat) :
    settleIndex l ≤ k ↔ ∀ n i, k ≤ n → l[n]? = some i → 775 ≤ i ∧ i ≤ 825 := by
  induction l generalizing k with
  | nil => simp [settleIndex]
  | cons i rest ih =>
    cases k with
    | zero =>
      have hzero : settleIndex (i :: rest) ≤ 0 ↔ (775 ≤ i ∧ i ≤ 825) ∧ settleIndex rest ≤ 0 := by
        cases h : settleIndex rest with
        | zero => rw [settleIndex_cons_zero h]; simp [inStepBand]
        | succ n => rw [settleIndex_cons_succ h]; simp
      rw [hzero, ih 0]
      constructor
      · rintro ⟨hi, hrest⟩ n j - hj
        cases n with
        | zero => rw [← Option.some.inj hj]; exact hi
        | succ n => exact hrest n j (Nat.zero_le n) hj
      · exact fun h => ⟨h 0 i le_rfl rfl, fun n j _ hj => h (n + 1) j (Nat.zero_le _) hj⟩
    | succ k =>
      have hsucc : settleIndex (i :: rest) ≤ k + 1 ↔ settleIndex rest ≤ k := by
        cases h : settleIndex rest with
        | zero => rw [settleIndex_cons_zero h]; split <;> simp
        | succ n => rw [settleIndex_cons_succ h]; omega
      rw [hsucc, ih k]
      constructor
      · intro h n j hn hj
        cases n with
        | zero => exact absurd hn (by omega)
        | succ n => exact h n j (by omega) hj
      · exact fun h n j hn hj => h (n + 1) j (by omega) hj

theorem peak_eq {l : List Nat} {top : Nat} (hmem : top ∈ l) (htop : ∀ j ∈ l, j ≤ top) : peak l = top := by
  rw [peak, List.foldl_max, List.max?_eq_some_iff.2 ⟨hmem, htop⟩, Option.getD_some, Nat.zero_max]

theorem trialScore_of_settleIndex {l : List Nat} {k : Nat} (hk : settleIndex l = k) :
    trialScore l = if k < l.length then some (1280 - 20 * (k : Int) - (min (peak l - 800) 300 : Nat)) else none := by
  rw [trialScore, hk]

/-- Settles O51 (the name of the obligation itself is the model's function). -/
theorem trialScoreHolds : Obligations.TrialScore := by
  unfold Obligations.TrialScore
  intro l hlen inside insideFrom
  refine ⟨fun i hi hout => ?_, fun i k top hi hin hk hfrom hfirst hmem htop => ?_, fun n hn => ?_⟩
  · have hlate : ¬settleIndex l ≤ 63 := fun h => hout ((settleIndex_le_iff l 63).1 h 63 i le_rfl hi)
    rw [trialScore, if_neg (by omega)]
  · have hle : settleIndex l ≤ k := (settleIndex_le_iff l k).2 hfrom
    have hge : k ≤ settleIndex l := by
      by_contra hlt
      exact hfirst _ (by omega) ((settleIndex_le_iff l _).1 le_rfl)
    rw [trialScore_of_settleIndex (le_antisymm hle hge), if_pos (by omega), peak_eq hmem htop]
    have hover : ((min (top - 800) 300 : Nat) : Int) = min (max ((top : Int) - 800) 0) 300 := by omega
    rw [hover]
  · rw [trialScore] at hn
    split at hn
    · next hlt =>
      have hvalue := Option.some.inj hn
      omega
    · exact absurd hn (by simp)

end Sys2Proof.Machine
end

section
/-! The 50 µs samples of a channel in PREPARE and in TRACK, and the driver fault lines (chapter 6). -/

namespace Sys2Proof.Machine

/-! ### What a sample does, by the channel's state (R86) -/

/-- A channel's measured current set. -/
def Part.measuring (p : Part) (v : ValveId) (i : Nat) : Part := p.setChannel v { p.channel v with measured := i }

@[simp] theorem measuring_channel (p : Part) (v : ValveId) (i : Nat) :
    (p.measuring v i).channel v = { p.channel v with measured := i } := channel_setChannel_self _ _ _

@[simp] theorem measuring_setChannel (p : Part) (v : ValveId) (i : Nat) (ch : Channel) :
    (p.measuring v i).setChannel v ch = p.setChannel v ch := setChannel_setChannel _ _ _ _

theorem exec_coilCurrentSample (v : ValveId) (x : Sample) (s : State) :
    exec (.coilCurrentSample v x) s = .next { s with part := s.part.takeSample v x } := rfl

theorem takeSample_prepare {p : Part} {v : ValveId} {q : Prepare} (x : Sample) (h : (p.channel v).state = .prepare q) :
    p.takeSample v x = (p.measuring v x.current.toNat).prepareSample v q x := by
  rw [Part.takeSample, h, Part.measuring]

theorem takeSample_track {p : Part} {v : ValveId} (x : Sample) (h : (p.channel v).state = .track) :
    p.takeSample v x = (p.measuring v x.current.toNat).trackSample v x := by
  rw [Part.takeSample, h, Part.measuring]

theorem takeSample_searching {p : Part} {v : ValveId} {y : Search} (x : Sample)
    (h : (p.channel v).state = .tune .searching) (hs : p.analyzer.state = .searching y) (hv : y.valve = v) :
    p.takeSample v x = (p.measuring v x.current.toNat).searchSample y x := by
  rw [Part.takeSample, h, hs, Part.measuring]
  exact if_pos hv

theorem takeSample_quiet {p : Part} {v : ValveId} (x : Sample)
    (h : (p.channel v).state.isOffOrFault = true ∨ (p.channel v).state = .tune .waiting) :
    p.takeSample v x = p.measuring v x.current.toNat := by
  rcases h with h | h
  · rcases (isOffOrFault_iff _).1 h with h | ⟨y, h⟩
    · rw [Part.takeSample, h, Part.measuring]
    · rw [Part.takeSample, h, Part.measuring]
  · rw [Part.takeSample, h, Part.measuring]

/-! ### The prepare test (R89, R90, R91) -/

theorem countInBand_test (n : Nat) (x : Sample) :
    countInBand n (inTestBand x) = if 230 ≤ x.current.toNat ∧ x.current.toNat ≤ 270 then n + 1 else 0 := by
  have hband : inTestBand x = true ↔ 230 ≤ x.current.toNat ∧ x.current.toNat ≤ 270 := by
    rw [inTestBand, inBand, distance, settleBand, decide_eq_true_eq]
    omega
  simp only [countInBand, hband]

/-- A sample that only moves the prepare test on. -/
theorem measuring_setPrepare (p : Part) (v : ValveId) (i : Nat) (q : Prepare) :
    (p.measuring v i).setPrepare v q = p.setChannel v { p.channel v with measured := i, state := .prepare q } := by
  rw [Part.setPrepare, measuring_channel, measuring_setChannel]

theorem prepareSample_reaching (p : Part) (v : ValveId) (e n : Nat) (x : Sample) :
    p.prepareSample v ⟨e, .reaching n⟩ x = p.setPrepare v ((Prepare.mk e (.reaching n)).reach n x) := rfl

theorem prepareSample_measuring (p : Part) (v : ValveId) (e k i u : Nat) (x : Sample) :
    p.prepareSample v ⟨e, .measuring k i u⟩ x =
      if k + 1 < 100 then
        p.setPrepare v ⟨e + 1, .measuring (k + 1) (i + x.current.toNat) (u + x.voltage.toNat)⟩
      else p.endMeasurement v (e + 1) (i + x.current.toNat) (u + x.voltage.toNat) := rfl

theorem prepareSample_passed (p : Part) (v : ValveId) (e r : Nat) (x : Sample) :
    p.prepareSample v ⟨e, .passed r⟩ x = p.setPrepare v ⟨e + 1, .passed r⟩ := rfl

theorem exec_testCurrentReach (v : ValveId) (x : Sample) (s : State) :
    exec (.testCurrentReach v x) s =
      .next { s with part := if (s.part.channel v).state.reachesWith x then s.part.takeSample v x else s.part } := rfl

theorem exec_prepareTimeout (v : ValveId) (s : State) :
    exec (.prepareTimeout v) s =
      .next { s with
        part := if (s.part.channel v).state.reachExpires then s.part.enterFault v .openCircuit 65535 else s.part } := rfl

theorem exec_resistanceMeasurementEnd (v : ValveId) (x : Sample) (s : State) :
    exec (.resistanceMeasurementEnd v x) s =
      .next { s with part := if (s.part.channel v).state.measurementEnds then s.part.takeSample v x else s.part } := rfl

theorem exec_prepareEnd_of_ends {v : ValveId} {s : State} {r : Nat}
    (h : (s.part.channel v).state.prepareEnds = some r) :
    exec (.prepareEnd v) s = .next { s with part := s.part.endPrepare v r } := by
  show execPrepareEnd v s = _
  rw [execPrepareEnd, h]

theorem exec_prepareEnd_of_none {v : ValveId} {s : State} (h : (s.part.channel v).state.prepareEnds = none) :
    exec (.prepareEnd v) s = .next s := by
  show execPrepareEnd v s = _
  rw [execPrepareEnd, h]

theorem reachesWith_reaching (x : Sample) (e n : Nat) :
    (ChannelState.prepare ⟨e, .reaching n⟩).reachesWith x = true ↔ e < 100 ∧ 4 ≤ countInBand n (inTestBand x) := by
  simp [ChannelState.reachesWith]

theorem reach_step (q : Prepare) (n : Nat) (x : Sample) : q.reach n x = ⟨q.elapsed + 1, (q.reach n x).stage⟩ := rfl

theorem reach_reached {e n : Nat} {x : Sample} (he : e < 100) (hn : 4 ≤ countInBand n (inTestBand x)) :
    (Prepare.mk e (.reaching n)).reach n x = ⟨e + 1, .measuring 0 0 0⟩ := by
  simp only [Prepare.reach, he, hn, if_true]

theorem reach_counted {e n : Nat} {x : Sample} (he : e < 100) (hn : ¬4 ≤ countInBand n (inTestBand x)) :
    (Prepare.mk e (.reaching n)).reach n x = ⟨e + 1, .reaching (countInBand n (inTestBand x))⟩ := by
  simp only [Prepare.reach, he, hn, if_true, if_false]

theorem reach_late {e n : Nat} {x : Sample} (he : ¬e < 100) :
    (Prepare.mk e (.reaching n)).reach n x = ⟨e + 1, .reaching n⟩ := by
  simp only [Prepare.reach, he, if_false]

/-- The end of PREPARE with a tuned gain: entry to TRACK (R91, R95). -/
theorem endPrepare_tuned {p : Part} {v : ValveId} (r : Nat) (h : (p.channel v).tunedGain.isSome = true) :
    p.endPrepare v r =
      { p.enterTrack v with
        journal := p.journal.hand (.channelState v .prepare .track (.prepareDone r)) (p.channel v).frame } := by
  have hstate : ((p.enterTrack v).channel v).state = .track ∧ ((p.enterTrack v).channel v).frame = (p.channel v).frame := by
    simp [Part.enterTrack, Part.channel, Part.setChannel, Part.evalReady, Part.setLines, Part.setCorner]
  rw [Part.endPrepare, if_pos h, Part.handChange, hstate.1, hstate.2]
  rfl

theorem enterWaiting_changed (p : Part) (v : ValveId) (left : ChannelName) (cause : ChangeCause) :
    (p.enterWaiting v).handChange v left cause =
      { p.stopChannel v (.tune .waiting) with
        analyzer :=
          { (p.stopChannel v (.tune .waiting)).analyzer with
            queue := (p.stopChannel v (.tune .waiting)).analyzer.queue ++ [v] }
        journal := p.journal.hand (.channelState v left .tune cause) (p.channel v).frame } := by
  have hstopped := stopChannel_stopped p v (.tune .waiting) rfl
  obtain ⟨-, -, -, -, -, -, -, -, -, hjournal, -⟩ := hstopped.elsewhere
  have hchannel : (p.enterWaiting v).channel v =
      { p.channel v with state := .tune .waiting, target := 0, settle := none, misses := 0 } := hstopped.channel
  rw [Part.handChange, hchannel]
  unfold Part.enterWaiting Part.hand Part.setJournal Part.setAnalyzer
  dsimp only
  rw [hjournal]
  rfl

/-- What the end of the measurement makes of the sums of mA and mV (R90). -/
theorem endMeasurement_open {p : Part} {v : ValveId} {e i u : Nat} (h : i = 0 ∨ 9 * i < u) :
    p.endMeasurement v e i u = p.enterFault v .openCircuit (resistance i u) := by
  rw [Part.endMeasurement, if_pos (by simpa [tooHigh] using h)]

theorem endMeasurement_short {p : Part} {v : ValveId} {e i u : Nat} (h : 2 * u < 3 * i) :
    p.endMeasurement v e i u = p.enterFault v .shortCircuit (resistance i u) := by
  rw [Part.endMeasurement, if_neg (by simp [tooHigh]; omega), if_pos (by simpa [tooLow] using h)]

theorem endMeasurement_passed {p : Part} {v : ValveId} {e i u : Nat} (h0 : i ≠ 0) (hlow : 3 * i ≤ 2 * u)
    (hhigh : u ≤ 9 * i) : p.endMeasurement v e i u = p.setPrepare v ⟨e, .passed (resistance i u)⟩ := by
  rw [Part.endMeasurement, if_neg (by simp [tooHigh]; omega), if_neg (by simp [tooLow]; omega)]

/-- Settles O44. -/
theorem prepareTest : Obligations.PrepareTest := by
  unfold Obligations.PrepareTest
  intro v x s e p ch i progress
  refine ⟨fun n hs => ?_, fun k total voltage hs => ?_, fun r hs => ?_⟩
  · intro n'
    have hn : countInBand n (inTestBand x) = n' := countInBand_test n x
    clear_value n'
    have hsample : exec (.coilCurrentSample v x) s = progress ((Prepare.mk e (.reaching n)).reach n x).stage := by
      rw [exec_coilCurrentSample, takeSample_prepare x hs, prepareSample_reaching, measuring_setPrepare, reach_step]
    have hreach : (s.part.channel v).state.reachesWith x = true ↔ e < 100 ∧ 4 ≤ n' := by
      rw [hs, reachesWith_reaching, hn]
    refine ⟨fun he hn' => ?_, fun he hn' => ?_, fun he => ?_, fun h => ?_, fun he => ?_, fun he => ?_⟩
    · have hstage := hsample
      rw [reach_reached he (by omega)] at hstage
      refine ⟨hstage, ?_⟩
      rw [exec_testCurrentReach, if_pos (hreach.2 ⟨he, hn'⟩), ← hstage]
      rfl
    · rw [hsample, reach_counted he (by omega), hn]
    · rw [hsample, reach_late (by omega)]
    · rw [exec_testCurrentReach, if_neg (by rw [hreach]; omega)]
    · rw [exec_prepareTimeout, if_neg (by rw [hs]; simpa [ChannelState.reachExpires] using he)]
    · refine ⟨_, ?_, enterFault_entered p v .openCircuit 65535⟩
      rw [exec_prepareTimeout, if_pos (by rw [hs]; simpa [ChannelState.reachExpires] using he)]
  · intro amps volts r p1
    have hends : (s.part.channel v).state.measurementEnds = true ↔ 100 ≤ k + 1 := by
      rw [hs]
      simp [ChannelState.measurementEnds]
    refine ⟨fun hk => ⟨?_, ?_⟩, fun hk => ?_⟩
    · rw [exec_coilCurrentSample, takeSample_prepare x hs, prepareSample_measuring, if_pos hk, measuring_setPrepare]
    · rw [exec_resistanceMeasurementEnd, if_neg (by rw [hends]; omega)]
    · have hsample : exec (.coilCurrentSample v x) s =
          .next { s with part := p1.endMeasurement v (e + 1) amps volts } := by
        rw [exec_coilCurrentSample, takeSample_prepare x hs, prepareSample_measuring, if_neg (by omega)]
        rfl
      refine ⟨?_, fun h => ⟨_, ?_, enterFault_entered p1 v .openCircuit r⟩,
        fun _ h => ⟨_, ?_, enterFault_entered p1 v .shortCircuit r⟩, fun h0 hlow hhigh => ?_⟩
      · rw [exec_resistanceMeasurementEnd, if_pos (hends.2 hk)]
        rfl
      · rw [hsample, endMeasurement_open h]
        rfl
      · rw [hsample, endMeasurement_short h]
        rfl
      · rw [hsample, endMeasurement_passed h0 hlow hhigh]
        exact congrArg (fun q => Host.Outcome.next { s with part := q }) (measuring_setPrepare p v i _)
  · refine ⟨?_, fun he => ?_, fun he hg => ?_, fun he hg => ⟨_, stopChannel_stopped p v (.tune .waiting) rfl, ?_⟩⟩
    · rw [exec_coilCurrentSample, takeSample_prepare x hs, prepareSample_passed, measuring_setPrepare]
    · exact exec_prepareEnd_of_none (by rw [hs]; simp [ChannelState.prepareEnds]; omega)
    · rw [exec_prepareEnd_of_ends (r := r) (by rw [hs]; simp [ChannelState.prepareEnds]; omega), endPrepare_tuned r hg]
      rfl
    · rw [exec_prepareEnd_of_ends (r := r) (by rw [hs]; simp [ChannelState.prepareEnds]; omega), Part.endPrepare,
        if_neg (by rw [hg]; decide), enterWaiting_changed]

/-! ### Settle supervision (R97) -/

theorem settleSample_stopped {ch : Channel} (x : Sample) (h : ch.settle = none) : ch.settleSample x = ch := by
  simp only [Channel.settleSample, h]

theorem settleSample_over {ch : Channel} {n : Nat} (x : Sample) (h : ch.settle = some ⟨0, n⟩) :
    ch.settleSample x = ch := by
  simp only [Channel.settleSample, h, if_true]

theorem settleSample_running {ch : Channel} {left n : Nat} (x : Sample) (h : ch.settle = some ⟨left, n⟩)
    (hleft : 0 < left) :
    ch.settleSample x =
      if 4 ≤ countInBand n (inBand x.current.toNat ch.target) then { ch with settle := none, misses := 0 }
      else { ch with settle := some ⟨left - 1, countInBand n (inBand x.current.toNat ch.target)⟩ } := by
  simp only [Channel.settleSample, h, Nat.ne_of_gt hleft, if_false]

theorem trackSample_uncaptured {p : Part} {v : ValveId} (x : Sample) (h : p.analyzer.state ≠ .capturing v) :
    (p.measuring v x.current.toNat).trackSample v x =
      p.setChannel v (({ p.channel v with measured := x.current.toNat } : Channel).settleSample x) := by
  have hstate : ¬(p.measuring v x.current.toNat).analyzer.state = .capturing v := h
  simp only [Part.trackSample, hstate, if_false, measuring_channel, measuring_setChannel]

theorem exec_settleSuccess (v : ValveId) (x : Sample) (s : State) :
    exec (.settleSuccess v x) s =
      .next { s with part := if (s.part.channel v).settlesWith x then s.part.takeSample v x else s.part } := rfl

theorem exec_settleMiss (v : ValveId) (s : State) :
    exec (.settleMiss v) s =
      .next { s with part := if (s.part.channel v).settleExpires then s.part.settleMiss v else s.part } := rfl

theorem settlesWith_iff (ch : Channel) (x : Sample) :
    ch.settlesWith x = true ↔
      ch.state = .track ∧ ∃ left n, ch.settle = some ⟨left, n⟩ ∧ 0 < left ∧
        4 ≤ countInBand n (inBand x.current.toNat ch.target) := by
  rw [Channel.settlesWith, isTrack_eq_decide, Bool.and_eq_true, decide_eq_true_eq]
  refine and_congr_right fun _ => ?_
  cases ch.settle with
  | none => simp
  | some t => obtain ⟨left, n⟩ := t; simp

theorem settleExpires_iff (ch : Channel) :
    ch.settleExpires = true ↔ ch.state = .track ∧ ∃ left n, ch.settle = some ⟨left, n⟩ ∧ left ≤ 1 := by
  rw [Channel.settleExpires, isTrack_eq_decide, Bool.and_eq_true, decide_eq_true_eq]
  refine and_congr_right fun _ => ?_
  cases ch.settle with
  | none => simp
  | some t => obtain ⟨left, n⟩ := t; simp

theorem countInBand_settle (n i t : Nat) :
    countInBand n (inBand i t) = if (i - t) + (t - i) ≤ max 20 (3 * t / 100) then n + 1 else 0 := by
  have hband : inBand i t = true ↔ (i - t) + (t - i) ≤ max 20 (3 * t / 100) := by rw [inBand, decide_eq_true_eq]; rfl
  simp only [countInBand, hband]

/-- Settles O45. -/
theorem settleSupervision : Obligations.SettleSupervision := by
  unfold Obligations.SettleSupervision
  intro v x s p ch i sampled
  have htrack : ch.state = .track → p.analyzer.state ≠ .capturing v →
      exec (.coilCurrentSample v x) s =
        .next { s with part := p.setChannel v (({ ch with measured := i } : Channel).settleSample x) } := fun hs ha => by
    rw [exec_coilCurrentSample, takeSample_track x hs, trackSample_uncaptured x ha]
  refine ⟨fun h => ?_, fun hs ha hn => ?_, fun h => ⟨?_, ?_⟩, fun left n hs hrun => ?_⟩
  · rw [exec_coilCurrentSample, takeSample_quiet x h]
    rfl
  · rw [htrack hs ha, settleSample_stopped x (ch := { ch with measured := i }) hn]
  · rw [exec_settleSuccess, if_neg]
    rw [settlesWith_iff]
    rintro ⟨hs, left, n, hrun, -⟩
    exact h.elim (fun h => h hs) fun h => by rw [h] at hrun; cases hrun
  · rw [exec_settleMiss, if_neg]
    rw [settleExpires_iff]
    rintro ⟨hs, left, n, hrun, -⟩
    exact h.elim (fun h => h hs) fun h => by rw [h] at hrun; cases hrun
  · intro band n'
    have hn : countInBand n (inBand x.current.toNat ch.target) = n' := countInBand_settle n _ _
    clear_value n'
    have hrun' : ({ ch with measured := i } : Channel).settle = some ⟨left, n⟩ := hrun
    have htarget : ({ ch with measured := i } : Channel).target = ch.target := rfl
    have hsettles : ch.settlesWith x = true ↔ 0 < left ∧ 4 ≤ n' := by
      rw [settlesWith_iff, hrun, ← hn]
      constructor
      · rintro ⟨-, l, m, hlm, h⟩
        cases hlm
        exact h
      · exact fun h => ⟨hs, left, n, rfl, h⟩
    have hexpires : ch.settleExpires = true ↔ left ≤ 1 := by
      rw [settleExpires_iff, hrun]
      constructor
      · rintro ⟨-, l, m, hlm, h⟩
        cases hlm
        exact h
      · exact fun h => ⟨hs, left, n, rfl, h⟩
    refine ⟨fun ha => ⟨fun h0 => ?_, fun h0 h4 => ?_, fun h0 h4 => ?_⟩, fun h => ?_, fun h => ?_,
      fun h => ?_⟩
    · rw [htrack hs ha, settleSample_over (n := n) x (by rw [← h0]; exact hrun')]
    · rw [htrack hs ha, settleSample_running x hrun' h0, hn, if_neg (by omega)]
    · have hsample : exec (.coilCurrentSample v x) s = sampled { ch with settle := none, misses := 0 } := by
        rw [htrack hs ha, settleSample_running x hrun' h0, hn, if_pos h4]
      refine ⟨hsample, ?_⟩
      rw [exec_settleSuccess, if_pos (hsettles.2 ⟨h0, h4⟩), ← exec_coilCurrentSample, hsample]
    · rw [exec_settleSuccess, if_neg (by rw [hsettles]; omega)]
    · rw [exec_settleMiss, if_neg (by rw [hexpires]; omega)]
    · intro p1
      refine ⟨fun hm => ?_, fun hm => ⟨_, ?_, enterFault_entered p1 v .settle ch.target⟩⟩
      · rw [exec_settleMiss, if_pos (hexpires.2 h), Part.settleMiss, if_neg (Nat.not_le.2 hm)]
      · rw [exec_settleMiss, if_pos (hexpires.2 h), Part.settleMiss, if_pos hm]

/-! ### The driver fault lines (R101, R161) -/

theorem exec_driverLine (v : ValveId) (asserted : Bool) (s : State) :
    exec (.driverLine v asserted) s =
      .next { s with part := if s.part.driverFault v = asserted then s.part else s.part.driverChange v asserted } := rfl

theorem driverFaults_eq (st : ChannelState) : st.driverFaults = !st.isOffOrFault := by cases st <;> rfl

/-- Settles O46. -/
theorem driverLine : Obligations.DriverLine := by
  unfold Obligations.DriverLine
  intro v asserted s p ch p1
  refine ⟨fun h => ?_, fun h hq => ?_, fun h ha hs => ⟨_, ?_, enterFault_entered p1 v .driver 0⟩⟩
  · rw [exec_driverLine, if_pos h]
  · have hstays : ¬(asserted && ch.state.driverFaults) = true := by
      rw [driverFaults_eq]
      rcases hq with hq | hq <;> simp [hq]
    rw [exec_driverLine, if_neg h, Part.driverChange, if_neg hstays]
    rfl
  · have hfaults : (asserted && ch.state.driverFaults) = true := by rw [driverFaults_eq, ha, hs]; rfl
    rw [exec_driverLine, if_neg h, Part.driverChange, if_pos hfaults]
    rfl

end Sys2Proof.Machine
end

section
/-! The samples of a channel that is searched, and of one that is captured in TRACK (R110 to R119). -/

namespace Sys2Proof.Machine

/-! ### The trial's and the trace's own share of a sample -/

theorem copySample_eq (a : Analyzer) (i t : Nat) :
    a.copySample i t =
      { a with
        hand := if a.trace = .capturing then a.hand.map fun y => { y with samples := y.samples ++ [⟨i, t⟩] } else a.hand } := by
  unfold Analyzer.copySample
  split <;> rfl

/-- The analyzer with a sample in its buffer, and in the trace in hand while it is captured. -/
def Analyzer.recorded (a : Analyzer) (i t : Nat) : Analyzer :=
  { a with
    buffer := a.buffer ++ [i]
    hand := if a.trace = .capturing then a.hand.map fun y => { y with samples := y.samples ++ [⟨i, t⟩] } else a.hand }

theorem searchSample_preDrive {h : Search} {k : Nat} (p : Part) (x : Sample) (hp : h.phase = .preDrive k) :
    p.searchSample h x =
      p.setAnalyzer { p.analyzer with state := .searching { h with phase := .preDrive (k + 1) } } := by
  rw [Part.searchSample, hp]

theorem searchSample_step {h : Search} (p : Part) (x : Sample) (hp : h.phase = .step) :
    p.searchSample h x =
      if 63 ≤ p.analyzer.buffer.length then (p.setAnalyzer (p.analyzer.recorded x.current.toNat 800)).endTrial h
      else p.setAnalyzer (p.analyzer.recorded x.current.toNat 800) := by
  have hrecorded : ∀ i t, { p.analyzer.copySample i t with buffer := (p.analyzer.copySample i t).buffer ++ [i] } =
      p.analyzer.recorded i t := fun i t => by rw [copySample_eq]; rfl
  rw [Part.searchSample, hp]
  simp only [hrecorded, analyzer_setAnalyzer]
  simp [Analyzer.recorded]

theorem captureSample_eq (p : Part) (v : ValveId) (x : Sample) :
    p.captureSample v x =
      if 63 ≤ p.analyzer.buffer.length then
        (p.setAnalyzer (p.analyzer.recorded x.current.toNat (p.channel v).target)).endCapture
      else p.setAnalyzer (p.analyzer.recorded x.current.toNat (p.channel v).target) := by
  have hrecorded : ∀ i t, { p.analyzer.copySample i t with buffer := (p.analyzer.copySample i t).buffer ++ [i] } =
      p.analyzer.recorded i t := fun i t => by rw [copySample_eq]; rfl
  rw [Part.captureSample]
  simp only [hrecorded, analyzer_setAnalyzer]
  simp [Analyzer.recorded]

/-! ### The end of a trial (R111 to R113) -/

/-- The part once a step's last sample has completed the trial capture, if there is one. -/
def Part.captureDone (p : Part) : Part := if p.analyzer.trace = .capturing then p.completeTrace else p

theorem captureDone_eq (p : Part) :
    p.captureDone =
      { p with
        analyzer :=
          { p.analyzer with
            trace := if p.analyzer.trace = .capturing then .writing else p.analyzer.trace
            hand :=
              if p.analyzer.trace = .capturing then p.analyzer.hand.map fun t => { t with mark := some .complete }
              else p.analyzer.hand }
        engine := if p.analyzer.trace = .capturing then { p.engine with trace := true } else p.engine } := by
  unfold Part.captureDone
  by_cases h : p.analyzer.trace = .capturing
  · simp only [h, if_true]
    rfl
  · simp only [h, if_false]

/-- A step's last sample recorded, and the trial capture completed with it, if there is one (R116). -/
theorem captureDone_recorded (p : Part) (i : Nat) :
    (p.setAnalyzer (p.analyzer.recorded i 800)).captureDone =
      (let copied := if p.analyzer.trace = .capturing then
         p.analyzer.hand.map fun t => { t with samples := t.samples ++ [⟨i, 800⟩] } else p.analyzer.hand
       { p with
         analyzer :=
           { p.analyzer with
             buffer := p.analyzer.buffer ++ [i]
             trace := if p.analyzer.trace = .capturing then .writing else p.analyzer.trace
             hand :=
               if p.analyzer.trace = .capturing then copied.map fun t => { t with mark := some .complete }
               else p.analyzer.hand }
         engine := if p.analyzer.trace = .capturing then { p.engine with trace := true } else p.engine }) := by
  rw [captureDone_eq]
  by_cases h : p.analyzer.trace = .capturing
  · simp only [Part.setAnalyzer, Analyzer.recorded, h, if_true]
  · simp only [Part.setAnalyzer, Analyzer.recorded, h, if_false]

theorem searchStops_iff (best : Option BestTrial) (i reach : Nat) :
    searchStops best i reach = true ↔ (∃ b, best = some b ∧ reach ≤ i - b.gain) ∨ 15 ≤ i := by
  cases best <;> simp [searchStops]

theorem endTrial_eq {p q : Part} {h : Search} {best : Option BestTrial} {reach : Nat}
    (hdone : p.captureDone = q) (hbest : betterTrial h.best h.gain (trialScore p.analyzer.buffer) = best)
    (hreach : (p.channel h.valve).searchReach = reach) :
    p.endTrial h = if searchStops best h.gain reach then q.completeSearch h best else q.nextTrial h best := by
  have hbuffer : p.captureDone.analyzer.buffer = p.analyzer.buffer := by rw [captureDone_eq]
  have hchannel : p.captureDone.channel h.valve = p.channel h.valve := by rw [captureDone_eq]; rfl
  rw [← hdone, ← hbest, ← hreach, ← hbuffer, ← hchannel]
  rfl

theorem channel_evalReady (p : Part) (c : CornerId) (v : ValveId) : (p.evalReady c).channel v = p.channel v := rfl

theorem currentAt_congr {p q : Part} {v : ValveId} (f : Nat) (hmap : q.map v = p.map v)
    (hheat : (q.channel v).heat = (p.channel v).heat) : q.currentAt v f = p.currentAt v f := by
  rw [Part.currentAt, Part.currentAt, hmap, hheat]

/-- A search that ends TUNED: the channel is in TRACK at the best gain (R92, R95, R113). -/
theorem completeSearch_tuned (p : Part) (h : Search) (b : BestTrial) :
    p.completeSearch h (some b) =
      { (({ p with analyzer := { p.analyzer with state := .idle } } : Part).setChannel h.valve
          { p.channel h.valve with
            state := .track, tunedGain := some (Fin.ofNat 16 b.gain)
            target := p.currentAt h.valve (p.channel h.valve).drive, misses := 0
            settle := some ⟨20 * (p.channel h.valve).settleTimeout, 0⟩ }).evalReady (cornerOf h.valve) with
        journal :=
          (p.journal.hand (.tuned h.valve (h.gain + 1) b) p.timer.frame).hand
            (.channelState h.valve .tune .track (.searchDone b.gain)) (p.channel h.valve).frame } := by
  let p3 : Part := (({ p with analyzer := { p.analyzer with state := .idle } } : Part).hand
    (.tuned h.valve (h.gain + 1) b) p.timer.frame).setChannel h.valve
      { p.channel h.valve with tunedGain := some (Fin.ofNat 16 b.gain) }
  have hchannel : p3.channel h.valve = { p.channel h.valve with tunedGain := some (Fin.ofNat 16 b.gain) } :=
    channel_setChannel_self _ _ _
  have hcurrent : ∀ f, p3.currentAt h.valve f = p.currentAt h.valve f := fun f =>
    currentAt_congr f rfl (by rw [hchannel])
  have htrack : p3.enterTrack h.valve =
      (p3.setChannel h.valve
        { p.channel h.valve with
          state := .track, tunedGain := some (Fin.ofNat 16 b.gain)
          target := p.currentAt h.valve (p.channel h.valve).drive, misses := 0
          settle := some ⟨20 * (p.channel h.valve).settleTimeout, 0⟩ }).evalReady (cornerOf h.valve) := by
    rw [Part.enterTrack, hchannel, hcurrent]
    rfl
  show (p3.enterTrack h.valve).handChange h.valve .tune (.searchDone b.gain) = _
  rw [htrack, Part.handChange, channel_evalReady, channel_setChannel_self]
  simp only [p3, setChannel_setChannel]
  rfl

theorem nextTrial_eq (p : Part) (h : Search) (best : Option BestTrial) :
    p.nextTrial h best =
      { p.setChannel h.valve { p.channel h.valve with target := 200 } with
        analyzer := { p.analyzer with state := .searching ⟨h.valve, h.gain + 1, .preDrive 0, best⟩ } } := rfl

theorem trialEnds_preDrive {a : Analyzer} {h : Search} {k : Nat} (hs : a.state = .searching h)
    (hp : h.phase = .preDrive k) : a.trialEnds = none := by
  simp only [Analyzer.trialEnds, hs, hp]

theorem trialEnds_step {a : Analyzer} {h : Search} (hs : a.state = .searching h) (hp : h.phase = .step) :
    a.trialEnds = if 63 ≤ a.buffer.length then some h.valve else none := by
  simp only [Analyzer.trialEnds, hs, hp, Nat.reduceLeDiff]

theorem exec_trialEnd_none {x : Sample} {s : State} (h : s.part.analyzer.trialEnds = none) :
    exec (.trialEnd x) s = .next s := by
  show execTrialEnd x s = _
  rw [execTrialEnd, h]

theorem exec_trialEnd_some {x : Sample} {s : State} {v : ValveId} (h : s.part.analyzer.trialEnds = some v) :
    exec (.trialEnd x) s = exec (.coilCurrentSample v x) s := by
  show execTrialEnd x s = _
  rw [execTrialEnd, h]
  rfl

/-- Settles O50. -/
theorem trialSamples : Obligations.TrialSamples := by
  unfold Obligations.TrialSamples
  rintro v x s h p ch a i hs ha rfl p1 copied
  have hsample : exec (.coilCurrentSample h.valve x) s = .next { s with part := p1.searchSample h x } := by
    rw [exec_coilCurrentSample, takeSample_searching x hs ha rfl]
    rfl
  refine ⟨fun k hp => ⟨?_, ?_⟩, fun hp hlen => ⟨?_, ?_⟩, fun hp hlen => ?_⟩
  · exact exec_trialEnd_none (trialEnds_preDrive ha hp)
  · rw [hsample, searchSample_preDrive p1 x hp]
    rfl
  · exact exec_trialEnd_none (by rw [trialEnds_step ha hp, if_neg (by omega)])
  · have hshort : ¬63 ≤ p1.analyzer.buffer.length := Nat.not_le.2 hlen
    rw [hsample, searchSample_step p1 x hp, if_neg hshort]
    rfl
  · intro score best stops p2 p3
    have hbest : betterTrial h.best h.gain score = best := by
      simp only [best]
      cases score <;> cases h.best <;> rfl
    have hp2 : (p1.setAnalyzer (p1.analyzer.recorded i 800)).captureDone = p2 := captureDone_recorded p1 i
    have hchannel : p2.channel h.valve = { ch with measured := i } := channel_setChannel_self _ _ _
    have hended : exec (.coilCurrentSample h.valve x) s =
        .next { s with
          part := if searchStops best h.gain ch.searchReach then p2.completeSearch h best else p2.nextTrial h best } := by
      have hfull : 63 ≤ p1.analyzer.buffer.length := hlen
      have hreach : ((p1.setAnalyzer (p1.analyzer.recorded i 800)).channel h.valve).searchReach = ch.searchReach :=
        by
          rw [channel_setAnalyzer, channel_setChannel_self]
      rw [hsample, searchSample_step p1 x hp, if_pos hfull, endTrial_eq hp2 hbest hreach]
    have hcurrent : ∀ f, p2.currentAt h.valve f = p.currentAt h.valve f := fun f =>
      currentAt_congr f rfl (by rw [hchannel])
    refine ⟨?_, fun hgo => ?_, fun b hstop hb => ?_, fun hstop hb => ⟨_, ?_, enterFault_entered _ h.valve .untunable 0⟩⟩
    · exact exec_trialEnd_some (by rw [trialEnds_step ha hp, if_pos hlen])
    · rw [hended, if_neg (fun hs => hgo ((searchStops_iff _ _ _).1 hs)), nextTrial_eq, hchannel]
    · rw [hended, if_pos ((searchStops_iff _ _ _).2 hstop), hb, completeSearch_tuned, hchannel, hcurrent]
      rfl
    · rw [hended, if_pos ((searchStops_iff _ _ _).2 hstop), hb]
      rfl

/-! ### A track capture (R117, R119) -/

theorem exec_captureEnd_none {x : Sample} {s : State} (h : s.part.analyzer.captureEnds = none) :
    exec (.captureEnd x) s = .next s := by
  show execCaptureEnd x s = _
  rw [execCaptureEnd, h]

theorem exec_captureEnd_some {x : Sample} {s : State} {v : ValveId} (h : s.part.analyzer.captureEnds = some v) :
    exec (.captureEnd x) s = exec (.coilCurrentSample v x) s := by
  show execCaptureEnd x s = _
  rw [execCaptureEnd, h]
  rfl

theorem captureEnds_capturing {a : Analyzer} {v : ValveId} (h : a.state = .capturing v) :
    a.captureEnds = if 63 ≤ a.buffer.length then some v else none := by
  simp only [Analyzer.captureEnds, h, Nat.reduceLeDiff]

theorem channel_endCapture (p : Part) (v : ValveId) : p.endCapture.channel v = p.channel v := rfl

theorem trackSample_captured {p : Part} {v : ValveId} (x : Sample) (h : p.analyzer.state = .capturing v) :
    (p.measuring v x.current.toNat).trackSample v x =
      ((p.measuring v x.current.toNat).captureSample v x).setChannel v
        ((((p.measuring v x.current.toNat).captureSample v x).channel v).settleSample x) := by
  have hstate : (p.measuring v x.current.toNat).analyzer.state = .capturing v := h
  simp only [Part.trackSample, hstate, if_true]

/-- Settles O52. -/
theorem traceCapture : Obligations.TraceCapture := by
  unfold Obligations.TraceCapture
  intro v x s p a i hs ha htr copied
  let settled : Channel := ({ p.channel v with measured := i } : Channel).settleSample x
  have hchannel : (p.measuring v i).channel v = { p.channel v with measured := i } := measuring_channel p v i
  have hrecorded : (p.measuring v i).analyzer.recorded i ((p.measuring v i).channel v).target =
      { a with buffer := a.buffer ++ [i], hand := copied } := by
    rw [hchannel]
    show Analyzer.recorded a i (p.channel v).target = _
    rw [Analyzer.recorded, htr]
    simp only [if_true]
    rfl
  have hsample : exec (.coilCurrentSample v x) s =
      .next { s with
        part := ((p.measuring v i).captureSample v x).setChannel v
          ((((p.measuring v i).captureSample v x).channel v).settleSample x) } := by
    rw [exec_coilCurrentSample, takeSample_track x hs, trackSample_captured x ha]
  have hlen : (p.measuring v i).analyzer.buffer.length = a.buffer.length := rfl
  refine ⟨{ s with part := ({ p with analyzer := { a with state := .idle } } : Part).setChannel v settled }, ?_,
    fun hn => ⟨?_, ?_⟩, fun hn => ⟨?_, ?_⟩⟩
  · have hother : ({ a with state := .idle } : Analyzer).state ≠ .capturing v := by simp
    exact congrArg (fun q => Host.Outcome.next { s with part := q })
      ((takeSample_track (p := { p with analyzer := { a with state := .idle } }) x hs).trans
        (trackSample_uncaptured x hother))
  · exact exec_captureEnd_none (by rw [captureEnds_capturing ha, if_neg (Nat.not_le.2 hn)])
  · rw [hsample, captureSample_eq, hlen, if_neg (Nat.not_le.2 hn), hrecorded, channel_setAnalyzer, hchannel]
    exact congrArg Host.Outcome.next (congrArg (fun q => ({ s with part := q } : State)) (by
      simp [Part.measuring, Part.setChannel, Part.setAnalyzer, settled]))
  · exact exec_captureEnd_some (by rw [captureEnds_capturing ha, if_pos hn])
  · rw [hsample, captureSample_eq, hlen, if_pos hn, hrecorded, channel_endCapture, channel_setAnalyzer, hchannel]
    exact congrArg (fun q => Host.Outcome.next { s with part := q })
      (congrArg (fun y : Vector Channel 8 => ({ p with channels := y, analyzer := _, engine := _ } : Part))
        (Vector.set_set ..))

end Sys2Proof.Machine
end

section
/-! The Write-Back Engine: the choice of an item, its words, and the write of a word (chapter 10). -/

namespace Sys2Proof.Machine

/-! ### Choosing an item (R149, R150) -/

theorem exec_engineItemChoice (s : State) :
    exec .engineItemChoice s = .next { s with part := s.part.chooseItem } := rfl

theorem chooseItem_busy {p : Part} (h : p.engine.hand.isSome = true) : p.chooseItem = p := by
  obtain ⟨it, hit⟩ := Option.isSome_iff_exists.1 h
  rw [Part.chooseItem, hit]

theorem chooseItem_none {p : Part} (hh : p.engine.hand = none) (h : p.chosen = none) : p.chooseItem = p := by
  rw [Part.chooseItem, hh, h]

theorem chooseItem_some {p : Part} {kind : ItemKind} {words : List EngineWord} {e : Engine}
    (hh : p.engine.hand = none) (h : p.chosen = some (⟨kind, words⟩, e)) (hw : words ≠ []) :
    p.chooseItem = { p with engine := { e with hand := some ⟨kind, words⟩ } } := by
  have hhand : handOf kind words = some ⟨kind, words⟩ := by rw [handOf, if_neg (by rwa [List.isEmpty_iff])]
  rw [Part.chooseItem, hh, h]
  simp only [hhand]
  rfl

section
variable {p : Part}

theorem chosen_urgent {c : CornerId} {r : List CornerId} (h : p.engine.urgent = c :: r) :
    p.chosen = some (⟨.urgent c, (p.urgentSlot c).words c⟩, { p.engine with urgent := r }) := by
  simp only [Part.chosen, h]

theorem chosen_demand {i : SlotId} {r : List SlotId} (hu : p.engine.urgent = []) (h : p.engine.demand = i :: r) :
    p.chosen = some (⟨.demand i, (p.demandSlot i).words i⟩, { p.engine with demand := r }) := by
  simp only [Part.chosen, hu, h]

theorem chosen_map {v : ValveId} {r : List ValveId} (hu : p.engine.urgent = []) (hd : p.engine.demand = [])
    (h : p.engine.map = v :: r) : p.chosen = some (⟨.map v, mapWords v⟩, { p.engine with map := r }) := by
  simp only [Part.chosen, hu, hd, h]

theorem chosen_owedReply {y : Reply} (hu : p.engine.urgent = []) (hd : p.engine.demand = []) (hm : p.engine.map = [])
    (h : p.engine.reply = true) (hy : p.setup.reply = some y) :
    p.chosen = some (⟨.reply, y.words⟩, { p.engine with reply := false }) := by
  simp only [Part.chosen, hu, hd, hm, h, hy, if_true]

theorem chosen_journal {y : JournalEntry} {r : List JournalEntry} (hu : p.engine.urgent = [])
    (hd : p.engine.demand = []) (hm : p.engine.map = []) (hr : p.engine.reply = false)
    (h : p.journal.staging = y :: r) :
    p.chosen =
      if p.journal.unconsumed < 127 then some (⟨.journal, y.words p.journal.write⟩, p.engine) else none := by
  simp only [Part.chosen, hu, hd, hm, hr, h, Bool.false_eq_true, if_false]

theorem chosen_trace {y : Trace} (hu : p.engine.urgent = []) (hd : p.engine.demand = []) (hm : p.engine.map = [])
    (hr : p.engine.reply = false) (hj : p.journal.staging = []) (h : p.engine.trace = true)
    (hy : p.analyzer.hand = some y) :
    p.chosen = some (⟨.trace, y.words⟩, { p.engine with trace := false }) := by
  simp only [Part.chosen, hu, hd, hm, hr, hj, h, hy, Bool.false_eq_true, if_false, if_true]

theorem chosen_nothing (hu : p.engine.urgent = []) (hd : p.engine.demand = []) (hm : p.engine.map = [])
    (hr : p.engine.reply = false) (hj : p.journal.staging = []) (h : p.engine.trace = false) : p.chosen = none := by
  simp only [Part.chosen, hu, hd, hm, hr, hj, h, Bool.false_eq_true, if_false]

end

/-- The sample words of a trace, each at its place (R119). -/
theorem sampleWords_eq (l : List TraceSample) (k : Nat) :
    sampleWords k l = l.mapIdx fun j x => ⟨sampleOffset (k + j), .fixed x.word, none⟩ := by
  induction l generalizing k with
  | nil => rfl
  | cons x rest ih =>
    rw [sampleWords, ih, List.mapIdx_cons]
    simp only [Nat.add_zero, Nat.add_assoc, Nat.add_comm 1]

theorem traceWords_eq (y : Trace) :
    y.words =
      y.samples.mapIdx (fun k x => ⟨sampleOffset k, .fixed x.word, none⟩) ++
        [⟨traceHeaderOffset, .fixed y.header, some .trace⟩] := by
  rw [Trace.words, sampleWords_eq]
  simp only [Nat.zero_add]

/-- Settles O53. -/
theorem engineItemChoice : Obligations.EngineItemChoice := by
  unfold Obligations.EngineItemChoice
  refine ⟨fun s => ?_, fun i d => ?_, fun c d => ?_⟩
  · intro p e chooses
    have hnothing : e.hand = none → p.chosen = none → exec .engineItemChoice s = .next s := fun hh hc => by
      rw [exec_engineItemChoice, chooseItem_none hh hc]
    have hchooses : ∀ {kind words e'}, e.hand = none → p.chosen = some (⟨kind, words⟩, e') → chooses kind words e' :=
      fun hh hc hw => by rw [exec_engineItemChoice, chooseItem_some hh hc hw]
    refine ⟨fun hb => ?_, fun hh => ⟨fun c r hu => ?_, fun hu => ⟨fun i r hd => ?_, fun hd => ⟨fun v r hm => ?_,
      fun hm => ⟨fun y hr hy => ?_, fun hr => ⟨fun y r hj => ?_, fun hj => ⟨fun y ht hy => ?_, fun ht => ?_⟩⟩⟩⟩⟩⟩⟩
    · rw [exec_engineItemChoice, chooseItem_busy hb]
    · exact hchooses hh (chosen_urgent hu)
    · exact hchooses hh (chosen_demand hu hd)
    · exact hchooses hh (chosen_map hu hd hm)
    · exact hchooses hh (chosen_owedReply hu hd hm hr hy)
    · have hc := chosen_journal hu hd hm hr hj
      refine ⟨fun hroom => hchooses hh (hc.trans (if_pos hroom)), fun hfull => hnothing hh (hc.trans (if_neg ?_))⟩
      exact Nat.not_lt.2 hfull
    · rw [← traceWords_eq]
      exact hchooses hh (chosen_trace hu hd hm hr hj ht hy)
    · exact hnothing hh (chosen_nothing hu hd hm hr hj ht)
  · intro final
    refine ⟨fun t ht hf => ?_, fun f x y hf => ?_, fun f hf => ?_, fun x f hf => ?_, fun r f hf => ?_⟩
    · rw [DemandSlot.words, ht, hf]
      rfl
    all_goals
      simp only [final]
      rw [DemandSlot.words, hf]
      cases d.take <;> rfl
  · intro take final
    refine ⟨fun hf => ?_, fun f hf => ?_, fun f hf => ?_, fun x f hf => ?_, fun r f hf => ?_⟩
    · rw [UrgentSlot.words, hf, List.append_nil]
      simp only [take]
      cases d.take <;> rfl
    all_goals
      simp only [final, take]
      rw [UrgentSlot.words, hf]
      cases d.take <;> rfl

/-! ### Writing a word (R147, R151, R153) -/

theorem exec_engineWordWrite_none {s : State} (h : s.part.engine.hand = none) : exec .engineWordWrite s = .next s := by
  show Host.Outcome.next s.engineWord = _
  rw [State.engineWord, h]

theorem exec_engineWordWrite_some {s : State} {kind : ItemKind} {w : EngineWord} {rest : List EngineWord}
    (h : s.part.engine.hand = some ⟨kind, w :: rest⟩) :
    exec .engineWordWrite s = .next (s.grantWord ⟨kind, w :: rest⟩ w rest) := by
  show Host.Outcome.next s.engineWord = _
  rw [State.engineWord, h]

theorem handOf_eq (kind : ItemKind) (rest : List EngineWord) :
    handOf kind rest = if rest = [] then none else some ⟨kind, rest⟩ := by
  cases rest <;> rfl

/-- A beat with all lanes enabled covers the four bytes of its word. -/
theorem coversByte_partBeat (p : Part) (data : Word) (base a : Nat) :
    coversByte (p.partBeat data) base a ↔ base ≤ a ∧ a < base + 4 := by
  constructor
  · exact fun h => ⟨h.1, h.2.1⟩
  · rintro ⟨hlo, hhi⟩
    refine ⟨hlo, hhi, ?_⟩
    obtain ⟨k, rfl⟩ := Nat.exists_eq_add_of_le hlo
    have hk : k < 4 := by omega
    rw [Nat.add_sub_cancel_left]
    show (15#4).getLsbD k = true
    interval_cases k <;> rfl

theorem isAlarm_iff (e : Event) : e.isAlarm = true ↔ e.kind ∈ [6, 9, 12, 13] := by
  cases e <;> simp [Event.isAlarm, Event.kind]

theorem published_eq {j : Journal} {e : JournalEntry} {r : List JournalEntry} (h : j.staging = e :: r) :
    j.published =
      (let alarm := if e.event.kind ∈ [6, 9, 12, 13] then some j.write else j.alarm
       { j with
         staging := r, write := j.write + 1, alarm := alarm
         attn := decide (j.threshold ≤ (j.write + 1 - j.read).toNat) || alarm.isSome }) := by
  simp only [Journal.published, h, isAlarm_iff]
  rfl

/-- The publication of a trace (R119). -/
theorem publishTrace_eq {p : Part} {y : Trace} (h : p.analyzer.hand = some y) :
    p.publishTrace =
      { p with
        analyzer :=
          { p.analyzer with
            trace := .idle, hand := none
            state := if p.analyzer.state = .writing then .idle else p.analyzer.state }
        journal := p.journal.hand (.traceDone y.valve y.mark y.samples.length y.gain) p.timer.frame } := by
  simp only [Part.publishTrace, h]
  rfl

theorem publishWord_of_notice {w : EngineWord} {n : Notice} (p : Part) (h : w.notice = some n) :
    p.publishWord w = p.publish n := by
  rw [Part.publishWord, h]

/-- Settles O54. -/
theorem engineWordWrite : Obligations.EngineWordWrite := by
  unfold Obligations.EngineWordWrite
  intro s p
  refine ⟨exec_engineWordWrite_none, fun kind w rest hh hwf => ?_⟩
  intro data start p1
  have hdata : p.wordData w = data := rfl
  have hpart : (s.grantWord ⟨kind, w :: rest⟩ w rest).part = p1.publishWord w := by
    rw [State.grantWord, handOf_eq]
    rfl
  have hnotice : ∀ n, w.notice = some n → (s.grantWord ⟨kind, w :: rest⟩ w rest).part = p1.publish n := fun n hn => by
    rw [hpart, publishWord_of_notice p1 hn]
  refine ⟨_, exec_engineWordWrite_some hh, rfl, fun b => ?_, fun b => ?_, fun hn => ?_, fun x => hnotice (.demandTake x),
    fun x => hnotice (.demandFinal x), fun x => hnotice (.urgentTake x), fun x => hnotice (.urgentFinal x), fun x => hnotice (.mapResult x), hnotice .reply,
    fun e r hn hj => ?_, fun y hn hy => ?_⟩
  · show (s.mem.writeBeat start (p.partBeat (p.wordData w))).byte b = _
    rw [Memory.byte_writeBeat hwf, hdata]
    simp only [coversByte_partBeat]
    rfl
  · show (s.mem.writeBeat start (p.partBeat (p.wordData w))).parityBit b = _
    rw [Memory.parityBit_writeBeat hwf, hdata]
    simp only [coversByte_partBeat]
    rfl
  · rw [hpart, Part.publishWord, hn]
  · rw [hnotice _ hn]
    show p1.setJournal p.journal.published = _
    rw [published_eq hj]
    rfl
  · rw [hnotice _ hn]
    exact publishTrace_eq (p := p1) hy

end Sys2Proof.Machine
end

section
/-! The target current of a channel, the Heat Monitor, and what reaches a valve on its way (chapters 2, 5, 6, 8). -/

namespace Sys2Proof.Machine

/-! ### The target current (R31, R81, R94, R96, R117) -/

theorem blend_eq_tdiv {s t k r : Nat} (hk : k ≤ r) :
    (blend s t k r : ℤ) = s + Int.tdiv (((t : ℤ) - s) * k) r := by
  rw [blend]
  split
  · next hst =>
    have hstep : ((t : ℤ) - s) * k = ((t - s) * k : Nat) := by push_cast [hst]; rfl
    rw [hstep, ← Int.ofNat_tdiv]
    push_cast
    rfl
  · next hst =>
    have hts : t ≤ s := by omega
    have hstep : ((t : ℤ) - s) * k = -(((s - t) * k : Nat) : ℤ) := by push_cast [hts]; ring
    have hle : (s - t) * k / r ≤ s :=
      (Nat.div_le_of_le_mul (by rw [Nat.mul_comm r]; exact Nat.mul_le_mul_left _ hk)).trans (Nat.sub_le s t)
    rw [hstep, Int.neg_tdiv, ← Int.ofNat_tdiv, Nat.cast_sub hle]
    ring

theorem takeable_eq_false (p : Part) :
    p.takeable = false ↔ ∀ u ∈ p.analyzer.queue, (p.channel u).heat.level = .hot := by
  simp [Part.takeable]

theorem qualifies_iff (a b : Nat) : qualifies a b = true ↔ max 20 (3 * a / 100) < (b - a) + (a - b) := by
  rw [qualifies, decide_eq_true_eq]
  rfl

theorem recompute_stands {p : Part} {v : ValveId}
    (h : (p.channel v).state ≠ .track ∨ p.currentAt v (p.channel v).drive = (p.channel v).target) :
    p.recompute v = p := by
  rw [Part.recompute, if_neg]
  rintro ⟨hs, hne⟩
  exact h.elim (fun h => h hs) hne

theorem recompute_replaces {p : Part} {v : ValveId} (hs : (p.channel v).state = .track)
    (hne : p.currentAt v (p.channel v).drive ≠ (p.channel v).target) :
    p.recompute v = p.replaceTarget v (p.currentAt v (p.channel v).drive) := by
  rw [Part.recompute, if_pos ⟨hs, hne⟩]

theorem trackTrigger_stands {p : Part} {v : ValveId}
    (h : ¬(p.analyzer.trace = .armed v ∧ p.analyzer.state = .idle ∧ p.takeable = false)) : p.trackTrigger v = p := by
  rw [Part.trackTrigger, if_neg h]

theorem trackTrigger_captures {p : Part} {v : ValveId} {g : Fin 16}
    (h : p.analyzer.trace = .armed v ∧ p.analyzer.state = .idle ∧ p.takeable = false)
    (hg : (p.channel v).tunedGain = some g) :
    p.trackTrigger v =
      { p with
        analyzer :=
          { p.analyzer with
            state := .capturing v, buffer := [], trace := .capturing
            hand := some ⟨v, g.val, (p.channel v).frame, [], none⟩ } } := by
  rw [Part.trackTrigger, if_pos h, hg]
  rfl

theorem drive_cases (ch : Channel) :
    (ch.phase = .none → ch.drive = ch.setpoint) ∧ (∀ u, ch.phase = .override u → ch.drive = u) ∧
      (∀ u l first, ch.phase = .release u l 0 first → ch.drive = u) ∧
      (∀ u l k first, ch.phase = .release u l k first → 1 ≤ k → ch.drive = blend u ch.setpoint k l) := by
  refine ⟨fun h => ?_, fun u h => ?_, fun u l first h => ?_, fun u l k first h hk => ?_⟩
  · rw [Channel.drive, h]
  · rw [Channel.drive, h]
  · rw [Channel.drive, h]
    rfl
  · rw [Channel.drive, h]
    exact if_neg (by omega)

/-- Settles O26. -/
theorem targetRecomputed : Obligations.TargetRecomputed := by
  unfold Obligations.TargetRecomputed
  refine ⟨fun p v f => ?_, drive_cases, fun s t k r _ hk => blend_eq_tdiv hk, fun p v => ?_, fun p v => ?_⟩
  · intro h ceiling
    have hceiling : h.ceiling = ceiling := rfl
    rw [← hceiling]
    rfl
  · intro ch new qualifying started triggered
    have htriggered : started.analyzer.trace = .armed v ∧ started.analyzer.state = .idle ∧ started.takeable = false ↔
        triggered := by
      have hheat : ∀ u, (started.channel u).heat.level = (p.channel u).heat.level := fun u => by
        by_cases hu : u = v
        · subst hu
          rw [channel_setChannel_self]
        · rw [channel_setChannel_ne p _ hu]
      rw [takeable_eq_false]
      simp only [hheat]
      rfl
    have hreplaced : ch.state = .track → new ≠ ch.target →
        p.recompute v = if qualifying then started.trackTrigger v else p.setChannel v { ch with target := new } :=
      fun hs hne => by
        rw [recompute_replaces hs hne, Part.replaceTarget]
        simp only [qualifies_iff]
        rfl
    refine ⟨recompute_stands, fun hs hne => ⟨fun hq => ?_, fun hq ht => ?_, fun g hq ht hg => ?_⟩⟩
    · rw [hreplaced hs hne, if_neg hq]
    · rw [hreplaced hs hne, if_pos hq, trackTrigger_stands fun h => ht (htriggered.1 h)]
    · have hchannel : started.channel v = { ch with target := new, settle := some ⟨20 * ch.settleTimeout, 0⟩ } :=
        channel_setChannel_self p v _
      rw [hreplaced hs hne, if_pos hq, trackTrigger_captures (htriggered.2 ht) (by rw [hchannel]; exact hg), hchannel]
      rfl
  · intro ch
    refine ⟨fun h => ?_, fun x hs hg => ?_, fun g hs hg => ?_, fun h hs ha => ?_⟩
    · rcases h with h | ⟨x, h⟩ | h <;> rw [Part.coilOutput, h]
    · rw [Part.coilOutput, hs, hg]
    · rcases hs with ⟨x, hs⟩ | hs <;> rw [Part.coilOutput, hs, hg]
    · rw [Part.coilOutput, hs, ha]

/-! ### The Heat Monitor (R109, R122 to R124, R126) -/

section
variable {h : Heat}

theorem evaluated_cool (hl : h.level = .cool) :
    h.evaluated = if h.hotLevel ≤ h.index then .hot else if h.warmLevel ≤ h.index then .warm else .cool := by
  rw [Heat.evaluated, hl]

theorem evaluated_warm (hl : h.level = .warm) :
    h.evaluated = if h.hotLevel ≤ h.index then .hot else if h.index + 2048 < h.warmLevel then .cool else .warm := by
  rw [Heat.evaluated, hl]

theorem evaluated_hot (hl : h.level = .hot) :
    h.evaluated =
      if h.index + 2048 < h.hotLevel then (if h.index + 2048 < h.warmLevel then .cool else .warm) else .hot := by
  rw [Heat.evaluated, hl]

end

/-- A channel's level set to what its evaluation gives. -/
def Part.levelled (p : Part) (v : ValveId) : Part :=
  p.setChannel v { p.channel v with heat := { (p.channel v).heat with level := (p.channel v).heat.evaluated } }

theorem levelled_channel (p : Part) (v : ValveId) :
    (p.levelled v).channel v =
      { p.channel v with heat := { (p.channel v).heat with level := (p.channel v).heat.evaluated } } :=
  channel_setChannel_self _ _ _

/-- The THERMAL event of an evaluation (R124). -/
def Part.thermalEvent (p : Part) (v : ValveId) : Event :=
  .thermal v (p.channel v).heat.level (p.channel v).heat.evaluated (p.channel v).heat.index
    ((p.channel v).heat.ceilingOf (p.channel v).heat.evaluated)

theorem evaluateLevel_same {p : Part} {v : ValveId} (h : (p.channel v).heat.evaluated = (p.channel v).heat.level) :
    p.evaluateLevel v = p := by
  unfold Part.evaluateLevel
  exact if_pos h

theorem evaluateLevel_changed {p : Part} {v : ValveId} (h : (p.channel v).heat.evaluated ≠ (p.channel v).heat.level) :
    p.evaluateLevel v =
      ((((p.levelLook v).setChannel v
          { (p.levelLook v).channel v with
            heat := { (p.channel v).heat with level := (p.channel v).heat.evaluated } }).recompute v).levelLook v).hand
        (p.thermalEvent v) p.timer.frame := by
  unfold Part.evaluateLevel
  exact if_neg h

theorem levelLook_looks {p : Part} {v : ValveId} (h : (p.channel v).state = .tune .waiting ∧ p.analyzer.state = .idle) :
    p.levelLook v = p.look := if_pos h

theorem levelLook_stands {p : Part} {v : ValveId}
    (h : ¬((p.channel v).state = .tune .waiting ∧ p.analyzer.state = .idle)) : p.levelLook v = p := if_neg h

/-- A look takes a channel, or changes nothing. -/
theorem look_cases (p : Part) : p.look = p ∨ ∃ u queue, p.look = p.startSearch u queue := by
  unfold Part.look
  cases lookAt (fun v => (p.channel v).heat.level == .hot) [] p.analyzer.queue with
  | none => exact .inl rfl
  | some x => exact .inr ⟨x.1, x.2, rfl⟩

theorem journal_look (p : Part) : p.look.journal = p.journal := by
  rcases look_cases p with h | ⟨u, queue, h⟩ <;> rw [h]
  rfl

theorem journal_recompute (p : Part) (v : ValveId) : (p.recompute v).journal = p.journal := by simp

theorem hand_eq (p : Part) (e : Event) (f : Frame) : p.hand e f = { p with journal := p.journal.hand e f } := rfl

theorem startSearch_heat (p : Part) (u : ValveId) (queue : List ValveId) (v : ValveId) :
    ((p.startSearch u queue).channel v).heat = (p.channel v).heat := by
  show ((p.setChannel u { p.channel u with state := .tune .searching, target := 200 }).channel v).heat = _
  rw [channel_setChannel]
  split
  · next h => rw [h]
  · rfl

/-- The look that an earlier event has caused is made first, and then it is as if it had been made before (log 12). -/
theorem evaluateLevel_look {p : Part} {v : ValveId} (h : (p.channel v).heat.evaluated ≠ (p.channel v).heat.level)
    (hl : (p.channel v).state = .tune .waiting ∧ p.analyzer.state = .idle) :
    p.evaluateLevel v = p.look.evaluateLevel v := by
  rcases look_cases p with hlook | ⟨u, queue, hlook⟩
  · rw [hlook]
  · have hheat := startSearch_heat p u queue v
    have hbusy : (p.startSearch u queue).levelLook v = p.startSearch u queue :=
      levelLook_stands fun hs => absurd hs.2 (by simp [Part.startSearch])
    have hevent : (p.startSearch u queue).thermalEvent v = p.thermalEvent v := by
      rw [Part.thermalEvent, hheat]
      rfl
    rw [evaluateLevel_changed h, evaluateLevel_changed (p := p.look) (by rw [hlook, hheat]; exact h), levelLook_looks hl,
      hlook, hheat, hbusy, hevent]
    rfl

theorem recompute_levelLook {p : Part} {v : ValveId}
    (h : ¬((p.channel v).state = .tune .waiting ∧ p.analyzer.state = .idle)) :
    (p.recompute v).levelLook v = p.recompute v := by
  by_cases hs : (p.channel v).state = .track
  · exact levelLook_stands fun hl => by
      rw [(recompute_loop p v).1] at hl
      exact absurd (hs.symm.trans hl.1) (by simp)
  · rw [recompute_stands (.inl hs), levelLook_stands h]

theorem evaluateLevel_quiet {p : Part} {v : ValveId} (h : (p.channel v).heat.evaluated ≠ (p.channel v).heat.level)
    (hl : ¬((p.channel v).state = .tune .waiting ∧ p.analyzer.state = .idle)) :
    p.evaluateLevel v =
      { (p.levelled v).recompute v with
        journal := p.journal.hand (p.thermalEvent v) p.timer.frame } := by
  have hmoved : ¬(((p.levelled v).channel v).state = .tune .waiting ∧ (p.levelled v).analyzer.state = .idle) := by
    rw [levelled_channel]
    exact hl
  rw [evaluateLevel_changed h, levelLook_stands hl]
  show (((p.levelled v).recompute v).levelLook v).hand _ _ = _
  rw [recompute_levelLook hmoved, hand_eq, journal_recompute]
  rfl

theorem evaluateLevel_allHot {p : Part} {v : ValveId} (h : (p.channel v).heat.evaluated ≠ (p.channel v).heat.level)
    (hl : (p.channel v).state = .tune .waiting ∧ p.analyzer.state = .idle)
    (hhot : ∀ u ∈ p.analyzer.queue, (p.channel u).heat.level = .hot) :
    p.evaluateLevel v =
      { (p.levelled v).look with
        journal := p.journal.hand (p.thermalEvent v) p.timer.frame } := by
  have hnot : ((p.levelled v).channel v).state ≠ .track := by
    rw [levelled_channel]
    show (p.channel v).state ≠ .track
    rw [hl.1]
    simp
  have hlooks : ((p.levelled v).channel v).state = .tune .waiting ∧ (p.levelled v).analyzer.state = .idle := by
    rw [levelled_channel]
    exact hl
  rw [evaluateLevel_changed h, levelLook_looks hl, look_all_hot hhot]
  show (((p.levelled v).recompute v).levelLook v).hand _ _ = _
  rw [recompute_stands (.inl hnot), levelLook_looks hlooks, hand_eq, journal_look]
  rfl

section
variable (p : Part) (a : Nat) (order : List Nat) (v : ValveId)

theorem judgeTarget_warmLevel (ha : a ≤ 4095) :
    p.judgeTarget .warmLevel a order v.val =
      judgedAs p (if (p.channel v).heat.hotLevel ≤ 16 * a then some .range else none)
        ((p.setChannel v
          { p.channel v with heat := { (p.channel v).heat with warmLevel := 16 * a } }).evaluateLevel v) := by
  rw [Nat.mul_comm 16 a]
  simp only [Part.judgeTarget, Kind.admits, Part.judgeOwner, Part.judgeWarmLevel, judgedAs_ite, judgedAs_none, valveOf_val,
    Part.setHeat, ha, decide_true, if_true]
  split_ifs <;> first | rfl | omega

theorem judgeTarget_hotLevel (ha : a ≤ 4095) :
    p.judgeTarget .hotLevel a order v.val =
      judgedAs p (if 16 * a ≤ (p.channel v).heat.warmLevel then some .range else none)
        ((p.setChannel v
          { p.channel v with heat := { (p.channel v).heat with hotLevel := 16 * a } }).evaluateLevel v) := by
  rw [Nat.mul_comm 16 a]
  simp only [Part.judgeTarget, Kind.admits, Part.judgeOwner, Part.judgeHotLevel, judgedAs_ite, judgedAs_none, valveOf_val,
    Part.setHeat, ha, decide_true, if_true]
  split_ifs <;> first | rfl | omega

end

/-- Settles O47. -/
theorem heatLevels : Obligations.HeatLevels := by
  unfold Obligations.HeatLevels
  refine ⟨fun h hlt => ?_, fun s v => ?_, fun v s => ?_, fun w s v hv => ⟨fun hr => ?_, fun hr => ?_⟩⟩
  · intro i w t
    refine ⟨fun hl _ => ?_, fun hl _ _ => ?_, fun hl _ => ?_, fun hl _ => ?_, fun hl _ => ?_, fun hl _ _ => ?_,
      fun hl _ _ => ?_, fun hl _ _ => ?_, fun hl _ => ?_⟩
    all_goals
      first | rw [evaluated_cool hl] | rw [evaluated_warm hl] | rw [evaluated_hot hl]
      split_ifs <;> first | rfl | omega
  · intro p ch level ceiling moved journal looks allHot
    refine ⟨evaluateLevel_same, evaluateLevel_quiet, fun hne hl hhot => ⟨{ s with part := moved.look }, ?_, evaluateLevel_allHot hne hl hhot⟩,
      fun hne hl _ => ⟨{ s with part := p.look }, ?_, evaluateLevel_look hne hl⟩⟩
    · exact congrArg (fun q => Host.Outcome.next { s with part := q }) (if_pos hl.2)
    · rw [exec_queueLook, if_pos hl.2]
  · intro p ch rise risen
    have hindex : heatStep ch.heat.index (p.heatRise v) = risen - risen / 2048 := by
      have hrise : p.heatRise v = rise := by
        simp only [Part.heatRise, heatRise, rise, sq]
        rfl
      rw [heatStep, hrise]
    rw [← hindex]
    rfl
  · exact exec_judged_valve rfl hr rfl rfl hv (judgeTarget_warmLevel _ _ _ v (Nat.le_of_lt_succ w.arg.isLt))
  · exact exec_judged_valve rfl hr rfl rfl hv (judgeTarget_hotLevel _ _ _ v (Nat.le_of_lt_succ w.arg.isLt))

end Sys2Proof.Machine
end

section
/-! The silence limit, partner notices, and what reaches a valve on its way (R35 to R39, R50, R64, R66). -/

namespace Sys2Proof.Machine

/-! ### Silence and partners (R64, R66) -/

theorem exec_silenceExpiry (c : CornerId) (s : State) :
    exec (.silenceExpiry c) s =
      .next { s with
        part := if s.part.cornerDue c && (s.part.corner c).silenceExpires then s.part.cornerBoundary c else s.part } := rfl

theorem silenceExpires_iff (k : Corner) :
    k.silenceExpires = true ↔ k.state = .run ∧ k.silenceLimit ≤ k.silence + 1 := by
  rw [Corner.silenceExpires, Bool.and_eq_true, beq_iff_eq, decide_eq_true_eq]

theorem cornerBoundary_silent {p : Part} {c : CornerId} (hr : (p.corner c).state = .run)
    (hs : (p.corner c).silenceLimit ≤ (p.corner c).silence + 1) :
    p.cornerBoundary c =
      (p.setCorner c
        { p.corner c with frame := (p.corner c).frame + 1, silence := (p.corner c).silence + 1 }).enterLimp c
          (.silence ((p.corner c).silence + 1)) ((p.corner c).frame + 1) := by
  unfold Part.cornerBoundary
  dsimp only
  rw [if_pos hr, if_pos hs]

theorem exec_partnerNotice (c : CornerId) (s : State) :
    exec (.partnerNotice c) s = .next { s with part := s.part.takePartnerNotice c } := rfl

theorem takePartnerNotice_none {p : Part} {c : CornerId} (h : (p.corner c).notices = []) : p.takePartnerNotice c = p := by
  rw [Part.takePartnerNotice, h]

theorem takePartnerNotice_some {p : Part} {c : CornerId} {n : PartnerNotice} {rest : List PartnerNotice}
    (h : (p.corner c).notices = n :: rest) :
    p.takePartnerNotice c =
      if (p.corner c).state = .run then
        (p.setCorner c { p.corner c with notices := rest }).enterLimp c (.partner n.sender) n.frame
      else p.setCorner c { p.corner c with notices := rest } := by
  rw [Part.takePartnerNotice, h]
  simp only [corner_setCorner_self]

/-- Settles O40. -/
theorem silenceAndPartner : Obligations.SilenceAndPartner := by
  unfold Obligations.SilenceAndPartner
  intro c s p k expires
  have hexpires : (p.cornerDue c && k.silenceExpires) = true ↔ expires := by
    rw [Bool.and_eq_true, cornerDue_iff, silenceExpires_iff, and_assoc]
  refine ⟨fun h => ?_, fun h => ?_, fun h => ?_, fun n rest h => ?_⟩
  · have hdue : p.cornerDue c = true := (Bool.and_eq_true _ _ ▸ hexpires.2 h).1
    obtain ⟨-, -, hrun, hlimit⟩ := id h
    refine ⟨_, ?_, ?_, enterLimp_entered _ c _ _⟩
    · rw [exec_silenceExpiry, if_pos (hexpires.2 h), cornerBoundary_silent hrun hlimit]
    · rw [exec_cornerFrameBoundary, if_pos hdue, cornerBoundary_silent hrun hlimit]
  · rw [exec_silenceExpiry, if_neg fun he => h (hexpires.1 he)]
  · rw [exec_partnerNotice, takePartnerNotice_none h]
  · intro p1
    refine ⟨fun hr => ⟨_, ?_, enterLimp_entered p1 c _ _⟩, fun hr => ?_⟩
    · rw [exec_partnerNotice, takePartnerNotice_some h, if_pos hr]
    · rw [exec_partnerNotice, takePartnerNotice_some h, if_neg hr]

/-! ### Ramp requests and override ends (R35 to R39, R50) -/

theorem exec_rampRequest (v : ValveId) (s : State) :
    exec (.rampRequest v) s = .next { s with part := s.part.nextRampRequest v } := rfl

theorem exec_overrideEnd (v : ValveId) (s : State) :
    exec (.overrideEnd v) s = .next { s with part := s.part.nextOverrideEnd v } := rfl

theorem nextRampRequest_none {p : Part} {v : ValveId} (h : (p.channel v).requests = []) : p.nextRampRequest v = p := by
  rw [Part.nextRampRequest, h]

theorem nextOverrideEnd_none {p : Part} {v : ValveId} (h : (p.channel v).ends = []) : p.nextOverrideEnd v = p := by
  rw [Part.nextOverrideEnd, h]

theorem canReceive_iff (ch : Channel) (r : RampRequest) :
    ch.canReceive r = true ↔ isPast r.frame ch.frame = true ∨ ahead r.frame ch.frame = 1 := by
  rw [Channel.canReceive, Bool.or_eq_true, beq_iff_eq]

theorem nextRampRequest_early {p : Part} {v : ValveId} {r : RampRequest} {rest : List RampRequest}
    (h : (p.channel v).requests = r :: rest) (hr : ¬(p.channel v).canReceive r = true) : p.nextRampRequest v = p := by
  rw [Part.nextRampRequest, h]
  exact if_neg hr

/-- What is on its way to a channel set. -/
def Channel.onWay (ch : Channel) (rs : List RampRequest) (es : List OverrideEnd) : Channel :=
  { ch with requests := rs, ends := es }

theorem receive_onWay (ch : Channel) (running : Bool) (r : RampRequest) (rs : List RampRequest) (es : List OverrideEnd) :
    (ch.onWay rs es).receive running r = (ch.receive running r).onWay rs es := by
  show (if running = false ∨ r.length = 0 then (ch.onWay rs es).step r.target
    else if isPast r.frame ch.frame then (ch.onWay rs es).startRamp ch.previous r.target r.length
    else { ch.onWay rs es with waiting := some { target := r.target, length := r.length } }) = _
  unfold Channel.receive
  split
  · rfl
  · split <;> rfl

/-- What an override end makes of the phase of a channel at a frame (R50, log 31). -/
def Phase.endedBy (n : Frame) (e : OverrideEnd) : Phase → Phase
  | .none => .none
  | .override u =>
    if isPast e.frame n then (if e.release ≤ 1 then .none else .release u e.release 1 e.frame)
    else .release u e.release 0 e.frame
  | .release u l k first => .release u l k first

theorem receiveEnd_eq (ch : Channel) (e : OverrideEnd) :
    ch.receiveEnd e = { ch with phase := ch.phase.endedBy ch.frame e } := by
  obtain ⟨_, _, _, _, phase, _, _, n, _⟩ := ch
  cases phase with
  | none => rfl
  | override u =>
    unfold Channel.receiveEnd Phase.endedBy
    dsimp only
    split <;> rfl
  | release u l k first => rfl

theorem receiveEnd_onWay (ch : Channel) (e : OverrideEnd) (rs : List RampRequest) (es : List OverrideEnd) :
    (ch.onWay rs es).receiveEnd e = (ch.receiveEnd e).onWay rs es := by
  rw [receiveEnd_eq, receiveEnd_eq]
  rfl

/-- The oldest request, once it can be received. -/
theorem nextRampRequest_received {p : Part} {v : ValveId} {r : RampRequest} {rest : List RampRequest}
    (h : (p.channel v).requests = r :: rest) (hr : (p.channel v).canReceive r = true) :
    p.nextRampRequest v =
      p.redriven v (((p.channel v).receive p.timer.running r).onWay rest (p.channel v).ends) := by
  rw [← receive_onWay]
  show _ = (p.setChannel v ({ p.channel v with requests := rest }.receive p.timer.running r)).recompute v
  rw [Part.nextRampRequest, h]
  refine (if_pos hr).trans ?_
  rw [Part.receiveRamp, channel_setChannel_self, setChannel_setChannel]
  rfl

theorem nextOverrideEnd_received {p : Part} {v : ValveId} {e : OverrideEnd} {rest : List OverrideEnd}
    (h : (p.channel v).ends = e :: rest) :
    p.nextOverrideEnd v =
      p.redriven v (((p.channel v).receiveEnd e).onWay (p.channel v).requests rest) := by
  rw [← receiveEnd_onWay]
  show _ = (p.setChannel v ({ p.channel v with ends := rest }.receiveEnd e)).recompute v
  rw [Part.nextOverrideEnd, h]
  show ((p.setChannel v _).receiveOverrideEnd v e) = _
  rw [Part.receiveOverrideEnd, channel_setChannel_self, setChannel_setChannel]

section
variable (ch : Channel) (running : Bool) (r : RampRequest)

theorem receive_step (h : running = false ∨ r.length = 0) :
    ch.receive running r = { ch with setpoint := r.target, ramp := none, waiting := none } := by
  rw [Channel.receive, if_pos h]
  rfl

theorem receive_past (h : running = true) (hl : r.length ≠ 0) (hp : isPast r.frame ch.frame = true) :
    ch.receive running r =
      { ch with
        setpoint := blend ch.previous r.target 1 r.length
        ramp := if r.length ≤ 1 then none else some ⟨ch.previous, r.target, r.length, 1⟩ } := by
  rw [Channel.receive, if_neg (by rw [h]; simpa using hl), if_pos hp]
  rfl

theorem receive_early (h : running = true) (hl : r.length ≠ 0) (hp : ¬isPast r.frame ch.frame = true) :
    ch.receive running r = { ch with waiting := some ⟨r.target, r.length⟩ } := by
  rw [Channel.receive, if_neg (by rw [h]; simpa using hl), if_neg hp]

end

/-- Settles O42. -/
theorem requestsReachValves : Obligations.RequestsReachValves := by
  unfold Obligations.RequestsReachValves
  intro v s p ch past
  have hpast : ∀ f, isPast f ch.frame = true ↔ past f := fun f => isPast_iff f ch.frame
  refine ⟨fun h => ?_, fun r rest h => ?_, fun h => ?_, fun e rest h => ?_⟩
  · rw [exec_rampRequest, nextRampRequest_none h]
  · intro received
    refine ⟨fun hp h1 => ?_, fun hcan => ?_⟩
    · rw [exec_rampRequest, nextRampRequest_early h]
      rw [canReceive_iff, hpast]
      exact fun hc => hc.elim hp h1
    · have hnext := nextRampRequest_received h ((canReceive_iff ch r).2 (hcan.imp_left (hpast _).2))
      refine ⟨fun hstep => ?_, fun hrun hl hp => ?_, fun hrun hl hp => ?_⟩
      · simp only [received]
        rw [exec_rampRequest, hnext, receive_step ch _ r hstep]
        rfl
      · simp only [received]
        rw [exec_rampRequest, hnext, receive_past ch _ r hrun hl ((hpast _).2 hp)]
        rfl
      · simp only [received]
        rw [exec_rampRequest, hnext, receive_early ch _ r hrun hl fun hp' => hp ((hpast _).1 hp')]
        rfl
  · rw [exec_overrideEnd, nextOverrideEnd_none h]
  · intro received
    have hnext := nextOverrideEnd_received h
    have hreceived : ∀ x, ch.phase.endedBy ch.frame e = x → received x := fun x hx => by
      simp only [received]
      rw [exec_overrideEnd, hnext, receiveEnd_eq, hx]
      rfl
    refine ⟨fun hno => hreceived _ ?_, fun u hu hp => hreceived _ ?_, fun u hu hp => hreceived _ ?_⟩
    · cases hph : ch.phase with
      | none => rfl
      | override u => exact absurd hph (hno u)
      | release u l k first => rfl
    · rw [hu]
      exact if_pos ((hpast _).2 hp)
    · rw [hu]
      exact if_neg fun hp' => hp ((hpast _).1 hp')

end Sys2Proof.Machine
end

section
/-! The frame boundary at a channel, and the order of what reaches it (R37, R38, R50, R94). -/

namespace Sys2Proof.Machine

/-! ### What a recomputation does not look at -/

/-- The part with other things on their way to valve v. -/
def Part.onWay (p : Part) (v : ValveId) (rs : List RampRequest) (es : List OverrideEnd) : Part :=
  p.setChannel v ((p.channel v).onWay rs es)

theorem onWay_channel (p : Part) (v : ValveId) (rs : List RampRequest) (es : List OverrideEnd) :
    (p.onWay v rs es).channel v = (p.channel v).onWay rs es := channel_setChannel_self _ _ _

theorem onWay_takeable (p : Part) (v : ValveId) (rs : List RampRequest) (es : List OverrideEnd) :
    (p.onWay v rs es).takeable = p.takeable := by
  have hheat : ∀ u, ((p.onWay v rs es).channel u).heat = (p.channel u).heat := fun u => by
    by_cases hu : u = v
    · rw [hu, onWay_channel]
      rfl
    · rw [Part.onWay, channel_setChannel_ne p _ hu]
  unfold Part.takeable
  simp only [hheat]
  rfl

theorem onWay_trackTrigger (p : Part) (v : ValveId) (rs : List RampRequest) (es : List OverrideEnd) :
    (p.onWay v rs es).trackTrigger v = (p.trackTrigger v).onWay v rs es := by
  by_cases h : p.analyzer.trace = .armed v ∧ p.analyzer.state = .idle ∧ p.takeable = false
  · have h' : (p.onWay v rs es).analyzer.trace = .armed v ∧ (p.onWay v rs es).analyzer.state = .idle ∧
        (p.onWay v rs es).takeable = false := by
      rw [onWay_takeable]
      exact h
    rw [Part.trackTrigger, if_pos h', Part.trackTrigger, if_pos h, onWay_channel]
    rfl
  · rw [trackTrigger_stands h, trackTrigger_stands]
    rw [onWay_takeable]
    exact h

theorem onWay_recompute (p : Part) (v : ValveId) (rs : List RampRequest) (es : List OverrideEnd) :
    (p.onWay v rs es).recompute v = (p.recompute v).onWay v rs es := by
  have hcurrent : ∀ f, (p.onWay v rs es).currentAt v f = p.currentAt v f := fun f =>
    currentAt_congr f rfl (by rw [onWay_channel]; rfl)
  have hset : ∀ ch : Channel, (p.onWay v rs es).setChannel v (ch.onWay rs es) = (p.setChannel v ch).onWay v rs es :=
    fun ch => by rw [Part.onWay, Part.onWay, setChannel_setChannel, channel_setChannel_self, setChannel_setChannel]
  by_cases h : (p.channel v).state = .track ∧ p.currentAt v (p.channel v).drive ≠ (p.channel v).target
  · obtain ⟨hs, hne⟩ := h
    have hs' : ((p.onWay v rs es).channel v).state = .track := by rw [onWay_channel]; exact hs
    have hne' : (p.onWay v rs es).currentAt v ((p.onWay v rs es).channel v).drive ≠ ((p.onWay v rs es).channel v).target := by
      rw [hcurrent, onWay_channel]
      exact hne
    rw [recompute_replaces hs hne, recompute_replaces hs' hne', hcurrent, onWay_channel]
    unfold Part.replaceTarget
    dsimp only
    rw [onWay_channel]
    show (if qualifies (p.channel v).target (p.currentAt v (p.channel v).drive) = true then
        ((p.onWay v rs es).setChannel v (Channel.onWay
          { p.channel v with
            target := p.currentAt v (p.channel v).drive, settle := some (p.channel v).startSettle } rs es)).trackTrigger v
      else (p.onWay v rs es).setChannel v
        (Channel.onWay { p.channel v with target := p.currentAt v (p.channel v).drive } rs es)) = _
    rw [hset, hset, onWay_trackTrigger]
    split <;> rfl
  · rw [recompute_stands, recompute_stands]
    · by_contra hc
      exact h (not_or.1 hc |>.imp_left not_not.1)
    · rw [hcurrent, onWay_channel]
      by_contra hc
      exact h (not_or.1 hc |>.imp_left not_not.1)

theorem onWay_onWay (p : Part) (v : ValveId) (rs rs' : List RampRequest) (es es' : List OverrideEnd) :
    (p.onWay v rs es).onWay v rs' es' = p.onWay v rs' es' := by
  rw [Part.onWay, onWay_channel, Part.onWay, setChannel_setChannel]
  rfl

theorem onWay_self (p : Part) (v : ValveId) : p.onWay v (p.channel v).requests (p.channel v).ends = p :=
  setChannel_channel p v

theorem onWay_receiveRamp (p : Part) (v : ValveId) (r : RampRequest) (rs : List RampRequest) (es : List OverrideEnd) :
    (p.onWay v rs es).receiveRamp v r = (p.receiveRamp v r).onWay v rs es := by
  rw [Part.receiveRamp, Part.receiveRamp, ← onWay_recompute, onWay_channel, receive_onWay]
  unfold Part.onWay
  rw [setChannel_setChannel, channel_setChannel_self, setChannel_setChannel]
  rfl

theorem onWay_receiveOverrideEnd (p : Part) (v : ValveId) (e : OverrideEnd) (rs : List RampRequest)
    (es : List OverrideEnd) :
    (p.onWay v rs es).receiveOverrideEnd v e = (p.receiveOverrideEnd v e).onWay v rs es := by
  rw [Part.receiveOverrideEnd, Part.receiveOverrideEnd, ← onWay_recompute, onWay_channel, receiveEnd_onWay]
  unfold Part.onWay
  rw [setChannel_setChannel, channel_setChannel_self, setChannel_setChannel]

/-- A channel with another target and settle run. -/
def Channel.looped (ch : Channel) (t : Nat) (s : Option SettleRun) : Channel := { ch with target := t, settle := s }

/-- Of its channel a recomputation changes the target and the settle run alone. -/
theorem recompute_channel (p : Part) (v : ValveId) : ∃ t s, (p.recompute v).channel v = (p.channel v).looped t s := by
  have htrigger : ∀ q : Part, (q.trackTrigger v).channel v = q.channel v := fun q => by
    unfold Part.trackTrigger
    split <;> rfl
  by_cases h : (p.channel v).state = .track ∧ p.currentAt v (p.channel v).drive ≠ (p.channel v).target
  · rw [recompute_replaces h.1 h.2, Part.replaceTarget]
    split
    · exact ⟨_, _, by rw [htrigger, channel_setChannel_self]; rfl⟩
    · exact ⟨_, (p.channel v).settle, by rw [channel_setChannel_self]; rfl⟩
  · refine ⟨(p.channel v).target, (p.channel v).settle, ?_⟩
    rw [recompute_stands]
    · rfl
    · by_contra hc
      exact h (not_or.1 hc |>.imp_left not_not.1)

theorem redriven_channel (p : Part) (v : ValveId) (ch : Channel) :
    ∃ t s, (p.redriven v ch).channel v = ch.looped t s := by
  obtain ⟨t, s, h⟩ := recompute_channel (p.setChannel v ch) v
  exact ⟨t, s, by rw [Part.redriven, h, channel_setChannel_self]⟩

theorem receive_keeps (ch : Channel) (running : Bool) (r : RampRequest) :
    (ch.receive running r).frame = ch.frame ∧ (ch.receive running r).requests = ch.requests ∧
      (ch.receive running r).ends = ch.ends := by
  unfold Channel.receive
  split
  · exact ⟨rfl, rfl, rfl⟩
  · split <;> exact ⟨rfl, rfl, rfl⟩

theorem receiveRamp_keeps (p : Part) (v : ValveId) (r : RampRequest) :
    ((p.receiveRamp v r).channel v).frame = (p.channel v).frame ∧
      ((p.receiveRamp v r).channel v).requests = (p.channel v).requests ∧
      ((p.receiveRamp v r).channel v).ends = (p.channel v).ends := by
  obtain ⟨t, s, h⟩ := redriven_channel p v ((p.channel v).receive p.timer.running r)
  show (((p.redriven v _).channel v).frame = _) ∧ _ ∧ _
  rw [show p.receiveRamp v r = p.redriven v ((p.channel v).receive p.timer.running r) from rfl, h]
  exact receive_keeps _ _ r

theorem receiveOverrideEnd_keeps (p : Part) (v : ValveId) (e : OverrideEnd) :
    ((p.receiveOverrideEnd v e).channel v).frame = (p.channel v).frame ∧
      ((p.receiveOverrideEnd v e).channel v).requests = (p.channel v).requests ∧
      ((p.receiveOverrideEnd v e).channel v).ends = (p.channel v).ends := by
  obtain ⟨t, s, h⟩ := redriven_channel p v ((p.channel v).receiveEnd e)
  rw [show p.receiveOverrideEnd v e = p.redriven v ((p.channel v).receiveEnd e) from rfl, h, receiveEnd_eq]
  exact ⟨rfl, rfl, rfl⟩

/-! ### Arrivals before a boundary (R37, R50; log 7, log 32, log 36) -/

/-- The requests `rs` and ends `es` on their way, up to the first for a frame later than `n`, reach valve v. -/
def Part.arriving (p : Part) (v : ValveId) (n : Frame) (rs : List RampRequest) (es : List OverrideEnd) : Part :=
  (es.takeWhile fun e => isPast e.frame n).foldl (fun q e => q.receiveOverrideEnd v e)
    ((rs.takeWhile fun r => isPast r.frame n).foldl (fun q r => q.receiveRamp v r)
      (p.onWay v (rs.dropWhile fun r => isPast r.frame n) (es.dropWhile fun e => isPast e.frame n)))

theorem arrivals_eq (p : Part) (v : ValveId) :
    p.arrivals v = p.arriving v (p.channel v).frame (p.channel v).requests (p.channel v).ends := rfl

section
variable (p : Part) (v : ValveId) {n : Frame} {rs : List RampRequest} {es : List OverrideEnd}

theorem arriving_onWay (rs' : List RampRequest) (es' : List OverrideEnd) :
    (p.onWay v rs' es').arriving v n rs es = p.arriving v n rs es := by
  unfold Part.arriving
  rw [onWay_onWay]

theorem arriving_request {r : RampRequest} (h : isPast r.frame n = true) :
    p.arriving v n (r :: rs) es = (p.receiveRamp v r).arriving v n rs es := by
  simp only [Part.arriving, List.takeWhile_cons, List.dropWhile_cons, h, if_true, List.foldl_cons, onWay_receiveRamp]

theorem arriving_end {e : OverrideEnd} (hr : (rs.takeWhile fun r => isPast r.frame n) = []) (h : isPast e.frame n = true) :
    p.arriving v n rs (e :: es) = (p.receiveOverrideEnd v e).arriving v n rs es := by
  simp only [Part.arriving, List.takeWhile_cons, List.dropWhile_cons, h, hr, if_true, List.foldl_cons, List.foldl_nil,
    onWay_receiveOverrideEnd]

end

/-- What is on its way and has not come yet: nothing, or an item for a later frame in front. -/
theorem takeWhile_nil_iff {α : Type} (f : α → Bool) (l : List α) :
    l.takeWhile f = [] ↔ ¬∃ x rest, l = x :: rest ∧ f x = true := by
  cases l with
  | nil => simp
  | cons x rest => cases h : f x <;> simp [h]

theorem arrivals_none {p : Part} {v : ValveId}
    (hr : ((p.channel v).requests.takeWhile fun r => isPast r.frame (p.channel v).frame) = [])
    (he : ((p.channel v).ends.takeWhile fun e => isPast e.frame (p.channel v).frame) = []) : p.arrivals v = p := by
  have drop : ∀ {α : Type} {f : α → Bool} {l : List α}, l.takeWhile f = [] → l.dropWhile f = l := fun {α f l} h => by
    have happend := List.takeWhile_append_dropWhile (p := f) (l := l)
    rwa [h, List.nil_append] at happend
  rw [arrivals_eq, Part.arriving, hr, he, drop hr, drop he]
  exact onWay_self p v

/-- A request that is due reaches the valve before its boundary. -/
theorem nextRampRequest_arrivals {p : Part} {v : ValveId} {r : RampRequest} {rest : List RampRequest}
    (h : (p.channel v).requests = r :: rest) (hr : isPast r.frame (p.channel v).frame = true) :
    (p.nextRampRequest v).arrivals v = p.arrivals v ∧ ((p.nextRampRequest v).channel v).frame = (p.channel v).frame := by
  obtain ⟨hframe, hrequests, hends⟩ := receiveRamp_keeps p v r
  have hnext : p.nextRampRequest v = (p.receiveRamp v r).onWay v rest (p.channel v).ends := by
    rw [Part.nextRampRequest, h]
    exact (if_pos ((canReceive_iff _ _).2 (.inl hr))).trans (onWay_receiveRamp p v r rest (p.channel v).ends)
  have hchannel : (p.nextRampRequest v).channel v = ((p.receiveRamp v r).channel v).onWay rest (p.channel v).ends := by
    rw [hnext, onWay_channel]
  refine ⟨?_, by rw [hchannel]; exact hframe⟩
  rw [arrivals_eq, hchannel, hnext, arriving_onWay, arrivals_eq, h, arriving_request p v hr]
  show (p.receiveRamp v r).arriving v ((p.receiveRamp v r).channel v).frame rest (p.channel v).ends = _
  rw [hframe]

theorem nextOverrideEnd_arrivals {p : Part} {v : ValveId} {e : OverrideEnd} {rest : List OverrideEnd}
    (hr : ((p.channel v).requests.takeWhile fun r => isPast r.frame (p.channel v).frame) = [])
    (h : (p.channel v).ends = e :: rest) (he : isPast e.frame (p.channel v).frame = true) :
    (p.nextOverrideEnd v).arrivals v = p.arrivals v ∧ ((p.nextOverrideEnd v).channel v).frame = (p.channel v).frame := by
  obtain ⟨hframe, hrequests, hends⟩ := receiveOverrideEnd_keeps p v e
  have hnext : p.nextOverrideEnd v = (p.receiveOverrideEnd v e).onWay v (p.channel v).requests rest := by
    rw [Part.nextOverrideEnd, h]
    exact onWay_receiveOverrideEnd p v e (p.channel v).requests rest
  have hchannel : (p.nextOverrideEnd v).channel v =
      ((p.receiveOverrideEnd v e).channel v).onWay (p.channel v).requests rest := by
    rw [hnext, onWay_channel]
  refine ⟨?_, by rw [hchannel]; exact hframe⟩
  rw [arrivals_eq, hchannel, hnext, arriving_onWay, arrivals_eq, h, arriving_end p v hr he]
  show (p.receiveOverrideEnd v e).arriving v ((p.receiveOverrideEnd v e).channel v).frame (p.channel v).requests rest = _
  rw [hframe]

/-! ### The boundary (R38, R50) -/

theorem exec_channelFrameBoundary (v : ValveId) (s : State) :
    exec (.channelFrameBoundary v) s =
      .next { s with part := if s.part.channelDue v then s.part.channelBoundary v else s.part } := rfl

theorem exec_setpointRampEnd (v : ValveId) (s : State) :
    exec (.setpointRampEnd v) s =
      .next { s with
        part :=
          if s.part.channelDue v && ((s.part.arrivals v).channel v).rampEnds then s.part.channelBoundary v
          else s.part } := rfl

theorem exec_releaseEnd (v : ValveId) (s : State) :
    exec (.releaseEnd v) s =
      .next { s with
        part :=
          if s.part.channelDue v && ((s.part.arrivals v).channel v).releaseEnds then s.part.channelBoundary v
          else s.part } := rfl

theorem channelDue_iff (p : Part) (v : ValveId) :
    p.channelDue v = true ↔ p.timer.running = true ∧ (p.channel v).frame ≠ p.timer.frame := by
  rw [Part.channelDue, Bool.and_eq_true, bne_iff_ne]

/-- The boundary sees only the valve's arrivals and its frame. -/
theorem exec_channelFrameBoundary_congr {s t : State} {v : ValveId} (hmem : t.mem = s.mem) (hpending : t.pending = s.pending)
    (htimer : t.part.timer = s.part.timer) (hframe : (t.part.channel v).frame = (s.part.channel v).frame)
    (harrivals : t.part.arrivals v = s.part.arrivals v) (hdue : s.part.channelDue v = true) :
    exec (.channelFrameBoundary v) s = exec (.channelFrameBoundary v) t := by
  have hdue' : t.part.channelDue v = true := by
    rw [channelDue_iff, htimer, hframe]
    exact (channelDue_iff _ _).1 hdue
  rw [exec_channelFrameBoundary, exec_channelFrameBoundary, if_pos hdue, if_pos hdue', Part.channelBoundary,
    Part.channelBoundary, harrivals, hmem, hpending]

theorem nextFrame_eq (ch : Channel) :
    ch.nextFrame =
      { ch with
        frame := ch.frame + 1, previous := ch.setpoint, setpoint := ch.rampStep.setpoint, ramp := ch.rampStep.ramp
        waiting := none, phase := ch.phase.advance (ch.frame + 1) } := by
  have hstep : ch.rampStep =
      { ch with
        previous := ch.setpoint, setpoint := ch.rampStep.setpoint, ramp := ch.rampStep.ramp, waiting := none } := by
    obtain ⟨_, _, ramp, waiting, _⟩ := ch
    cases waiting with
    | some w => rfl
    | none => cases ramp <;> rfl
  rw [Channel.nextFrame, hstep]

section
variable {ch : Channel}

theorem rampStep_waiting {w : WaitingRequest} (h : ch.waiting = some w) :
    ch.rampStep.setpoint = blend ch.setpoint w.target 1 w.length ∧
      ch.rampStep.ramp = if w.length ≤ 1 then none else some ⟨ch.setpoint, w.target, w.length, 1⟩ := by
  rw [Channel.rampStep, h]
  exact ⟨rfl, rfl⟩

theorem rampStep_ramping {r : Ramp} (hw : ch.waiting = none) (h : ch.ramp = some r) :
    ch.rampStep.setpoint = blend r.start r.target (r.count + 1) r.length ∧
      ch.rampStep.ramp = if r.length ≤ r.count + 1 then none else some { r with count := r.count + 1 } := by
  rw [Channel.rampStep, hw, h]
  exact ⟨rfl, rfl⟩

theorem rampStep_still (hw : ch.waiting = none) (h : ch.ramp = none) :
    ch.rampStep.setpoint = ch.setpoint ∧ ch.rampStep.ramp = none := by
  rw [Channel.rampStep, hw, h]
  exact ⟨rfl, rfl⟩

theorem rampEnds_iff (ch : Channel) :
    ch.rampEnds = true ↔ (ch.ramp.isSome = true ∨ ch.waiting.isSome = true) ∧ ch.rampStep.ramp = none := by
  have hnone : ∀ (P : Prop) [Decidable P] (x : Ramp), (if P then none else some x) = none ↔ P := fun P _ x => by
    split <;> simp [*]
  cases hw : ch.waiting with
  | some w => rw [Channel.rampEnds, hw, (rampStep_waiting hw).2, hnone]; simp
  | none =>
    cases hr : ch.ramp with
    | some r => rw [Channel.rampEnds, hw, hr, (rampStep_ramping hw hr).2, hnone]; simp
    | none => rw [Channel.rampEnds, hw, hr]; simp

theorem releaseEnds_iff (ch : Channel) :
    ch.releaseEnds = true ↔ (∃ u l k first, ch.phase = .release u l k first) ∧ ch.phase.advance (ch.frame + 1) = .none := by
  rw [Channel.releaseEnds]
  cases ch.phase with
  | none => simp
  | override u => simp
  | release u l k first => simp

theorem advance_same (n : Frame) {ph : Phase} (h : ∀ u l k first, ph ≠ .release u l k first) : ph.advance n = ph := by
  cases ph with
  | none => rfl
  | override u => rfl
  | release u l k first => exact absurd rfl (h u l k first)

theorem advance_first (n : Frame) (u l : Nat) (first : Frame) :
    Phase.advance n (.release u l 0 first) =
      if isPast first n = true then (if l ≤ 1 then .none else .release u l 1 first) else .release u l 0 first := rfl

theorem advance_later (n : Frame) {u l k : Nat} {first : Frame} (hk : 1 ≤ k) :
    Phase.advance n (.release u l k first) = if l ≤ k + 1 then .none else .release u l (k + 1) first := by
  exact if_neg (by omega)

end

/-- Settles O41. -/
theorem channelBoundary : Obligations.ChannelBoundary := by
  unfold Obligations.ChannelBoundary
  intro v s p ch n waits request ended
  have hpast : ∀ f m : Frame, isPast f m = true ↔ ¬(1 ≤ ahead f m ∧ ahead f m < 32768) := fun f m => by
    rw [isPast_iff]
    omega
  have hwaits : ∀ f, isPast f ch.frame = true ↔ ¬waits f := fun f => hpast f ch.frame
  have hdue : p.channelDue v = true ↔ p.timer.running = true ∧ ch.frame ≠ p.timer.frame := channelDue_iff p v
  refine ⟨fun h => ?_, fun hrun hframe => ?_⟩
  · have hnot : p.channelDue v = false := by
      rw [Bool.eq_false_iff, ne_eq, hdue]
      rintro ⟨hr, hf⟩
      exact h.elim (fun h => by rw [h] at hr; cases hr) hf
    refine ⟨?_, ?_, ?_⟩
    · rw [exec_channelFrameBoundary, hnot]
      rfl
    · rw [exec_setpointRampEnd, hnot]
      rfl
    · rw [exec_releaseEnd, hnot]
      rfl
  have hdue' := hdue.2 ⟨hrun, hframe⟩
  have hrequest : (ch.requests.takeWhile fun r => isPast r.frame ch.frame) = [] ↔ ¬request := by
    rw [takeWhile_nil_iff]
    simp only [hwaits]
    rfl
  have hended : (ch.ends.takeWhile fun e => isPast e.frame ch.frame) = [] ↔ ¬ended := by
    rw [takeWhile_nil_iff]
    simp only [hwaits]
    rfl
  refine ⟨fun hr => ?_, fun hr he => ?_, fun hr he => ?_⟩
  · obtain ⟨r, rest, heq, hw⟩ := hr
    obtain ⟨harrivals, hf⟩ := nextRampRequest_arrivals heq ((hwaits _).2 hw)
    refine ⟨_, exec_rampRequest v s, exec_channelFrameBoundary_congr rfl rfl ?_ hf harrivals hdue'⟩
    show (p.nextRampRequest v).timer = p.timer
    simp
  · obtain ⟨e, rest, heq, hw⟩ := he
    obtain ⟨harrivals, hf⟩ := nextOverrideEnd_arrivals (hrequest.2 hr) heq ((hwaits _).2 hw)
    refine ⟨_, exec_overrideEnd v s, exec_channelFrameBoundary_congr rfl rfl ?_ hf harrivals hdue'⟩
    show (p.nextOverrideEnd v).timer = p.timer
    simp
  · have harrivals : p.arrivals v = p := arrivals_none (hrequest.2 hr) (hended.2 he)
    have hboundary : p.channelBoundary v = (p.setChannel v
        { ch with
          frame := n, previous := ch.setpoint, setpoint := ch.rampStep.setpoint, ramp := ch.rampStep.ramp
          waiting := none, phase := ch.phase.advance n }).recompute v := by
      rw [Part.channelBoundary, harrivals, nextFrame_eq]
    refine ⟨ch.rampStep.setpoint, ch.rampStep.ramp, ch.phase.advance n, _, rfl, ?_, fun w => rampStep_waiting,
      fun r => rampStep_ramping, rampStep_still, advance_same n, fun u l first hph => ?_, fun u l k first hph hk => ?_,
      fun h => ?_, fun h => ?_, fun h => ?_, fun h => ?_⟩
    · rw [exec_channelFrameBoundary, if_pos hdue', hboundary]
    · rw [hph, advance_first]
      by_cases hf : 1 ≤ ahead first n ∧ ahead first n < 32768
      · rw [if_neg fun hp => (hpast first n).1 hp hf, if_pos hf]
      · rw [if_pos ((hpast first n).2 hf), if_neg hf]
    · rw [hph, advance_later n hk]
    · rw [exec_setpointRampEnd, harrivals, hdue', (rampEnds_iff ch).2 h, ← hboundary]
      rfl
    · rw [exec_setpointRampEnd, harrivals, hdue', Bool.eq_false_iff.2 fun hb => h ((rampEnds_iff ch).1 hb)]
      rfl
    · rw [exec_releaseEnd, harrivals, hdue', (releaseEnds_iff ch).2 h, ← hboundary]
      rfl
    · rw [exec_releaseEnd, harrivals, hdue', Bool.eq_false_iff.2 fun hb => h ((releaseEnds_iff ch).1 hb)]
      rfl

end Sys2Proof.Machine
end

section
/-! A request, an override end and the boundary that starts their frame come to the same outcome in any order (R37, R50). -/

namespace Sys2Proof.Machine

/-! ### The three events at a channel alone -/

/-- The oldest request taken, at a RUNNING timer. -/
def Channel.takeRequest (ch : Channel) : Channel :=
  match ch.requests with
  | r :: rest => if ch.canReceive r then (ch.receive true r).onWay rest ch.ends else ch
  | [] => ch

/-- The oldest override end taken. -/
def Channel.takeEnd (ch : Channel) : Channel :=
  match ch.ends with
  | e :: rest => (ch.receiveEnd e).onWay ch.requests rest
  | [] => ch

theorem takeRequest_nil {ch : Channel} (h : ch.requests = []) : ch.takeRequest = ch := by rw [Channel.takeRequest, h]

theorem takeEnd_nil {ch : Channel} (h : ch.ends = []) : ch.takeEnd = ch := by rw [Channel.takeEnd, h]

theorem takeRequest_cons {ch : Channel} {r : RampRequest} {rest : List RampRequest} (h : ch.requests = r :: rest) :
    ch.takeRequest = if ch.canReceive r then (ch.receive true r).onWay rest ch.ends else ch := by
  rw [Channel.takeRequest, h]

theorem takeEnd_cons {ch : Channel} {e : OverrideEnd} {rest : List OverrideEnd} (h : ch.ends = e :: rest) :
    ch.takeEnd = (ch.receiveEnd e).onWay ch.requests rest := by
  rw [Channel.takeEnd, h]

/-- The channel with another previous-frame setpoint. -/
def Channel.since (ch : Channel) (x : Nat) : Channel := { ch with previous := x }

/-- What is on its way is for the frame after the channel's. -/
def Channel.awaits (ch : Channel) : Prop :=
  (∀ r ∈ ch.requests, r.frame = ch.frame + 1) ∧ ∀ e ∈ ch.ends, e.frame = ch.frame + 1

theorem ahead_next (n : Frame) : ahead (n + 1) n = 1 := by
  simp [ahead]

theorem isPast_next (n : Frame) : isPast (n + 1) n = false := by
  rw [isPast, ahead_next]
  rfl

theorem isPast_self (n : Frame) : isPast n n = true := by
  simp [isPast, ahead]

/-- A channel with another phase and other ends on their way. -/
def Channel.withEnd (ch : Channel) (ph : Phase) (es : List OverrideEnd) : Channel := { ch with phase := ph, ends := es }

theorem takeEnd_eq {ch : Channel} {e : OverrideEnd} {rest : List OverrideEnd} (h : ch.ends = e :: rest) :
    ch.takeEnd = ch.withEnd (ch.phase.endedBy ch.frame e) rest := by
  rw [takeEnd_cons h, receiveEnd_eq]
  rfl

theorem receive_withEnd (ch : Channel) (r : RampRequest) (ph : Phase) (es : List OverrideEnd) :
    (ch.withEnd ph es).receive true r = (ch.receive true r).withEnd ph es := by
  show (if true = false ∨ r.length = 0 then (ch.withEnd ph es).step r.target
    else if isPast r.frame ch.frame then (ch.withEnd ph es).startRamp ch.previous r.target r.length
    else { ch.withEnd ph es with waiting := some { target := r.target, length := r.length } }) = _
  unfold Channel.receive
  split
  · rfl
  · split <;> rfl

theorem receive_phase (ch : Channel) (running : Bool) (r : RampRequest) : (ch.receive running r).phase = ch.phase := by
  unfold Channel.receive
  split
  · rfl
  · split <;> rfl

theorem takeRequest_withEnd (ch : Channel) (ph : Phase) (es : List OverrideEnd) :
    (ch.withEnd ph es).takeRequest = ch.takeRequest.withEnd ph es := by
  cases h : ch.requests with
  | nil => rw [takeRequest_nil (ch := ch.withEnd ph es) h, takeRequest_nil h]
  | cons r rest =>
    rw [takeRequest_cons (ch := ch.withEnd ph es) h, takeRequest_cons h, receive_withEnd]
    show (if ch.canReceive r = true then _ else _) = _
    split <;> rfl

theorem takeRequest_keeps (ch : Channel) :
    ch.takeRequest.frame = ch.frame ∧ ch.takeRequest.phase = ch.phase ∧ ch.takeRequest.ends = ch.ends := by
  cases h : ch.requests with
  | nil => rw [takeRequest_nil h]; exact ⟨rfl, rfl, rfl⟩
  | cons r rest =>
    rw [takeRequest_cons h]
    split
    · exact ⟨(receive_keeps ch true r).1, receive_phase ch true r, rfl⟩
    · exact ⟨rfl, rfl, rfl⟩

/-- The request and the end come to the same in either order. -/
theorem takeEnd_takeRequest (ch : Channel) : ch.takeRequest.takeEnd = ch.takeEnd.takeRequest := by
  obtain ⟨hframe, hphase, hends⟩ := takeRequest_keeps ch
  cases h : ch.ends with
  | nil => rw [takeEnd_nil h, takeEnd_nil (hends.trans h)]
  | cons e rest => rw [takeEnd_eq h, takeEnd_eq (hends.trans h), hframe, hphase, takeRequest_withEnd]

theorem takeEnd_since (ch : Channel) (x : Nat) : (ch.since x).takeEnd = ch.takeEnd.since x := by
  cases h : ch.ends with
  | nil => rw [takeEnd_nil (ch := ch.since x) h, takeEnd_nil h]
  | cons e rest =>
    rw [takeEnd_eq (ch := ch.since x) h, takeEnd_eq h]
    rfl

theorem nextFrame_withEnd (ch : Channel) (ph : Phase) (es : List OverrideEnd) :
    (ch.withEnd ph es).nextFrame = ch.nextFrame.withEnd (ph.advance (ch.frame + 1)) es := by
  obtain ⟨_, _, ramp, waiting, _⟩ := ch
  cases waiting with
  | some w => rfl
  | none => cases ramp <;> rfl

/-- An end for the frame that a boundary starts acts on the phase before it as after it. -/
theorem endedBy_advance (ph : Phase) {n : Frame} {e : OverrideEnd} (h : e.frame = n + 1) :
    (ph.endedBy n e).advance (n + 1) = (ph.advance (n + 1)).endedBy (n + 1) e := by
  cases ph with
  | none => rfl
  | override u =>
    show Phase.advance (n + 1)
      (if isPast e.frame n = true then (if e.release ≤ 1 then .none else .release u e.release 1 e.frame)
        else .release u e.release 0 e.frame) =
      if isPast e.frame (n + 1) = true then (if e.release ≤ 1 then .none else .release u e.release 1 e.frame)
        else .release u e.release 0 e.frame
    rw [h, isPast_next, isPast_self, if_pos rfl]
    show (if isPast (n + 1) (n + 1) = true then _ else _) = _
    rw [isPast_self]
    rfl
  | release u l k first =>
    show Phase.advance (n + 1) (.release u l k first) = _
    rcases Nat.eq_zero_or_pos k with rfl | hk
    · rw [advance_first]
      split
      · split <;> rfl
      · rfl
    · rw [advance_later _ hk]
      split <;> rfl

/-- The end and the boundary come to the same in either order. -/
theorem nextFrame_takeEnd {ch : Channel} (h : ch.awaits) : ch.takeEnd.nextFrame = ch.nextFrame.takeEnd := by
  have hnext := nextFrame_eq ch
  cases he : ch.ends with
  | nil => rw [takeEnd_nil he, takeEnd_nil (by rw [hnext]; exact he)]
  | cons e rest =>
    have hf : e.frame = ch.frame + 1 := h.2 e (by rw [he]; exact List.mem_cons_self)
    rw [takeEnd_eq he, nextFrame_withEnd, endedBy_advance _ hf, takeEnd_eq (ch := ch.nextFrame) (by rw [hnext]; exact he)]
    rw [hnext]

/-- The request and the boundary come to the same in either order, but for the previous-frame setpoint after a step. -/
theorem nextFrame_takeRequest {ch : Channel} (h : ch.awaits) :
    ch.takeRequest.nextFrame = ch.nextFrame.takeRequest.since ch.takeRequest.nextFrame.previous ∧
      ((∀ r ∈ ch.requests, 1 ≤ r.length) → ch.takeRequest.nextFrame = ch.nextFrame.takeRequest) := by
  have hnext := nextFrame_eq ch
  cases hr : ch.requests with
  | nil =>
    rw [takeRequest_nil hr, takeRequest_nil (by rw [hnext]; exact hr)]
    exact ⟨rfl, fun _ => rfl⟩
  | cons r rest =>
    have hf : r.frame = ch.frame + 1 := h.1 r (by rw [hr]; exact List.mem_cons_self)
    have hbefore : ch.takeRequest = (ch.receive true r).onWay rest ch.ends := by
      rw [takeRequest_cons hr, if_pos]
      rw [canReceive_iff, hf, ahead_next]
      exact .inr rfl
    have hpast : isPast r.frame ch.nextFrame.frame = true := by
      rw [hnext, hf]
      exact isPast_self _
    have hafter : ch.nextFrame.takeRequest = (ch.nextFrame.receive true r).onWay rest ch.ends := by
      rw [takeRequest_cons (ch := ch.nextFrame) (rest := rest) (by rw [hnext]; exact hr), if_pos]
      · rw [hnext]
      · exact (canReceive_iff _ _).2 (.inl hpast)
    rw [hbefore, hafter]
    by_cases hl : r.length = 0
    · rw [receive_step ch true r (.inr hl), receive_step _ true r (.inr hl), hnext]
      exact ⟨rfl, fun h1 => absurd (h1 r List.mem_cons_self) (by omega)⟩
    · have hearly : ¬isPast r.frame ch.frame = true := by rw [hf, isPast_next]; decide
      rw [receive_early ch true r rfl hl hearly, receive_past _ true r rfl hl hpast, hnext]
      exact ⟨rfl, fun _ => rfl⟩

/-! ### A run of the three events -/

/-- The event at the channel alone. -/
def Channel.after (ch : Channel) : Instr → Channel
  | .rampRequest _ => ch.takeRequest
  | .overrideEnd _ => ch.takeEnd
  | .channelFrameBoundary _ => ch.nextFrame
  | _ => ch

/-- The channel v of a state is `ch`, but for its target and settle run, under the given timer. -/
def State.loops (s : State) (v : ValveId) (timer : Timer) (ch : Channel) : Prop :=
  s.part.timer = timer ∧ ∃ t r, s.part.channel v = ch.looped t r

section
variable {s u : State} {v : ValveId} {timer : Timer} {ch : Channel}

theorem receive_looped (ch : Channel) (r : RampRequest) (t : Nat) (x : Option SettleRun) :
    (ch.looped t x).receive true r = (ch.receive true r).looped t x := by
  show (if true = false ∨ r.length = 0 then (ch.looped t x).step r.target
    else if isPast r.frame ch.frame then (ch.looped t x).startRamp ch.previous r.target r.length
    else { ch.looped t x with waiting := some { target := r.target, length := r.length } }) = _
  unfold Channel.receive
  split
  · rfl
  · split <;> rfl

theorem takeRequest_looped (ch : Channel) (t : Nat) (x : Option SettleRun) :
    (ch.looped t x).takeRequest = ch.takeRequest.looped t x := by
  cases h : ch.requests with
  | nil => rw [takeRequest_nil (ch := ch.looped t x) h, takeRequest_nil h]
  | cons r rest =>
    rw [takeRequest_cons (ch := ch.looped t x) h, takeRequest_cons h, receive_looped]
    show (if ch.canReceive r = true then _ else _) = _
    split <;> rfl

theorem takeEnd_looped (ch : Channel) (t : Nat) (x : Option SettleRun) :
    (ch.looped t x).takeEnd = ch.takeEnd.looped t x := by
  cases h : ch.ends with
  | nil => rw [takeEnd_nil (ch := ch.looped t x) h, takeEnd_nil h]
  | cons e rest =>
    rw [takeEnd_eq (ch := ch.looped t x) h, takeEnd_eq h]
    rfl

theorem nextFrame_looped (ch : Channel) (t : Nat) (x : Option SettleRun) :
    (ch.looped t x).nextFrame = ch.nextFrame.looped t x := by
  obtain ⟨_, _, ramp, waiting, _⟩ := ch
  cases waiting with
  | some w => rfl
  | none => cases ramp <;> rfl

theorem looped_looped (ch : Channel) (t t' : Nat) (x x' : Option SettleRun) :
    (ch.looped t x).looped t' x' = ch.looped t' x' := rfl

theorem nextRampRequest_channel (p : Part) (v : ValveId) (hr : p.timer.running = true) :
    ∃ t x, (p.nextRampRequest v).channel v = (p.channel v).takeRequest.looped t x := by
  have hself : (p.channel v) = (p.channel v).looped (p.channel v).target (p.channel v).settle := rfl
  cases h : (p.channel v).requests with
  | nil => exact ⟨_, _, by rw [nextRampRequest_none h, takeRequest_nil h]; exact hself⟩
  | cons r rest =>
    by_cases hc : (p.channel v).canReceive r = true
    · rw [nextRampRequest_received h hc, takeRequest_cons h, if_pos hc, hr]
      exact redriven_channel p v _
    · exact ⟨_, _, by rw [nextRampRequest_early h hc, takeRequest_cons h, if_neg hc]; exact hself⟩

theorem nextOverrideEnd_channel (p : Part) (v : ValveId) :
    ∃ t x, (p.nextOverrideEnd v).channel v = (p.channel v).takeEnd.looped t x := by
  cases h : (p.channel v).ends with
  | nil => exact ⟨(p.channel v).target, (p.channel v).settle, by rw [nextOverrideEnd_none h, takeEnd_nil h]; rfl⟩
  | cons e rest =>
    rw [nextOverrideEnd_received h, takeEnd_cons h]
    exact redriven_channel p v _

theorem State.loops.request (h : s.loops v timer ch) (hr : timer.running = true)
    (he : exec (.rampRequest v) s = .next u) : u.loops v timer ch.takeRequest := by
  obtain ⟨htimer, t, x, hch⟩ := h
  cases (exec_rampRequest v s).symm.trans he
  obtain ⟨t', x', hnext⟩ := nextRampRequest_channel s.part v (by rw [htimer]; exact hr)
  exact ⟨by show (s.part.nextRampRequest v).timer = _; simp [htimer], t', x', by
    rw [hnext, hch, takeRequest_looped, looped_looped]⟩

theorem State.loops.ended (h : s.loops v timer ch) (he : exec (.overrideEnd v) s = .next u) :
    u.loops v timer ch.takeEnd := by
  obtain ⟨htimer, t, x, hch⟩ := h
  cases (exec_overrideEnd v s).symm.trans he
  obtain ⟨t', x', hnext⟩ := nextOverrideEnd_channel s.part v
  exact ⟨by show (s.part.nextOverrideEnd v).timer = _; simp [htimer], t', x', by
    rw [hnext, hch, takeEnd_looped, looped_looped]⟩

/-- A boundary with nothing arriving first. -/
theorem State.loops.boundary (h : s.loops v timer ch) (hr : timer.running = true) (hf : ch.frame ≠ timer.frame)
    (ha : ch.awaits) (he : exec (.channelFrameBoundary v) s = .next u) : u.loops v timer ch.nextFrame := by
  obtain ⟨htimer, t, x, hch⟩ := h
  have hdue : s.part.channelDue v = true := by
    rw [channelDue_iff, htimer, hch]
    exact ⟨hr, hf⟩
  have harrivals : s.part.arrivals v = s.part := by
    apply arrivals_none
    · rw [takeWhile_nil_iff, hch]
      rintro ⟨r, rest, heq, hp⟩
      rw [ha.1 r (by rw [show ch.requests = r :: rest from heq]; exact List.mem_cons_self)] at hp
      rw [show isPast (ch.frame + 1) (ch.looped t x).frame = false from isPast_next ch.frame] at hp
      cases hp
    · rw [takeWhile_nil_iff, hch]
      rintro ⟨e, rest, heq, hp⟩
      rw [ha.2 e (by rw [show ch.ends = e :: rest from heq]; exact List.mem_cons_self)] at hp
      rw [show isPast (ch.frame + 1) (ch.looped t x).frame = false from isPast_next ch.frame] at hp
      cases hp
  rw [exec_channelFrameBoundary, if_pos hdue, Part.channelBoundary, harrivals] at he
  cases he
  obtain ⟨t', x', hnext⟩ := redriven_channel s.part v (s.part.channel v).nextFrame
  refine ⟨?_, t', x', ?_⟩
  · show (Part.recompute _ v).timer = _
    simp [htimer]
  · exact hnext.trans (by rw [hch, nextFrame_looped, looped_looped])

end

/-! ### All orders -/

theorem takeRequest_awaits {ch : Channel} (h : ch.awaits) : ch.takeRequest.awaits := by
  obtain ⟨hframe, -, hends⟩ := takeRequest_keeps ch
  refine ⟨fun r hr => ?_, fun e he => ?_⟩
  · rw [hframe]
    refine h.1 r ?_
    cases hreq : ch.requests with
    | nil => rwa [takeRequest_nil hreq, hreq] at hr
    | cons r' rest =>
      rw [takeRequest_cons hreq] at hr
      split at hr
      · exact List.mem_cons_of_mem _ hr
      · rwa [hreq] at hr
  · rw [hframe]
    exact h.2 e (by rwa [hends] at he)

theorem takeEnd_awaits {ch : Channel} (h : ch.awaits) : ch.takeEnd.awaits ∧ ch.takeEnd.frame = ch.frame := by
  cases hends : ch.ends with
  | nil => rw [takeEnd_nil hends]; exact ⟨h, rfl⟩
  | cons e rest =>
    rw [takeEnd_eq hends]
    exact ⟨⟨h.1, fun x hx => h.2 x (by rw [hends]; exact List.mem_cons_of_mem _ hx)⟩, rfl⟩

/-- The channel after the boundary, the request and then the end. -/
def Channel.settled (ch : Channel) : Channel := ch.nextFrame.takeRequest.takeEnd

/-- `x` is the settled channel, but for the previous-frame setpoint after a step. -/
def Channel.settledAs (ch x : Channel) : Prop :=
  x = ch.settled.since x.previous ∧ ((∀ r ∈ ch.requests, 1 ≤ r.length) → x = ch.settled)

theorem settledAs_after (ch : Channel) : ch.settledAs ch.nextFrame.takeRequest.takeEnd := ⟨rfl, fun _ => rfl⟩

theorem settledAs_before {ch : Channel} (h : ch.awaits) : ch.settledAs ch.takeRequest.nextFrame.takeEnd := by
  obtain ⟨hsince, heq⟩ := nextFrame_takeRequest h
  refine ⟨?_, fun hl => by rw [heq hl]; rfl⟩
  rw [hsince, takeEnd_since]
  rfl

/-- The orders of at most three things. -/
theorem perm_three_iff {α : Type} (l : List α) (a b c : α) :
    l.Perm [a, b, c] ↔
      l = [a, b, c] ∨ l = [b, a, c] ∨ l = [b, c, a] ∨ l = [a, c, b] ∨ l = [c, a, b] ∨ l = [c, b, a] := by
  rw [← List.mem_permutations']
  simp [List.permutations']

theorem perm_two_iff {α : Type} (l : List α) (a b : α) : l.Perm [a, b] ↔ l = [a, b] ∨ l = [b, a] := by
  rw [← List.mem_permutations']
  simp [List.permutations']

/-- In whatever order the three events are performed, the outcome at the channel is the settled one. -/
theorem performs_settledAs {v : ValveId} {s t : State} {l : List Instr} {ch : Channel} {timer : Timer}
    (hs : s.loops v timer ch) (hrun : timer.running = true) (hf : ch.frame ≠ timer.frame) (ha : ch.awaits)
    (hr : ch.requests.length ≤ 1) (he : ch.ends.length ≤ 1)
    (hl : l.Perm (ch.requests.map (fun _ => Instr.rampRequest v) ++ ch.ends.map (fun _ => Instr.overrideEnd v) ++
      [.channelFrameBoundary v]))
    (hp : performs l s t) : ∃ x, t.loops v timer x ∧ ch.settledAs x := by
  have har := takeRequest_awaits ha
  have hframe := (takeRequest_keeps ch).1
  obtain ⟨hae, hframe'⟩ := takeEnd_awaits ha
  obtain ⟨hare, hframe''⟩ := takeEnd_awaits har
  have hlate : ch.nextFrame.requests = ch.requests ∧ ch.nextFrame.ends = ch.ends := by
    rw [nextFrame_eq]
    exact ⟨rfl, rfl⟩
  have hafter := settledAs_after ch
  have hbefore := settledAs_before ha
  rcases hrs : ch.requests with _ | ⟨r, _ | ⟨_, _⟩⟩
  · have hnone : ch.nextFrame.takeRequest = ch.nextFrame := takeRequest_nil (hlate.1.trans hrs)
    rw [hnone] at hafter
    rcases hes : ch.ends with _ | ⟨e, _ | ⟨_, _⟩⟩
    · rw [hrs, hes] at hl
      cases List.perm_singleton.1 hl
      obtain ⟨u, h1, rfl⟩ := hp
      rw [takeEnd_nil (hlate.2.trans hes)] at hafter
      exact ⟨_, hs.boundary hrun hf ha h1, hafter⟩
    · rw [hrs, hes] at hl
      rcases (perm_two_iff _ _ _).1 hl with rfl | rfl
      · obtain ⟨u, h1, w, h2, rfl⟩ := hp
        refine ⟨_, (hs.ended h1).boundary hrun (by rwa [hframe']) hae h2, ?_⟩
        rw [nextFrame_takeEnd ha]
        exact hafter
      · obtain ⟨u, h1, w, h2, rfl⟩ := hp
        exact ⟨_, (hs.boundary hrun hf ha h1).ended h2, hafter⟩
    · rw [hes] at he
      simp at he
  · rcases hes : ch.ends with _ | ⟨e, _ | ⟨_, _⟩⟩
    · have hnone : ch.takeRequest.nextFrame.ends = [] ∧ ch.nextFrame.takeRequest.ends = [] := by
        rw [(takeRequest_keeps _).2.2, nextFrame_eq]
        exact ⟨(takeRequest_keeps ch).2.2.trans hes, hlate.2.trans hes⟩
      rw [takeEnd_nil hnone.1] at hbefore
      rw [takeEnd_nil hnone.2] at hafter
      rw [hrs, hes] at hl
      rcases (perm_two_iff _ _ _).1 hl with rfl | rfl
      · obtain ⟨u, h1, w, h2, rfl⟩ := hp
        exact ⟨_, (hs.request hrun h1).boundary hrun (by rwa [hframe]) har h2, hbefore⟩
      · obtain ⟨u, h1, w, h2, rfl⟩ := hp
        exact ⟨_, (hs.boundary hrun hf ha h1).request hrun h2, hafter⟩
    · rw [hrs, hes] at hl
      rcases (perm_three_iff _ _ _ _).1 hl with rfl | rfl | rfl | rfl | rfl | rfl <;>
        obtain ⟨u, h1, w, h2, z, h3, rfl⟩ := hp
      · refine ⟨_, ((hs.request hrun h1).ended h2).boundary hrun (by rwa [hframe'', hframe]) hare h3, ?_⟩
        rw [nextFrame_takeEnd har]
        exact hbefore
      · refine ⟨_, ((hs.ended h1).request hrun h2).boundary hrun (by rwa [(takeRequest_keeps _).1, hframe'])
          (takeRequest_awaits hae) h3, ?_⟩
        rw [← takeEnd_takeRequest, nextFrame_takeEnd har]
        exact hbefore
      · refine ⟨_, ((hs.ended h1).boundary hrun (by rwa [hframe']) hae h2).request hrun h3, ?_⟩
        rw [nextFrame_takeEnd ha, ← takeEnd_takeRequest]
        exact hafter
      · exact ⟨_, ((hs.request hrun h1).boundary hrun (by rwa [hframe]) har h2).ended h3, hbefore⟩
      · exact ⟨_, ((hs.boundary hrun hf ha h1).request hrun h2).ended h3, hafter⟩
      · refine ⟨_, ((hs.boundary hrun hf ha h1).ended h2).request hrun h3, ?_⟩
        rw [← takeEnd_takeRequest]
        exact hafter
    · rw [hes] at he
      simp at he
  · rw [hrs] at hr
    simp at hr

/-- Settles O43. -/
theorem eitherOrder : Obligations.EitherOrder := by
  unfold Obligations.EitherOrder
  intro v s t u l m ch firmness events hrun hf hr he hrf hef hl hm hpl hpm
  have hs : s.loops v s.part.timer ch := ⟨rfl, ch.target, ch.settle, rfl⟩
  obtain ⟨x, ⟨-, tx, rx, hx⟩, hsince, hequal⟩ := performs_settledAs hs hrun hf ⟨hrf, hef⟩ hr he hl hpl
  obtain ⟨y, ⟨-, ty, ry, hy⟩, hsince', hequal'⟩ := performs_settledAs hs hrun hf ⟨hrf, hef⟩ hr he hm hpm
  have hdrive : ∀ (z : Channel) (t : Nat) (r : Option SettleRun) (n : Nat), ((z.since n).looped t r).drive = z.drive :=
    fun _ _ _ _ => rfl
  refine ⟨?_, fun hlen => ?_⟩
  · simp only [firmness]
    rw [hx, hy, hsince, hsince', hdrive, hdrive]
    rfl
  · rw [hx, hy, hequal hlen, hequal' hlen]
    rfl

end Sys2Proof.Machine
end

section
/-! A corner's boundary in RUN below its silence limit (R29 to R33, R49). -/

namespace Sys2Proof.Machine

/-! ### The entries that come due (R29 to R31) -/

/-- Entries retired SUPERSEDED at frame n. -/
def Part.supersede (p : Part) (n : Frame) (l : List Entry) : Part :=
  l.foldl (fun q e => q.retire e.slot (.superseded n)) p

theorem supersede_cons (p : Part) (n : Frame) (e : Entry) (l : List Entry) :
    p.supersede n (e :: l) = (p.retire e.slot (.superseded n)).supersede n l := rfl

/-- Outside the demand slots and the engine's demand class, nothing is changed. -/
theorem supersede_eq (p : Part) (n : Frame) (l : List Entry) :
    p.supersede n l =
      { p with
        demand := (p.supersede n l).demand
        engine := { p.engine with demand := l.foldl (fun m e => offered m e.slot) p.engine.demand } } := by
  induction l generalizing p with
  | nil => rfl
  | cons e l ih => exact ih (p.retire e.slot (.superseded n))

theorem supersede_slot (p : Part) (n : Frame) (l : List Entry) (i : SlotId) :
    (p.supersede n l).demandSlot i =
      if ∃ e ∈ l, e.slot = i then { p.demandSlot i with state := .retiring, final := some (.superseded n) }
      else p.demandSlot i := by
  induction l generalizing p with
  | nil => simp [Part.supersede]
  | cons e l ih =>
    rw [supersede_cons, ih, retire_slot]
    by_cases hi : i = e.slot
    · subst hi
      simp
    · simp [hi, Ne.symm hi]

/-- The due entries in list order: all but the last superseded, the last applied. -/
theorem handleDue_append (p : Part) (c : CornerId) (n : Frame) (l : List Entry) (e : Entry) :
    p.handleDue c n (l ++ [e]) = (p.supersede n l).applyEntry c e n := by
  induction l generalizing p with
  | nil => rfl
  | cons x l ih =>
    have hne : ∃ y ys, l ++ [e] = y :: ys := by
      cases l with
      | nil => exact ⟨e, [], rfl⟩
      | cons y ys => exact ⟨y, ys ++ [e], rfl⟩
    obtain ⟨y, ys, hl⟩ := hne
    rw [List.cons_append, hl, Part.handleDue, ← hl, ih, supersede_cons]

/-- Whether a selection of corner c selects valve v. -/
def sideOf (c : CornerId) (v : ValveId) (sel : ValveSelect) : Bool :=
  if v = compressionValve c then sel.hasCompression else if v = reboundValve c then sel.hasRebound else false

/-- The ramp requests that an entry of corner c applied at frame n sends to valve v (R30). -/
def requestsOf (c : CornerId) (n : Frame) (v : ValveId) (e : Entry) : List RampRequest :=
  if sideOf c v e.select = true then [⟨if v = compressionValve c then e.compression else e.rebound, max 1 e.ramp, n⟩]
  else []

theorem sendRamp_running {p : Part} (h : p.timer.running = true) (v : ValveId) (r : RampRequest) :
    p.sendRamp v r = p.setChannel v { p.channel v with requests := (p.channel v).requests ++ [r] } := if_pos h

/-- An applied entry's ramp requests, on their way at a RUNNING timer (R30, R36). -/
theorem sendApplication_channel {p : Part} (h : p.timer.running = true) (c : CornerId) (e : Entry) (n : Frame)
    (v : ValveId) :
    (p.sendApplication c e n).channel v =
      { p.channel v with
        requests := (p.channel v).requests ++ requestsOf c n v e } := by
  have hr : ∀ (w : ValveId) (x : Channel), (p.setChannel w x).timer.running = true := fun _ _ => h
  unfold Part.sendApplication requestsOf sideOf
  by_cases hv : v = compressionValve c
  · subst hv
    cases e.select <;>
      simp [ValveSelect.hasCompression, ValveSelect.hasRebound, sendRamp_running, h, compression_ne_rebound]
  · by_cases hv' : v = reboundValve c
    · subst hv'
      cases e.select <;>
        simp [ValveSelect.hasCompression, ValveSelect.hasRebound, sendRamp_running, h, rebound_ne_compression]
    · cases e.select <;> simp [ValveSelect.hasCompression, ValveSelect.hasRebound, sendRamp_running, h, hv, hv']

theorem sendApplication_eq {p : Part} (h : p.timer.running = true) (c : CornerId) (e : Entry) (n : Frame) :
    p.sendApplication c e n = { p with channels := (p.sendApplication c e n).channels } := by
  unfold Part.sendApplication
  cases e.select <;> simp [ValveSelect.hasCompression, ValveSelect.hasRebound, sendRamp_running, h] <;> rfl

/-- The override ends of a hold that ended (R49, R51). -/
theorem sendEnds_channel (p : Part) (c : CornerId) (sel : ValveSelect) (x : OverrideEnd) (v : ValveId) :
    (p.sendEnds c sel x).channel v =
      { p.channel v with ends := (p.channel v).ends ++ if sideOf c v sel = true then [x] else [] } := by
  unfold Part.sendEnds Part.sendOverrideEnd sideOf
  by_cases hv : v = compressionValve c
  · subst hv
    cases sel <;> simp [ValveSelect.hasCompression, ValveSelect.hasRebound, compression_ne_rebound]
  · by_cases hv' : v = reboundValve c
    · subst hv'
      cases sel <;> simp [ValveSelect.hasCompression, ValveSelect.hasRebound, rebound_ne_compression]
    · cases sel <;> simp [ValveSelect.hasCompression, ValveSelect.hasRebound, hv, hv']

theorem sendEnds_shape (p : Part) (c : CornerId) (sel : ValveSelect) (x : OverrideEnd) :
    p.sendEnds c sel x = { p with channels := (p.sendEnds c sel x).channels } := by
  unfold Part.sendEnds Part.sendOverrideEnd
  cases sel <;> simp [ValveSelect.hasCompression, ValveSelect.hasRebound] <;> rfl

/-- What the due entries of corner c at frame n make of the part `p`. -/
structure DueHandled (p q : Part) (c : CornerId) (n : Frame) (due : List Entry) : Prop where
  elsewhere : q =
    { p with
      demand := q.demand, channels := q.channels
      engine := { p.engine with demand := due.foldl (fun m e => offered m e.slot) p.engine.demand } }
  channel : ∀ v, q.channel v =
    { p.channel v with
      requests := (p.channel v).requests ++ (due.getLast?.map (requestsOf c n v)).getD [] }
  others : ∀ i, (∀ e ∈ due, e.slot ≠ i) → q.demandSlot i = p.demandSlot i
  superseded : ∀ l e, due = l ++ [e] → (due.map fun e => e.slot).Nodup → ∀ x ∈ l,
    q.demandSlot x.slot = { p.demandSlot x.slot with state := .retiring, final := some (.superseded n) }
  applied : ∀ l e, due = l ++ [e] → (due.map fun e => e.slot).Nodup →
    q.demandSlot e.slot =
      { p.demandSlot e.slot with
        state := .retiring
        final := some (.applied n (p.appliedCompression c e.select e.compression)
          (p.appliedRebound c e.select e.rebound)) }

theorem handleDue_handled {p : Part} (h : p.timer.running = true) (c : CornerId) (n : Frame) (due : List Entry) :
    DueHandled p (p.handleDue c n due) c n due := by
  rcases List.eq_nil_or_concat' due with rfl | ⟨l, e, rfl⟩
  · exact ⟨rfl, fun v => by simp [Part.handleDue], fun _ _ => rfl, fun l e hl => by simp at hl,
      fun l e hl => by simp at hl⟩
  · have hrun : ((p.supersede n l).retire e.slot (.applied n
        ((p.supersede n l).appliedCompression c e.select e.compression)
        ((p.supersede n l).appliedRebound c e.select e.rebound))).timer.running = true := by
      rw [supersede_eq]
      exact h
    have hchannel : ∀ v, (p.supersede n l).channel v = p.channel v := fun v => by rw [supersede_eq]; rfl
    have hcurrent : ∀ v f, (p.supersede n l).currentAt v f = p.currentAt v f := fun v f => by rw [supersede_eq]; rfl
    have hcurrents : (p.supersede n l).appliedCompression c e.select e.compression =
        p.appliedCompression c e.select e.compression ∧
        (p.supersede n l).appliedRebound c e.select e.rebound = p.appliedRebound c e.select e.rebound := by
      simp only [Part.appliedCompression, Part.appliedRebound, hcurrent, and_self]
    have hslot : ∀ i, ((p.supersede n l).applyEntry c e n).demandSlot i =
        if i = e.slot then
          { (p.supersede n l).demandSlot e.slot with
            state := .retiring
            final := some (.applied n (p.appliedCompression c e.select e.compression)
              (p.appliedRebound c e.select e.rebound)) }
        else (p.supersede n l).demandSlot i := fun i => by
      rw [Part.applyEntry, sendApplication_eq hrun, ← hcurrents.1, ← hcurrents.2]
      exact retire_slot _ _ _ _
    have hlast : (l ++ [e]).getLast? = some e := List.getLast?_concat
    have hnodup : ((l ++ [e]).map fun e => e.slot).Nodup → ∀ x ∈ l, x.slot ≠ e.slot := fun hn x hx heq => by
      rw [List.map_append, List.nodup_append] at hn
      exact hn.2.2 _ (List.mem_map_of_mem hx) _ (List.mem_singleton_self _) heq
    rw [handleDue_append]
    refine ⟨?_, fun v => ?_, fun i hi => ?_, fun l' e' hl hn x hx => ?_, fun l' e' hl hn => ?_⟩
    · have hshape : ∃ D X, (p.supersede n l).applyEntry c e n =
          { p with
            demand := D, channels := X
            engine := { p.engine with demand := (l ++ [e]).foldl (fun m e => offered m e.slot) p.engine.demand } } := by
        obtain ⟨D, hD⟩ : ∃ D, p.supersede n l =
            { p with
              demand := D
              engine := { p.engine with demand := l.foldl (fun m e => offered m e.slot) p.engine.demand } } :=
          ⟨_, supersede_eq p n l⟩
        rw [hD] at hrun ⊢
        rw [List.foldl_append]
        exact ⟨_, _, sendApplication_eq hrun c e n⟩
      obtain ⟨D, X, hq⟩ := hshape
      rw [hq]
    · rw [Part.applyEntry, sendApplication_channel hrun, hlast]
      exact congrArg (fun y : Channel => { y with requests := y.requests ++ requestsOf c n v e }) (hchannel v)
    · rw [hslot, if_neg (Ne.symm (hi e (by simp))), supersede_slot, if_neg]
      rintro ⟨x, hx, heq⟩
      exact hi x (by simp [hx]) heq
    · obtain ⟨rfl, he⟩ := List.append_inj' hl rfl
      cases he
      rw [hslot, if_neg (hnodup hn x hx), supersede_slot, if_pos ⟨x, hx, rfl⟩]
    · obtain ⟨rfl, he⟩ := List.append_inj' hl rfl
      cases he
      rw [hslot, if_pos rfl, supersede_slot, if_neg]
      rintro ⟨x, hx, heq⟩
      exact hnodup hn x hx heq

/-! ### The hold (R49) -/

/-- The hold that ends at the corner's next boundary in RUN. -/
def Corner.endingHold (k : Corner) : Option Hold := k.hold.filter fun h => decide (h.left ≤ 1)

theorem endingHold_some {k : Corner} {h : Hold} (hh : k.hold = some h) :
    k.endingHold = if h.left ≤ 1 then some h else none := by
  rw [Corner.endingHold, hh]
  by_cases hl : h.left ≤ 1
  · simp [hl]
  · simp [hl, Nat.not_le.1 hl]

theorem endingHold_none {k : Corner} (hh : k.hold = none) : k.endingHold = none := by
  rw [Corner.endingHold, hh]
  rfl

/-- What the boundary of frame n makes of the hold of corner c (R49, R54). -/
structure HoldCounted (p q : Part) (c : CornerId) (n : Frame) : Prop where
  elsewhere : q =
    { p with
      corners := q.corners, urgent := q.urgent, channels := q.channels
      engine :=
        { p.engine with
          urgent :=
            if (p.corner c).endingHold.isSome = true then offered p.engine.urgent c else p.engine.urgent } }
  corner : q.corner c =
    { p.corner c with
      hold := (p.corner c).hold.bind fun h => if h.left ≤ 1 then none else some { h with left := h.left - 1 } }
  otherCorners : ∀ d, d ≠ c → q.corner d = p.corner d
  ended : (p.corner c).endingHold.isSome = true →
    q.urgentSlot c =
      { p.urgentSlot c with state := .owed, final := some (.ended n), cancel := Vector.replicate 12 .clear }
  others : ∀ d, d ≠ c ∨ ¬(p.corner c).endingHold.isSome = true → q.urgentSlot d = p.urgentSlot d
  channel : ∀ v, q.channel v =
    { p.channel v with
      ends := (p.channel v).ends ++
        ((p.corner c).endingHold.map fun h => if sideOf c v h.select = true then [⟨h.release, n⟩] else []).getD [] }

theorem countHold_counted (p : Part) (c : CornerId) (n : Frame) : HoldCounted p (p.countHold c n) c n := by
  rcases hh : (p.corner c).hold with _ | h
  · have hcount : p.countHold c n = p := by rw [Part.countHold, hh]
    have hending := endingHold_none hh
    rw [hcount]
    refine ⟨?_, ?_, fun _ _ => rfl, ?_, fun _ _ => rfl, fun v => ?_⟩
    · rw [hending]
      rfl
    · rw [hh]
      exact (congrArg (fun x => { p.corner c with hold := x }) hh).symm ▸ rfl
    · rw [hending]
      intro h
      cases h
    · rw [hending]
      simp
  · have hending := endingHold_some hh
    by_cases hl : h.left ≤ 1
    · have hcount : p.countHold c n =
          (p.endHold c (.ended n)).sendEnds c h.select { release := h.release, frame := n } := by
        rw [Part.countHold, hh]
        exact if_pos hl
      rw [if_pos hl] at hending
      rw [hcount]
      refine ⟨?_, ?_, fun d hd => ?_, fun _ => ?_, fun d hd => ?_, fun v => ?_⟩
      · rw [hending, sendEnds_shape]
        rfl
      · rw [sendEnds_shape, hh]
        simp only [Option.bind_some, hl, if_true]
        exact corner_setCorner_self p c _
      · rw [sendEnds_shape]
        exact (corner_setCorner p c d _).trans (if_neg hd)
      · rw [sendEnds_shape]
        exact (endHold_slot p c c _).trans (if_pos rfl)
      · rw [sendEnds_shape]
        refine (endHold_slot p c d _).trans (if_neg (hd.resolve_right ?_))
        rw [hending]
        simp
      · rw [sendEnds_channel, hending]
        rfl
    · have hcount : p.countHold c n = p.setCorner c { p.corner c with hold := some { h with left := h.left - 1 } } := by
        rw [Part.countHold, hh]
        exact if_neg hl
      rw [if_neg hl] at hending
      rw [hcount]
      refine ⟨?_, ?_, fun d hd => ?_, fun h => ?_, fun _ _ => rfl, fun v => ?_⟩
      · rw [hending]
        rfl
      · rw [corner_setCorner_self, hh]
        simp only [Option.bind_some, hl, if_false]
      · exact (corner_setCorner p c d _).trans (if_neg hd)
      · rw [hending] at h
        cases h
      · rw [hending]
        simp

/-! ### The boundary -/

theorem queueLow_eq (p : Part) (c : CornerId) (n : Frame) (a b : Nat) :
    p.queueLow c n a b =
      { p with
        journal :=
          if b < a ∧ b ≤ (p.corner c).lowMark ∧ (p.corner c).lowMark < a then
            p.journal.hand (.queueLow c b (p.corner c).lowMark) n
          else p.journal } := by
  unfold Part.queueLow
  dsimp only
  split <;> rfl

theorem cornerBoundary_runs {p : Part} {c : CornerId} (hr : (p.corner c).state = .run)
    (hs : (p.corner c).silence + 1 < (p.corner c).silenceLimit) :
    p.cornerBoundary c =
      ((p.setCorner c
        { p.corner c with frame := (p.corner c).frame + 1, silence := (p.corner c).silence + 1 }).removeDue c
          ((p.corner c).frame + 1)).countHold c ((p.corner c).frame + 1) := by
  unfold Part.cornerBoundary
  dsimp only
  rw [if_pos hr, if_neg (Nat.not_le.2 hs)]

theorem exec_holdExpiry (c : CornerId) (s : State) :
    exec (.holdExpiry c) s =
      .next { s with
        part := if s.part.cornerDue c && (s.part.corner c).holdExpires then s.part.cornerBoundary c else s.part } := rfl

theorem holdExpires_iff {k : Corner} (hr : k.state = .run) (hs : k.silence + 1 < k.silenceLimit) :
    k.holdExpires = true ↔ ∃ h, k.hold = some h ∧ h.left ≤ 1 := by
  have hsilent : k.silenceExpires = false := by
    rw [Bool.eq_false_iff, ne_eq, silenceExpires_iff]
    omega
  rw [Corner.holdExpires, hr, hsilent]
  cases k.hold <;> simp

theorem endingHold_isSome_iff (k : Corner) : k.endingHold.isSome = true ↔ ∃ h, k.hold = some h ∧ h.left ≤ 1 := by
  rw [Corner.endingHold]
  cases k.hold <;> simp

theorem appliedCurrents_eq (p : Part) (c : CornerId) (e : Entry) :
    p.appliedCompression c e.select e.compression =
        (if sideOf c (compressionValve c) e.select = true then p.currentAt (compressionValve c) e.compression else 0) ∧
      p.appliedRebound c e.select e.rebound =
        (if sideOf c (reboundValve c) e.select = true then p.currentAt (reboundValve c) e.rebound else 0) := by
  simp [Part.appliedCompression, Part.appliedRebound, sideOf, rebound_ne_compression]

/-- Settles O39. -/
theorem cornerBoundaryInRun : Obligations.CornerBoundaryInRun := by
  unfold Obligations.CornerBoundaryInRun
  intro c s p k n due rest side firmness current ends hrun hframe hstate hsilence hnodup
  have hdue : p.cornerDue c = true := (cornerDue_iff p c).2 ⟨hrun, hframe⟩
  have hexpires : k.holdExpires = true ↔ ends := holdExpires_iff hstate hsilence
  let j : Journal :=
    if rest.length < k.list.length ∧ rest.length ≤ k.lowMark ∧ k.lowMark < k.list.length then
      p.journal.hand (.queueLow c rest.length k.lowMark) n
    else p.journal
  let k2 : Corner := { k with frame := n, silence := k.silence + 1, list := rest }
  let p1 : Part := p.setCorner c k2
  let p2 : Part := p1.handleDue c n due
  let p3 : Part := p2.queueLow c n k.list.length rest.length
  let q : Part := p3.countHold c n
  have hhandled : DueHandled p1 p2 c n due := handleDue_handled (p := p1) hrun c n due
  have hcounted : HoldCounted p3 q c n := countHold_counted p3 c n
  have hp2 : p2.corner c = k2 := by
    rw [hhandled.elsewhere]
    exact corner_setCorner_self p c k2
  have hp3 : p3 =
      { p1 with
        demand := p2.demand, channels := p2.channels
        engine := { p.engine with demand := due.foldl (fun m e => offered m e.slot) p.engine.demand }
        journal := j } := by
    have hlow := queueLow_eq p2 c n k.list.length rest.length
    rw [hp2] at hlow
    have hj : p2.journal = p.journal := by rw [hhandled.elsewhere]; rfl
    rw [hj] at hlow
    exact hlow.trans (congrArg (fun z : Part => { z with journal := j }) hhandled.elsewhere)
  have hk3 : p3.corner c = k2 := by
    rw [hp3]
    exact corner_setCorner_self p c k2
  have hboundary : p.cornerBoundary c = q := by
    have hremove : (p.setCorner c { k with frame := n, silence := k.silence + 1 }).removeDue c n = p3 := by
      unfold Part.removeDue
      dsimp only
      rw [corner_setCorner_self, setCorner_setCorner]
    rw [cornerBoundary_runs hstate hsilence, hremove]
  have hending : (p3.corner c).endingHold.isSome = true ↔ ends := by
    rw [hk3]
    exact endingHold_isSome_iff k
  have hslots : ∀ i, q.demandSlot i = p2.demandSlot i := fun i => by
    rw [hcounted.elsewhere, hp3]
    rfl
  have hurgents : ∀ d, p3.urgentSlot d = p.urgentSlot d := fun d => by
    rw [hp3]
    rfl
  have hengine : q.engine =
      { p.engine with
        demand := due.foldl (fun l e => offered l e.slot) p.engine.demand
        urgent := if k2.endingHold.isSome = true then offered p.engine.urgent c else p.engine.urgent } := by
    rw [hcounted.elsewhere, hk3, hp3]
  refine ⟨q, ?_, fun he => ?_, fun he => ?_, ?_, fun d hd => ?_, fun l e hl => ⟨?_, fun x hx => ?_⟩, fun i hi => ?_,
    fun he => ?_, fun d hd => ?_, fun v => ?_, ?_, ?_⟩
  · rw [exec_cornerFrameBoundary, if_pos hdue, hboundary]
  · rw [exec_holdExpiry, if_pos (by rw [hdue, hexpires.2 he]; rfl), hboundary]
  · rw [exec_holdExpiry, if_neg]
    rw [Bool.and_eq_true]
    exact fun h => he (hexpires.1 h.2)
  · rw [hcounted.corner, hk3]
  · rw [hcounted.otherCorners d hd, hp3]
    exact (corner_setCorner p c d k2).trans (if_neg hd)
  · rw [hslots, hhandled.applied l e hl hnodup]
    obtain ⟨hc, hr⟩ := appliedCurrents_eq p1 c e
    rw [hc, hr]
    simp only [current, firmness, if_true, rebound_ne_compression, if_false]
    rfl
  · rw [hslots, hhandled.superseded l e hl hnodup x hx]
    rfl
  · rw [hslots, hhandled.others i hi]
    rfl
  · rw [hcounted.ended (hending.2 he), hurgents]
    rfl
  · rw [hcounted.others d (hd.imp_right fun h hs => h (hending.1 hs)), hurgents]
  · have hch : p3.channel v = p2.channel v := by rw [hp3]; rfl
    rw [hcounted.channel, hk3, hch, hhandled.channel]
    rcases hh : k.hold with _ | h
    · rw [endingHold_none (k := k2) hh]
      cases due.getLast? <;> rfl
    · rw [endingHold_some (k := k2) hh]
      by_cases hl : h.left ≤ 1
      · simp only [hl, if_true, true_and]
        cases due.getLast? <;> rfl
      · simp only [hl, if_false, false_and]
        cases due.getLast? <;> rfl
  · rw [hengine]
    rcases hh : k.hold with _ | h
    · rw [endingHold_none (k := k2) hh]
      rfl
    · rw [endingHold_some (k := k2) hh]
      by_cases hl : h.left ≤ 1
      · simp only [hl, if_true]
        rfl
      · simp only [hl, if_false]
        rfl
  · have h := hcounted.elsewhere
    rw [hk3, hp3] at h
    have hdemand : q.demand = p2.demand := (congrArg Part.demand h :)
    rw [hdemand, hengine]
    exact h

end Sys2Proof.Machine
end

section
/-! Every step keeps the current loops and the analyzer in agreement: the channel's share. -/

namespace Sys2Proof.Machine

/-! ### One channel's share of the agreement -/

/-- The trial in hand when it is valve v's: whether its step has begun. -/
def AnalyzerState.trialOf (v : ValveId) (st : AnalyzerState) : Option Bool :=
  st.trial.bind fun x => if x.1 = v then some x.2 else none

/-- The lesser of a map at a firmness and a Heat Monitor's ceiling; 0 with no map. -/
def ceiledCurrent (active : Option (List MapPoint)) (h : Heat) (f : Nat) : Nat :=
  match active with
  | some pts => min (interpolate pts f) h.ceiling
  | none => 0

/-- The target that a channel's state calls for (R87), given its active map and its trial in hand. -/
def Channel.calledTarget (ch : Channel) (active : Option (List MapPoint)) (trial : Option Bool) : Nat :=
  match ch.state with
  | .off => 0
  | .fault _ => 0
  | .prepare _ => 250
  | .tune .waiting => 0
  | .tune .searching => if trial = some true then 800 else 200
  | .track => ceiledCurrent active ch.heat ch.drive

/-- A channel agrees with its active map, with its place in the Tune Queue and with the trial in hand, its target apart. -/
structure Channel.Placed (ch : Channel) (active : Option (List MapPoint)) (queued : Prop) (trial : Option Bool) : Prop where
  queued : queued ↔ ch.state = .tune .waiting
  searching : ch.state = .tune .searching ↔ trial.isSome = true
  settling : ch.settle.isSome = true → ch.state = .track
  mapped : ch.state.isOffOrFault = false → active.isSome = true
  tuned : ch.state = .track → ch.tunedGain.isSome = true

/-- A channel agrees with its active map, with its place in the Tune Queue and with the trial in hand. -/
structure Channel.Coherent (ch : Channel) (active : Option (List MapPoint)) (queued : Prop) (trial : Option Bool) : Prop
    extends ch.Placed active queued trial where
  target : ch.target = ch.calledTarget active trial

/-- Channel v placed in a part. -/
def Part.placedAt (p : Part) (v : ValveId) : Prop :=
  (p.channel v).Placed (p.map v).active (v ∈ p.analyzer.queue) (p.analyzer.state.trialOf v)

/-- Channel v coherent in a part. -/
def Part.coherentAt (p : Part) (v : ValveId) : Prop :=
  (p.channel v).Coherent (p.map v).active (v ∈ p.analyzer.queue) (p.analyzer.state.trialOf v)

theorem searchesFor_iff (v : ValveId) (st : AnalyzerState) : st.searchesFor v = true ↔ (st.trialOf v).isSome = true := by
  cases st with
  | searching h =>
    obtain ⟨w, g, ph, best⟩ := h
    cases ph <;> by_cases hw : w = v <;>
      simp [AnalyzerState.searchesFor, AnalyzerState.trialOf, AnalyzerState.trial, hw]
  | _ => simp [AnalyzerState.searchesFor, AnalyzerState.trialOf, AnalyzerState.trial]

theorem targetRule_iff {p : Part} {v : ValveId}
    (h : (p.channel v).state = .tune .searching ↔ (p.analyzer.state.trialOf v).isSome = true) :
    p.targetRule v ↔
      (p.channel v).target = (p.channel v).calledTarget (p.map v).active (p.analyzer.state.trialOf v) := by
  unfold Part.targetRule Channel.calledTarget
  cases hs : (p.channel v).state with
  | tune sub =>
    cases sub with
    | waiting => exact Iff.rfl
    | searching =>
      have htrial := h.1 hs
      cases ha : p.analyzer.state with
      | searching x =>
        obtain ⟨w, g, ph, best⟩ := x
        have hw : w = v := by
          rw [ha, ← searchesFor_iff] at htrial
          simpa [AnalyzerState.searchesFor] using htrial
        cases ph <;> simp [AnalyzerState.trialOf, AnalyzerState.trial, hw]
      | _ => rw [ha] at htrial; cases htrial
  | _ => exact Iff.rfl

/-- The agreement of the loops, channel by channel. -/
theorem loopCoherent_iff (p : Part) :
    LoopCoherent p ↔ p.analyzer.queue.Nodup ∧ ∀ v, p.coherentAt v := by
  constructor
  · intro h
    have hsearch v := (h.searching v).trans (searchesFor_iff v _)
    exact ⟨h.queueOnce, fun v => ⟨⟨h.queued v, hsearch v, h.settling v, h.mapped v, h.tuned v⟩,
      (targetRule_iff (hsearch v)).1 (h.target v)⟩⟩
  · rintro ⟨hnodup, h⟩
    exact ⟨fun v => (targetRule_iff (h v).searching).2 (h v).target, hnodup, fun v => (h v).queued,
      fun v => (h v).searching.trans (searchesFor_iff v _).symm, fun v => (h v).settling, fun v => (h v).mapped,
      fun v => (h v).tuned⟩

theorem LoopCoherent.at {p : Part} (h : LoopCoherent p) (v : ValveId) : p.coherentAt v := ((loopCoherent_iff p).1 h).2 v

/-! ### What leaves a channel coherent -/

/-- A channel that has drive, state, target, heat and gain of a coherent one, and no settle run that it has not, is
coherent. -/
theorem Channel.Coherent.supervised {a b : Channel} {active : Option (List MapPoint)} {queued : Prop}
    {trial : Option Bool} (h : a.Coherent active queued trial) (hab : a.Supervised b) : b.Coherent active queued trial where
  queued := by rw [hab.state]; exact h.queued
  searching := by rw [hab.state]; exact h.searching
  settling hs := by rw [hab.state]; exact h.settling (hab.settle hs)
  mapped := by rw [hab.state]; exact h.mapped
  tuned := by rw [hab.state, hab.tunedGain]; exact h.tuned
  target := by
    have hcalled : b.calledTarget active trial = a.calledTarget active trial := by
      unfold Channel.calledTarget
      rw [hab.state, hab.heat, hab.drive]
    rw [hab.target, hcalled]
    exact h.target

theorem Channel.Supervised.refl (ch : Channel) : ch.Supervised ch := ⟨rfl, rfl, rfl, rfl, rfl, id⟩

/-- A part in which every channel stands as in a coherent one is coherent. -/
theorem LoopCoherent.of_supervised {p q : Part} (hp : LoopCoherent p)
    (channel : ∀ v, (p.channel v).Supervised (q.channel v)) (active : ∀ v, (q.map v).active = (p.map v).active)
    (queue : q.analyzer.queue = p.analyzer.queue) (trial : q.analyzer.state.trial = p.analyzer.state.trial) :
    LoopCoherent q := by
  refine (loopCoherent_iff q).2 ⟨queue ▸ hp.queueOnce, fun v => ?_⟩
  have hv := (hp.at v).supervised (channel v)
  unfold Part.coherentAt
  rw [active v, queue, show q.analyzer.state.trialOf v = p.analyzer.state.trialOf v by
    unfold AnalyzerState.trialOf; rw [trial]]
  exact hv

/-- An event that leaves channels, maps and analyzer alone keeps the loops. -/
theorem LoopCoherent.of_units {p q : Part} (channels : q.channels = p.channels) (maps : q.maps = p.maps)
    (analyzer : q.analyzer = p.analyzer) (hp : LoopCoherent p) : LoopCoherent q := by
  have hchannel v : q.channel v = p.channel v := by unfold Part.channel; rw [channels]
  have hmap v : q.map v = p.map v := by unfold Part.map; rw [maps]
  exact hp.of_supervised (fun v => by rw [hchannel]; exact .refl _) (fun v => by rw [hmap]) (by rw [analyzer])
    (by rw [analyzer])

theorem LoopCoherent.of_loops {p q : Part} (h : SameLoops p q) (maps : q.maps = p.maps) (hp : LoopCoherent p) :
    LoopCoherent q :=
  hp.of_units h.1 maps h.2

/-- An event at channel v alone: the others stand, in the Tune Queue and at the analyzer too. -/
structure OnlyAt (v : ValveId) (p q : Part) : Prop where
  channel : ∀ w, w ≠ v → q.channel w = p.channel w
  active : ∀ w, w ≠ v → (q.map w).active = (p.map w).active
  queued : ∀ w, w ≠ v → (w ∈ q.analyzer.queue ↔ w ∈ p.analyzer.queue)
  trial : ∀ w, w ≠ v → q.analyzer.state.trialOf w = p.analyzer.state.trialOf w

theorem OnlyAt.coherentAt {p q : Part} {v : ValveId} (h : OnlyAt v p q) (hp : LoopCoherent p) (w : ValveId)
    (hw : w ≠ v) : q.coherentAt w := by
  unfold Part.coherentAt
  rw [h.channel w hw, h.active w hw, h.trial w hw, propext (h.queued w hw)]
  exact hp.at w

/-- An event at channel v keeps the loops when channel v is coherent after it. -/
theorem LoopCoherent.of_onlyAt {p q : Part} {v : ValveId} (h : OnlyAt v p q) (nodup : q.analyzer.queue.Nodup)
    (hv : q.coherentAt v) (hp : LoopCoherent p) : LoopCoherent q := by
  refine (loopCoherent_iff q).2 ⟨nodup, fun w => ?_⟩
  by_cases hw : w = v
  · rw [hw]; exact hv
  · exact h.coherentAt hp w hw

theorem OnlyAt.setChannel (p : Part) (v : ValveId) (ch : Channel) : OnlyAt v p (p.setChannel v ch) :=
  ⟨fun _ hw => channel_setChannel_ne p _ hw, fun _ _ => rfl, fun _ _ => Iff.rfl, fun _ _ => rfl⟩

/-- A channel replaced, its place kept. -/
theorem LoopCoherent.setChannel {p : Part} (hp : LoopCoherent p) (v : ValveId) (ch : Channel)
    (hv : ch.Coherent (p.map v).active (v ∈ p.analyzer.queue) (p.analyzer.state.trialOf v)) :
    LoopCoherent (p.setChannel v ch) := by
  refine hp.of_onlyAt (.setChannel p v ch) hp.queueOnce ?_
  unfold Part.coherentAt
  rw [channel_setChannel_self]
  exact hv

/-! ### Recomputation -/

theorem currentAt_eq (p : Part) (v : ValveId) (f : Nat) :
    p.currentAt v f = ceiledCurrent (p.map v).active (p.channel v).heat f := rfl

/-- A capture that a recomputation starts takes an IDLE analyzer, which has no trial in hand. -/
theorem recompute_trial (p : Part) (v : ValveId) : (p.recompute v).analyzer.state.trial = p.analyzer.state.trial := by
  have htrigger (q : Part) : (q.trackTrigger v).analyzer.state.trial = q.analyzer.state.trial := by
    unfold Part.trackTrigger
    split
    · next h => rw [h.2.1]; rfl
    · rfl
  unfold Part.recompute
  dsimp only
  split
  · unfold Part.replaceTarget
    dsimp only
    split
    · exact htrigger _
    · rfl
  · rfl

/-- In TRACK a recomputation gives the target that R94 states. -/
theorem recompute_target {p : Part} {v : ValveId} (hs : (p.channel v).state = .track) :
    ((p.recompute v).channel v).target = p.currentAt v (p.channel v).drive := by
  have htrigger (q : Part) : (q.trackTrigger v).channel v = q.channel v := by
    unfold Part.trackTrigger
    split <;> rfl
  by_cases hne : p.currentAt v (p.channel v).drive = (p.channel v).target
  · rw [recompute_stands (.inr hne), hne]
  · rw [recompute_replaces hs hne, Part.replaceTarget]
    split
    · rw [htrigger, channel_setChannel_self]
    · rw [channel_setChannel_self]

/-- A recomputation makes a placed channel coherent, when only one in TRACK was not. -/
theorem placed_recompute {p : Part} {v : ValveId} (hv : p.placedAt v)
    (htarget : (p.channel v).state ≠ .track →
      (p.channel v).target = (p.channel v).calledTarget (p.map v).active (p.analyzer.state.trialOf v)) :
    (p.recompute v).coherentAt v := by
  by_cases hs : (p.channel v).state = .track
  · obtain ⟨t, s, hch⟩ := recompute_channel p v
    have ht := recompute_target hs
    have htrial : (p.recompute v).analyzer.state.trialOf v = p.analyzer.state.trialOf v := by
      unfold AnalyzerState.trialOf; rw [recompute_trial]
    have hqueue : (p.recompute v).analyzer.queue = p.analyzer.queue := by simp
    have hmaps : (p.recompute v).map v = p.map v := by simp
    unfold Part.coherentAt
    rw [hch] at ht ⊢
    rw [htrial, hqueue, hmaps]
    refine ⟨⟨hv.queued, hv.searching, fun _ => hs, hv.mapped, hv.tuned⟩, ?_⟩
    rw [ht, currentAt_eq]
    have hlooped : ((p.channel v).looped t s).state = .track := hs
    unfold Channel.calledTarget
    rw [hlooped]
    rfl
  · rw [recompute_stands (.inl hs)]
    exact ⟨hv, htarget hs⟩

/-- A recomputation at valve v after an event at valve v. -/
theorem LoopCoherent.recompute {p q : Part} {v : ValveId} (hp : LoopCoherent p) (h : OnlyAt v p q)
    (hnodup : q.analyzer.queue.Nodup) (hv : q.placedAt v)
    (htarget : (q.channel v).state ≠ .track →
      (q.channel v).target = (q.channel v).calledTarget (q.map v).active (q.analyzer.state.trialOf v)) :
    LoopCoherent (q.recompute v) := by
  have hqueue : (q.recompute v).analyzer.queue = q.analyzer.queue := by simp
  refine hp.of_onlyAt (v := v) ⟨fun w hw => ?_, fun w hw => ?_, fun w hw => ?_, fun w hw => ?_⟩ (hqueue ▸ hnodup)
    (placed_recompute hv htarget)
  · rw [recompute_others q v hw, h.channel w hw]
  · simpa using h.active w hw
  · rw [hqueue]; exact h.queued w hw
  · have htrial := h.trial w hw
    unfold AnalyzerState.trialOf at htrial ⊢
    rw [recompute_trial]
    exact htrial

/-- Outside TRACK the target that a state calls for does not look at drive, Heat Monitor and map. -/
theorem calledTarget_congr {a b : Channel} {m n : Option (List MapPoint)} {trial : Option Bool} (h : b.state = a.state)
    (hs : a.state ≠ .track) : b.calledTarget n trial = a.calledTarget m trial := by
  unfold Channel.calledTarget
  rw [h]
  cases ha : a.state with
  | track => exact absurd ha hs
  | tune sub => cases sub <;> rfl
  | _ => rfl

/-- New values at a channel that keep its state, its target, its gain and its settle run, and R94 then (R94). -/
theorem LoopCoherent.redriven {p : Part} (hp : LoopCoherent p) (v : ValveId) (ch : Channel)
    (state : ch.state = (p.channel v).state) (target : ch.target = (p.channel v).target)
    (tunedGain : ch.tunedGain = (p.channel v).tunedGain) (settle : ch.settle = (p.channel v).settle) :
    LoopCoherent (p.redriven v ch) := by
  have hv := hp.at v
  refine hp.recompute (.setChannel p v ch) hp.queueOnce ?_ ?_
  · unfold Part.placedAt
    rw [channel_setChannel_self]
    exact ⟨by rw [state]; exact hv.queued, by rw [state]; exact hv.searching, by rw [state, settle]; exact hv.settling,
      by rw [state]; exact hv.mapped, by rw [state, tunedGain]; exact hv.tuned⟩
  · rw [channel_setChannel_self]
    intro hs
    rw [target, calledTarget_congr state (state ▸ hs)]
    exact hv.target

end Sys2Proof.Machine
end

section
/-! Every step keeps the current loops and the analyzer in agreement (R81, R87, R91, R92, R97, R98, R107, R108): the events
of the channels, of the analyzer and of the corners. -/

namespace Sys2Proof.Machine

variable {p : Part}

/-! ### Drops, ramps and the corner events -/

theorem LoopCoherent.channel (hp : LoopCoherent p) (v : ValveId) (ch : Channel) (h : (p.channel v).Supervised ch) :
    LoopCoherent (p.setChannel v ch) :=
  hp.setChannel v ch ((hp.at v).supervised h)

theorem LoopCoherent.phaseDropped (hp : LoopCoherent p) (v : ValveId) : LoopCoherent (p.phaseDropped v) :=
  hp.redriven v _ rfl rfl rfl rfl

theorem LoopCoherent.dropped (hp : LoopCoherent p) (c : CornerId) : LoopCoherent (p.dropped c) :=
  (hp.phaseDropped _).phaseDropped _

theorem LoopCoherent.valveRamped (hp : LoopCoherent p) (c : CornerId) (f : Frame) (v : ValveId) :
    LoopCoherent (p.valveRamped c f v) := by
  unfold Part.valveRamped
  split
  · exact hp.channel v _ ⟨rfl, rfl, rfl, rfl, rfl, id⟩
  · exact hp.redriven v _ rfl rfl rfl rfl

theorem LoopCoherent.limpRamped (hp : LoopCoherent p) (c : CornerId) (f : Frame) : LoopCoherent (p.limpRamped c f) :=
  (hp.valveRamped c f _).valveRamped c f _

theorem ramped_maps (p : Part) (c : CornerId) (f : Frame) : ((p.dropped c).limpRamped c f).maps = p.maps := by
  rw [← sendLimpRamp_eq]
  unfold Part.dropped
  simp [← phaseDropped_eq]

theorem LoopCoherent.enterLimp (hp : LoopCoherent p) (c : CornerId) (d : LimpDetail) (f : Frame) :
    LoopCoherent (p.enterLimp c d f) := by
  have h := enterLimp_entered p c d f
  refine ((hp.dropped c).limpRamped c f).of_loops h.loops ?_
  rw [ramped_maps]
  simp

theorem LoopCoherent.enterIdle (hp : LoopCoherent p) (c : CornerId) : LoopCoherent (p.enterIdle c) := by
  obtain ⟨-, -, hloops, -, -⟩ := enterIdle_entered p c
  refine ((hp.dropped c).limpRamped c _).of_loops hloops ?_
  rw [ramped_maps]
  simp

theorem LoopCoherent.enterRun (hp : LoopCoherent p) (c : CornerId) : LoopCoherent (p.enterRun c) := by
  rw [enterRun_eq]
  exact .of_units (p := p) rfl rfl rfl hp

theorem LoopCoherent.enterSafe (hp : LoopCoherent p) (c : CornerId) : LoopCoherent (p.enterSafe c) := by
  obtain ⟨hchannels, hanalyzer⟩ := leaveRun_loops p c .safe
  refine (hp.dropped c).of_units ?_ ?_ ?_
  · rw [← hchannels]; simp [Part.enterSafe]
  · unfold Part.dropped
    simp [← phaseDropped_eq]
  · rw [← hanalyzer]; simp [Part.enterSafe]

theorem LoopCoherent.exitSafe (hp : LoopCoherent p) (c : CornerId) : LoopCoherent (p.exitSafe c) := by
  have hidle : LoopCoherent ((p.setCornerState c .idle .none).sendLimpRamp c (p.nextFrame c)) := by
    rw [sendLimpRamp_eq]
    have hset : LoopCoherent (p.setCornerState c .idle .none) := .of_units (p := p) rfl rfl rfl hp
    exact hset.limpRamped c _
  unfold Part.exitSafe
  split
  · exact hidle.of_units (by simp) (by simp) (by simp)
  · exact hp

/-! ### A channel stopped -/

/-- What letting go of a valve leaves of the Tune Queue and of the trial in hand. -/
theorem analyzerLeft_keeps (hp : LoopCoherent p) (v : ValveId) :
    (p.analyzerLeft v).queue.Nodup ∧ (∀ w, w ∈ (p.analyzerLeft v).queue ↔ w ≠ v ∧ w ∈ p.analyzer.queue) ∧
      (p.analyzerLeft v).state.trialOf v = none ∧
      ∀ w, w ≠ v → (p.analyzerLeft v).state.trialOf w = p.analyzer.state.trialOf w := by
  have hv := hp.at v
  have hmem (h : (p.channel v).state ≠ .tune .waiting) (w : ValveId) :
      w ∈ p.analyzer.queue ↔ w ≠ v ∧ w ∈ p.analyzer.queue := by
    constructor
    · rintro hw
      refine ⟨?_, hw⟩
      rintro rfl
      exact h (hv.queued.1 hw)
    · exact And.right
  have htrial (h : (p.channel v).state ≠ .tune .searching) : p.analyzer.state.trialOf v = none := by
    by_contra hne
    exact h (hv.searching.2 (Option.isSome_iff_ne_none.2 hne))
  unfold Part.analyzerLeft
  by_cases hw : (p.channel v).state = .tune .waiting
  · rw [if_pos hw]
    refine ⟨hp.queueOnce.filter _, fun w => by simp [and_comm], htrial (by rw [hw]; simp), fun _ _ => rfl⟩
  rw [if_neg hw]
  by_cases hs : (p.channel v).state = .tune .searching ∧ p.analyzer.state.searchesFor v = true
  · rw [if_pos hs]
    have habort : ({ p.analyzer with state := .idle, buffer := [] } : Analyzer).traceAborted.queue = p.analyzer.queue ∧
        ({ p.analyzer with state := .idle, buffer := [] } : Analyzer).traceAborted.state = .idle := by
      unfold Analyzer.traceAborted
      split <;> exact ⟨rfl, rfl⟩
    rw [habort.1, habort.2]
    refine ⟨hp.queueOnce, hmem hw, rfl, fun w hwv => ?_⟩
    show none = _
    cases ha : p.analyzer.state with
    | searching x =>
      have hx : x.valve = v := by simpa [ha, AnalyzerState.searchesFor] using hs.2
      obtain ⟨u, g, ph, best⟩ := x
      cases ph <;> exact (if_neg (fun h : u = w => hwv (h.symm.trans hx))).symm
    | _ => rfl
  rw [if_neg hs]
  have hsearching : (p.channel v).state ≠ .tune .searching := fun h =>
    hs ⟨h, (searchesFor_iff v _).2 (hv.searching.1 h)⟩
  by_cases hc : (p.channel v).state = .track ∧ p.analyzer.state = .capturing v
  · rw [if_pos hc]
    exact ⟨hp.queueOnce, hmem hw, rfl, fun w _ => by rw [hc.2]; rfl⟩
  · rw [if_neg hc]
    exact ⟨hp.queueOnce, hmem hw, htrial hsearching, fun _ _ => rfl⟩

theorem stopChannel_onlyAt (hp : LoopCoherent p) (v : ValveId) {entered : ChannelState} (h : entered.isTrack = false) :
    OnlyAt v p (p.stopChannel v entered) := by
  have hstop := stopChannel_stopped p v entered h
  obtain ⟨-, hmem, -, htrial⟩ := analyzerLeft_keeps hp v
  refine ⟨hstop.otherChannels, fun w _ => by simp, fun w hw => ?_, fun w hw => ?_⟩
  · rw [hstop.analyzer, hmem]; exact and_iff_right hw
  · rw [hstop.analyzer]; exact htrial w hw

theorem LoopCoherent.stopChannel (hp : LoopCoherent p) (v : ValveId) {entered : ChannelState}
    (h : entered.isOffOrFault = true) : LoopCoherent (p.stopChannel v entered) := by
  have htrack : entered.isTrack = false := by cases entered <;> first | rfl | cases h
  have hstop := stopChannel_stopped p v entered htrack
  obtain ⟨hnodup, hmem, htrial, -⟩ := analyzerLeft_keeps hp v
  refine hp.of_onlyAt (stopChannel_onlyAt hp v htrack) (by rw [hstop.analyzer]; exact hnodup) ?_
  unfold Part.coherentAt
  rw [hstop.channel, hstop.analyzer, htrial]
  cases entered with
  | off => exact ⟨⟨by simp [hmem], by simp, nofun, nofun, nofun⟩, rfl⟩
  | fault c => exact ⟨⟨by simp [hmem], by simp, nofun, nofun, nofun⟩, rfl⟩
  | _ => cases h

/-- A channel that drives its coil has a map. -/
theorem LoopCoherent.mappedIn (hp : LoopCoherent p) {v : ValveId} (h : (p.channel v).state.isOffOrFault = false) :
    (p.map v).active.isSome = true := (hp.at v).mapped h

theorem LoopCoherent.enterWaiting (hp : LoopCoherent p) (v : ValveId)
    (h : (∃ x, (p.channel v).state = .prepare x) ∨ (p.channel v).state = .track) : LoopCoherent (p.enterWaiting v) := by
  have hstop := stopChannel_stopped p v (.tune .waiting) rfl
  have honly := stopChannel_onlyAt hp v (entered := .tune .waiting) rfl
  obtain ⟨hnodup, hmem, htrial, -⟩ := analyzerLeft_keeps hp v
  have hdrives : (p.channel v).state.isOffOrFault = false := by
    obtain ⟨x, hx⟩ | ht := h
    · rw [hx]; rfl
    · rw [ht]; rfl
  have hmap : ((p.stopChannel v (.tune .waiting)).map v) = p.map v := by simp
  have hout : v ∉ (p.analyzerLeft v).queue := fun hv => ((hmem v).1 hv).1 rfl
  unfold Part.enterWaiting
  dsimp only
  rw [hstop.analyzer]
  refine hp.of_onlyAt (v := v) ⟨honly.channel, honly.active, fun w hw => ?_, fun w hw => ?_⟩ ?_ ?_
  · refine Iff.trans ?_ (honly.queued w hw)
    rw [hstop.analyzer]
    show w ∈ (p.analyzerLeft v).queue ++ [v] ↔ _
    rw [List.mem_append, List.mem_singleton, or_iff_left hw]
  · have := honly.trial w hw
    rw [hstop.analyzer] at this
    exact this
  · refine List.nodup_append.2 ⟨hnodup, by simp, fun a ha b hb => ?_⟩
    rw [List.mem_singleton.1 hb]
    rintro rfl
    exact hout ha
  · unfold Part.coherentAt
    rw [channel_setAnalyzer, map_setAnalyzer, hstop.channel, hmap]
    show Channel.Coherent _ _ (v ∈ (p.analyzerLeft v).queue ++ [v]) ((p.analyzerLeft v).state.trialOf v)
    rw [htrial]
    exact ⟨⟨by simp, by simp, nofun, fun _ => hp.mappedIn hdrives, nofun⟩, rfl⟩

/-! ### Entries to PREPARE, TRACK and SEARCHING -/

theorem enterTrack_onlyAt (p : Part) (v : ValveId) : OnlyAt v p (p.enterTrack v) := by
  unfold Part.enterTrack
  exact ⟨fun w hw => by simp [hw], fun w hw => by simp, fun w hw => by simp, fun w hw => by simp⟩

/-- TRACK is entered by a channel that has a gain and a map and that is in no trial and not queued (R95). -/
theorem enterTrack_coherentAt {v : ValveId} (hgain : (p.channel v).tunedGain.isSome = true)
    (hmap : (p.map v).active.isSome = true) (hqueue : v ∉ p.analyzer.queue) (htrial : p.analyzer.state.trialOf v = none) :
    (p.enterTrack v).coherentAt v := by
  unfold Part.coherentAt Part.enterTrack
  simp only [evalReady_units, channel_setChannel_self, map_setChannel, analyzer_setChannel, htrial]
  exact ⟨⟨by simp [hqueue], by simp, fun _ => rfl, fun _ => hmap, fun _ => hgain⟩, rfl⟩

theorem LoopCoherent.enterTrack (hp : LoopCoherent p) (v : ValveId) (x : Prepare) (hs : (p.channel v).state = .prepare x)
    (hgain : (p.channel v).tunedGain.isSome = true) : LoopCoherent (p.enterTrack v) := by
  have hv := hp.at v
  refine hp.of_onlyAt (enterTrack_onlyAt p v) ?_ (enterTrack_coherentAt hgain (hv.mapped (by rw [hs]; rfl)) ?_ ?_)
  · have : (p.enterTrack v).analyzer = p.analyzer := by simp [Part.enterTrack]
    rw [this]; exact hp.queueOnce
  · intro hq; have := hv.queued.1 hq; rw [hs] at this; cases this
  · by_contra hne
    have := hv.searching.2 (Option.isSome_iff_ne_none.2 hne); rw [hs] at this; cases this

/-- A state replaced by another with its target, in which a channel is neither queued nor searched for, before and after. -/
theorem LoopCoherent.outside (hp : LoopCoherent p) (v : ValveId) (st : ChannelState) (t : Nat)
    (hold : (p.channel v).state.isOffOrFault = true ∨ ∃ x, (p.channel v).state = .prepare x)
    (hnew : st.isOffOrFault = true ∨ ∃ x, st = .prepare x)
    (hmap : st.isOffOrFault = false → (p.map v).active.isSome = true)
    (ht : t = ({ p.channel v with state := st, target := t } : Channel).calledTarget (p.map v).active
      (p.analyzer.state.trialOf v)) :
    LoopCoherent (p.setChannel v { p.channel v with state := st, target := t }) := by
  have hv := hp.at v
  have apart {s : ChannelState} (h : s.isOffOrFault = true ∨ ∃ x, s = .prepare x) :
      s ≠ .tune .waiting ∧ s ≠ .tune .searching ∧ s ≠ .track := by
    obtain h | ⟨x, rfl⟩ := h
    · refine ⟨?_, ?_, ?_⟩ <;> (rintro rfl; cases h)
    · simp
  obtain ⟨hwaiting, hsearching, htrack⟩ := apart hold
  obtain ⟨hwaiting', hsearching', htrack'⟩ := apart hnew
  refine hp.setChannel v _ ⟨⟨?_, ?_, fun h => absurd (hv.settling h) htrack, hmap, fun h => absurd h htrack'⟩, ht⟩
  · exact iff_of_false (fun h => hwaiting (hv.queued.1 h)) hwaiting'
  · exact iff_of_false hsearching' (fun h => hsearching (hv.searching.2 h))

/-- A look takes the first channel that is not HOT out of the queue (R109). -/
theorem lookAt_perm {hot : ValveId → Bool} {l passed q : List ValveId} {v : ValveId} (h : lookAt hot passed l = some (v, q)) :
    (v :: q).Perm (passed ++ l) := by
  induction l generalizing passed with
  | nil => cases h
  | cons x rest ih =>
    unfold lookAt at h
    split at h
    · exact (ih h).trans (by simp)
    · cases h
      exact (List.perm_middle.trans (List.Perm.cons _ List.perm_append_comm)).symm

theorem LoopCoherent.startSearch (hp : LoopCoherent p) (v : ValveId) (q : List ValveId) (hidle : p.analyzer.state = .idle)
    (hlook : lookAt (fun v => (p.channel v).heat.level == .hot) [] p.analyzer.queue = some (v, q)) :
    LoopCoherent (p.startSearch v q) := by
  have hperm : (v :: q).Perm p.analyzer.queue := lookAt_perm hlook
  have hnodup := hperm.nodup_iff.2 hp.queueOnce
  obtain ⟨hout, hrest⟩ := List.nodup_cons.1 hnodup
  have hv := hp.at v
  have hwaiting := hv.queued.1 (hperm.mem_iff.1 List.mem_cons_self)
  have hsettle : (p.channel v).settle.isSome = false := by
    by_contra h
    have := hv.settling (Bool.eq_true_of_not_eq_false h)
    rw [hwaiting] at this
    cases this
  refine hp.of_onlyAt (v := v) ⟨fun w hw => channel_setChannel_ne p _ hw, fun _ _ => rfl, fun w hw => ?_, fun w hw => ?_⟩
    hrest ?_
  · exact ⟨fun h => hperm.mem_iff.1 (List.mem_cons_of_mem _ h),
      fun h => (List.mem_cons.1 (hperm.mem_iff.2 h)).resolve_left hw⟩
  · rw [hidle]
    exact if_neg (Ne.symm hw)
  · unfold Part.coherentAt Part.startSearch
    rw [channel_setAnalyzer, channel_setChannel_self, map_setAnalyzer, map_setChannel]
    have htrial : AnalyzerState.trialOf v (.searching { valve := v, gain := 0, phase := .preDrive 0, best := none }) =
        some false := if_pos rfl
    show Channel.Coherent _ _ (v ∈ q)
      (AnalyzerState.trialOf v (.searching { valve := v, gain := 0, phase := .preDrive 0, best := none }))
    rw [htrial]
    refine ⟨⟨by simp [hout], by simp, fun h => ?_, fun _ => hv.mapped (by rw [hwaiting]; rfl), nofun⟩, rfl⟩
    rw [hsettle] at h
    cases h

/-- What a coherent part with a search in hand has at its valve. -/
theorem LoopCoherent.searched (hp : LoopCoherent p) {h : Search} (hs : p.analyzer.state = .searching h) :
    (p.channel h.valve).state = .tune .searching ∧ h.valve ∉ p.analyzer.queue ∧
      (p.channel h.valve).settle.isSome = false ∧ (p.map h.valve).active.isSome = true ∧
      ∀ w, w ≠ h.valve → p.analyzer.state.trialOf w = none := by
  have hv := hp.at h.valve
  have hstate : (p.channel h.valve).state = .tune .searching :=
    (hp.searching h.valve).2 (by rw [hs]; exact beq_self_eq_true _)
  refine ⟨hstate, fun hq => ?_, ?_, hv.mapped (by rw [hstate]; rfl), fun w hw => ?_⟩
  · have := hv.queued.1 hq
    rw [hstate] at this
    cases this
  · by_contra h'
    have := hv.settling (Bool.eq_true_of_not_eq_false h')
    rw [hstate] at this
    cases this
  · rw [hs]
    obtain ⟨u, g, ph, best⟩ := h
    cases ph <;> exact if_neg (Ne.symm hw)

/-- The search in hand moved to a trial's pre-drive or step, with the current of it (R110, R111). -/
theorem LoopCoherent.trial (hp : LoopCoherent p) {h : Search} (hs : p.analyzer.state = .searching h) (x : Analyzer)
    (b : Bool) (hqueue : x.queue = p.analyzer.queue) (htrial : x.state.trial = some (h.valve, b)) :
    LoopCoherent ((p.setChannel h.valve { p.channel h.valve with target := if b = true then 800 else 200 }).setAnalyzer x) := by
  obtain ⟨hstate, hout, hsettle, hmapped, hnone⟩ := hp.searched hs
  have hxtrial (w : ValveId) : x.state.trialOf w = if h.valve = w then some b else none := by
    unfold AnalyzerState.trialOf
    rw [htrial]
    rfl
  refine hp.of_onlyAt (v := h.valve)
    ⟨fun w hw => channel_setChannel_ne p _ hw, fun _ _ => rfl, fun w _ => ?_, fun w hw => ?_⟩ ?_ ?_
  · rw [analyzer_setAnalyzer, hqueue]
  · rw [analyzer_setAnalyzer, hxtrial, if_neg (Ne.symm hw), hnone w hw]
  · rw [analyzer_setAnalyzer, hqueue]; exact hp.queueOnce
  · unfold Part.coherentAt
    rw [channel_setAnalyzer, channel_setChannel_self, map_setAnalyzer, map_setChannel, analyzer_setAnalyzer, hqueue,
      hxtrial, if_pos rfl]
    refine ⟨⟨by simp [hstate, hout], by simp [hstate], fun h => ?_, fun _ => hmapped, fun h => ?_⟩, ?_⟩
    · exact absurd (hsettle.symm.trans h) (by simp)
    · exact absurd (hstate.symm.trans h) (by simp)
    · unfold Channel.calledTarget
      simp only [hstate, Option.some.injEq]

end Sys2Proof.Machine
end

section
/-! Every step keeps the current loops and the analyzer in agreement: every event. -/

namespace Sys2Proof.Machine

variable {p : Part}

/-- A change of a Heat Monitor that leaves the ceiling in force. -/
theorem LoopCoherent.setHeat (hp : LoopCoherent p) (v : ValveId) (x : Heat) (h : x.ceiling = (p.channel v).heat.ceiling) :
    LoopCoherent (p.setHeat v x) := by
  have hv := hp.at v
  refine hp.setChannel v _ ⟨⟨hv.queued, hv.searching, hv.settling, hv.mapped, hv.tuned⟩, hv.target.trans ?_⟩
  unfold Channel.calledTarget ceiledCurrent
  rw [show ({ p.channel v with heat := x } : Channel).heat.ceiling = (p.channel v).heat.ceiling from h]
  rfl

/-- A ceiling changed, and the target recomputed when it is in force (R127). -/
theorem LoopCoherent.recomputeIn (hp : LoopCoherent p) (v : ValveId) (x : Heat) (l : ThermalLevel)
    (hl : x.level = (p.channel v).heat.level) (hother : ∀ k, k ≠ l → x.ceilingOf k = (p.channel v).heat.ceilingOf k) :
    LoopCoherent ((p.setHeat v x).recomputeIn v l) := by
  have hlevel : ((p.setHeat v x).channel v).heat.level = (p.channel v).heat.level := by
    rw [Part.setHeat, channel_setChannel_self]; exact hl
  unfold Part.recomputeIn
  rw [hlevel]
  split
  · exact hp.redriven v _ rfl rfl rfl rfl
  · next hne =>
    refine hp.setHeat v x ?_
    rw [Heat.ceiling, Heat.ceiling, hl]
    exact hother _ hne

/-- An active map replaced, and the target recomputed (R84, R94). -/
theorem LoopCoherent.promote (hp : LoopCoherent p) (v : ValveId) : LoopCoherent (p.promote v) := by
  have hv := hp.at v
  unfold Part.promote
  dsimp only
  refine hp.recompute ⟨fun _ _ => rfl, fun w hw => by rw [map_setMap, if_neg hw], fun _ _ => Iff.rfl, fun _ _ => rfl⟩
    hp.queueOnce ?_ ?_
  · unfold Part.placedAt
    rw [map_setMap, if_pos rfl]
    exact ⟨hv.queued, hv.searching, hv.settling, fun _ => rfl, hv.tuned⟩
  · intro hs
    rw [channel_setMap] at hs ⊢
    rw [hv.target]
    exact calledTarget_congr rfl hs

/-- A change of a map's staging and result keeps the loops. -/
theorem LoopCoherent.setMap (hp : LoopCoherent p) (v : ValveId) (m : MapEntry) (h : m.active = (p.map v).active) :
    LoopCoherent (p.setMap v m) := by
  refine hp.of_supervised (fun _ => .refl _) (fun w => ?_) rfl rfl
  rw [map_setMap]
  split
  · next hw => rw [hw, h]
  · rfl

theorem LoopCoherent.closeMap (hp : LoopCoherent p) (v : ValveId) (cw : ClosingWord) : LoopCoherent (p.closeMap v cw) := by
  have validated : LoopCoherent (p.setMap v
      { p.map v with
        state := pendingOf (mapFlaw (p.map v).staging.toList cw), header := some cw
        result := some { reason := mapFlaw (p.map v).staging.toList cw, count := headerCount cw.data } }) :=
    hp.setMap v _ rfl
  unfold Part.closeMap
  dsimp only
  split <;> refine LoopCoherent.of_units ?_ ?_ ?_ validated <;> rfl

/-- Stopped channels, an empty queue and an IDLE analyzer agree. -/
theorem loopCoherent_stopped (hanalyzer : p.analyzer = .reset) (state : ∀ v, (p.channel v).state.isOffOrFault = true)
    (target : ∀ v, (p.channel v).target = 0) (settle : ∀ v, (p.channel v).settle = none) : LoopCoherent p := by
  refine (loopCoherent_iff p).2 ⟨by rw [hanalyzer]; exact List.nodup_nil, fun v => ?_⟩
  have hstate := state v
  unfold Part.coherentAt
  rw [hanalyzer]
  show Channel.Coherent _ _ (v ∈ ([] : List ValveId)) none
  cases hs : (p.channel v).state with
  | off =>
    refine ⟨⟨by simp [hs], by simp [hs], by simp [settle], by simp [hs, ChannelState.isOffOrFault], by simp [hs]⟩, ?_⟩
    simp [target, Channel.calledTarget, hs]
  | fault _ =>
    refine ⟨⟨by simp [hs], by simp [hs], by simp [settle], by simp [hs, ChannelState.isOffOrFault], by simp [hs]⟩, ?_⟩
    simp [target, Channel.calledTarget, hs]
  | _ => rw [hs] at hstate; cases hstate

theorem loopCoherent_restart (p : Part) (order : List Nat) : LoopCoherent (p.restart order) := by
  refine loopCoherent_stopped rfl (fun v => ?_) (fun v => ?_) (fun v => ?_)
  · rw [restart_channel]
    unfold Channel.restarted
    dsimp only
    split
    · next hf =>
      cases hs : (p.channel v).state with
      | fault c => rfl
      | _ => rw [hs] at hf; cases hf
    · rfl
  · rw [restart_channel]; rfl
  · rw [restart_channel]; rfl

theorem isFault_fault {st : ChannelState} (h : st.isFault = true) : ∃ c, st = .fault c := by
  cases st with
  | fault c => exact ⟨c, rfl⟩
  | _ => cases h

/-- The agreement of the loops is made of small events, none of which looks at the corners' work. -/
theorem loopCoherent_unowed : Part.Unowed LoopCoherent where
  bridge _ := .of_units rfl rfl rfl
  port _ := .of_units rfl rfl rfl
  waitCount _ := .of_units rfl rfl rfl
  fresh _ := .of_units rfl rfl rfl
  hand _ _ := .of_units rfl rfl rfl
  engine _ _ _ := .of_units rfl rfl rfl
  pairing _ := .of_units rfl rfl rfl
  dflt _ := .of_units rfl rfl rfl
  setup _ _ _ := .of_units rfl rfl rfl
  period _ := .of_units rfl rfl rfl
  start := .of_units rfl rfl rfl
  frame _ := .of_units rfl rfl rfl
  corner _ _ _ := .of_units rfl rfl rfl
  watermarks _ _ _ _ _ := .of_units rfl rfl rfl
  dryRun _ _ _ := .of_units rfl rfl rfl
  enterLimp c d f _ hp := hp.enterLimp c d f
  enterIdle c _ hp := hp.enterIdle c
  enterRun c _ _ _ hp := hp.enterRun c
  channel v ch hch hp := hp.channel v ch hch
  redriven v ch hch hp := hp.redriven v ch hch.state hch.target hch.tunedGain hch.settle
  stop v _ hentered hp := hp.stopChannel v hentered
  clearFault {p} v hf hp := by
    obtain ⟨c, hs⟩ := isFault_fault hf
    have hold : (p.channel v).state.isOffOrFault = true := congrArg ChannelState.isOffOrFault hs
    have htarget : (p.channel v).target = 0 := by rw [(hp.at v).target, Channel.calledTarget, hs]
    exact hp.outside v .off _ (.inl hold) (.inl rfl) nofun htarget
  enterPrepare v x hs _ hmap hp :=
    hp.outside v _ _ (.inl (congrArg ChannelState.isOffOrFault hs)) (.inr ⟨x, rfl⟩) (fun _ => hmap) rfl
  prepare {p} v x y hs hp := by
    have htarget : (p.channel v).target = 250 := by rw [(hp.at v).target, Channel.calledTarget, hs]
    exact hp.outside v (.prepare y) _ (.inr ⟨x, hs⟩) (.inr ⟨y, rfl⟩) (fun _ => hp.mappedIn (by rw [hs]; rfl)) htarget
  enterWaiting v h hp := hp.enterWaiting v h
  enterTrack v x hs hgain hp := hp.enterTrack v x hs hgain
  analyzer _ hqueue htrial hp := hp.of_supervised (fun _ => .refl _) (fun _ => rfl) hqueue htrial
  startSearch v q hidle hlook hp := hp.startSearch v q hidle hlook
  stepTrial s hs hp := hp.trial hs _ true rfl rfl
  nextTrial s _ hs hp := hp.trial hs _ false rfl rfl
  searchTuned {p} s g hs hp := by
    obtain ⟨-, hout, -, hmap, hnone⟩ := hp.searched hs
    have honly := enterTrack_onlyAt ((p.setAnalyzer { p.analyzer with state := .idle }).setChannel s.valve
      { p.channel s.valve with tunedGain := some g }) s.valve
    refine LoopCoherent.of_onlyAt (p := p) (v := s.valve) ⟨fun w hw => ?_, honly.active, honly.queued, fun w hw => ?_⟩ ?_
      (enterTrack_coherentAt ?_ hmap hout rfl) hp
    · exact (honly.channel w hw).trans (channel_setChannel_ne _ _ hw)
    · exact (honly.trial w hw).trans (hnone w hw).symm
    · simpa [Part.enterTrack] using hp.queueOnce
    · rw [channel_setChannel_self]; rfl
  searchFailed {p} s hs hp := by
    obtain ⟨hstate, hout, -, -, hnone⟩ := hp.searched hs
    let q := p.setAnalyzer { p.analyzer with state := .idle }
    have hstop := stopChannel_stopped q s.valve (.fault .untunable) rfl
    have hleft : q.analyzerLeft s.valve = q.analyzer := by
      unfold Part.analyzerLeft
      have hq : (q.channel s.valve).state = .tune .searching := hstate
      rw [hq, if_neg (by simp), if_neg (fun h => absurd h.2 (by simp [q, AnalyzerState.searchesFor])), if_neg (by simp)]
    have hanalyzer := hstop.analyzer.trans hleft
    refine LoopCoherent.of_onlyAt (p := p) (v := s.valve)
      ⟨hstop.otherChannels, fun w _ => by simp, fun w _ => by rw [hanalyzer]; rfl, fun w hw => ?_⟩ ?_ ?_ hp
    · rw [hanalyzer, hnone w hw]; rfl
    · rw [hanalyzer]; exact hp.queueOnce
    · unfold Part.coherentAt
      rw [hstop.channel, hanalyzer]
      exact ⟨⟨by simp [q, hout], by simp [q, AnalyzerState.trialOf, AnalyzerState.trial], nofun, nofun, nofun⟩, rfl⟩
  level v _ hp := hp.redriven v _ rfl rfl rfl rfl
  heatIndex v _ hp := hp.setHeat v _ rfl
  warmLevel v _ _ hp := hp.setHeat v _ rfl
  hotLevel v _ _ _ hp := hp.setHeat v _ rfl
  warmCeiling v n _ _ hp := hp.recomputeIn v _ .warm rfl fun k hk => by cases k <;> first | rfl | exact absurd rfl hk
  hotCeiling v n _ hp := hp.recomputeIn v _ .hot rfl fun k hk => by cases k <;> first | rfl | exact absurd rfl hk
  promote v _ hp := hp.promote v
  readyMode _ := .of_units rfl rfl rfl
  attnThreshold _ := .of_units rfl rfl rfl
  restart order _ := loopCoherent_restart _ order
  demand _ _ := .of_units rfl rfl rfl
  urgent _ _ := .of_units rfl rfl rfl
  work _ _ _ _ _ _ := .of_units rfl rfl rfl
  items _ := .of_units rfl rfl rfl
  result v hp := hp.setMap v _ rfl
  published := .of_units rfl rfl rfl
  consume _ := .of_units rfl rfl rfl
  stageMap v w b bad hp := hp.setMap v _ (stage_active _ w b bad).1
  closeMap v cw hp := hp.closeMap v cw
  released region psense safe dflt _ :=
    loopCoherent_stopped rfl (fun v => by rw [released_channel]; rfl) (fun v => by rw [released_channel]; rfl)
      (fun v => by rw [released_channel]; rfl)
  safeAsserted {p} order _ hp := by
    refine Part.Atoms.foldl_keeps (fun p b hp => ?_) _ (.of_units (p := p) rfl rfl rfl hp)
    cases b with
    | inl c => exact hp.enterSafe c
    | inr v =>
      show LoopCoherent (p.safeChannel v)
      unfold Part.safeChannel
      split
      · exact hp
      · exact .of_units (p := p.stopChannel v .off) rfl rfl rfl (hp.stopChannel v rfl)
  safeReleased {p} order _ hp :=
    Part.Atoms.foldl_keeps (fun _ c hp => hp.exitSafe c) _ (.of_units (p := p) rfl rfl rfl hp)

end Sys2Proof.Machine
end

section
/-! Under SAFE every corner is in SAFE and no channel drives its coil, after every step (R68, R69). -/

namespace Sys2Proof.Machine

variable {p q : Part}

/-- Corner states and the SAFE level stand, and no stopped channel has begun to drive. -/
structure SameSafety (p q : Part) : Prop where
  corners : ∀ c, (q.corner c).state = (p.corner c).state
  safe : q.lines.safe = p.lines.safe
  channels : ∀ v, (p.channel v).state.isOffOrFault = true → (q.channel v).state.isOffOrFault = true

theorem SafeHeld.of_same (h : SameSafety p q) (hp : SafeHeld p) : SafeHeld q where
  corners c := by rw [h.corners, h.safe]; exact hp.corners c
  channels hsafe v := h.channels v (hp.channels (h.safe ▸ hsafe) v)

/-- With SAFE released no corner is in SAFE; nothing is asked of the channels. -/
theorem SafeHeld.of_released (safe : q.lines.safe = false) (corners : ∀ c, (q.corner c).state ≠ .safe) : SafeHeld q where
  corners c := iff_of_false (corners c) (by simp [safe])
  channels hsafe := by simp [safe] at hsafe

theorem SafeHeld.released_of_corner (hp : SafeHeld p) {c : CornerId} (h : (p.corner c).state ≠ .safe) :
    p.lines.safe = false :=
  Bool.eq_false_of_not_eq_true fun hsafe => h ((hp.corners c).2 hsafe)

theorem SafeHeld.released_of_channel (hp : SafeHeld p) {v : ValveId} (h : (p.channel v).state.isOffOrFault = false) :
    p.lines.safe = false :=
  Bool.eq_false_of_not_eq_true fun hsafe => by simp [hp.channels hsafe v] at h

theorem SafeHeld.notSafe (hp : SafeHeld p) (h : p.lines.safe = false) (c : CornerId) : (p.corner c).state ≠ .safe :=
  fun hc => by simp [(hp.corners c).1 hc] at h

/-- With SAFE released a channel may take any state. -/
theorem SafeHeld.of_unasserted (hp : SafeHeld p) (h : p.lines.safe = false)
    (corners : ∀ c, (q.corner c).state = (p.corner c).state) (safe : q.lines.safe = p.lines.safe) : SafeHeld q :=
  .of_released (safe.trans h) fun c => by rw [corners]; exact hp.notSafe h c

/-- An event that leaves corners, channels and the lines alone keeps the hold of SAFE. -/
theorem SameSafety.of_units (corners : q.corners = p.corners) (channels : q.channels = p.channels)
    (safe : q.lines.safe = p.lines.safe) : SameSafety p q where
  corners c := by unfold Part.corner; rw [corners]
  safe := safe
  channels v := by unfold Part.channel; rw [channels]; exact id

theorem sameSafety_setCorner (p : Part) (c : CornerId) (k : Corner) (h : k.state = (p.corner c).state) :
    SameSafety p (p.setCorner c k) where
  corners d := by
    rw [corner_setCorner]
    split
    · next hd => rw [hd, h]
    · rfl
  safe := rfl
  channels _ := id

theorem sameSafety_setChannel (p : Part) (v : ValveId) (ch : Channel)
    (h : (p.channel v).state.isOffOrFault = true → ch.state.isOffOrFault = true) : SameSafety p (p.setChannel v ch) where
  corners _ := rfl
  safe := rfl
  channels w := by
    rw [channel_setChannel]
    split
    · next hw => rw [hw]; exact h
    · exact id

theorem sameSafety_trial (p : Part) (v : ValveId) (ch : Channel) (x : Analyzer) (h : ch.state = (p.channel v).state) :
    SameSafety p ((p.setChannel v ch).setAnalyzer x) := by
  have hch := sameSafety_setChannel p v ch (by rw [h]; exact id)
  exact ⟨hch.corners, hch.safe, hch.channels⟩

theorem sameSafety_closeMap (p : Part) (v : ValveId) (cw : ClosingWord) : SameSafety p (p.closeMap v cw) := by
  unfold Part.closeMap
  dsimp only
  split <;> exact .of_units rfl rfl rfl

theorem sameSafety_redriven (p : Part) (v : ValveId) (ch : Channel) (h : ch.state = (p.channel v).state) :
    SameSafety p (p.redriven v ch) where
  corners c := by simp [Part.redriven]
  safe := by simp [Part.redriven]
  channels w := by
    simp only [Part.redriven, recompute_loop, channel_setChannel]
    split
    · next hw => rw [hw, h]; exact id
    · exact id

theorem sameSafety_recomputeIn (p : Part) (v : ValveId) (x : Heat) (l : ThermalLevel) :
    SameSafety p ((p.setHeat v x).recomputeIn v l) := by
  unfold Part.recomputeIn
  split
  · exact sameSafety_redriven p v _ rfl
  · exact sameSafety_setChannel p v _ id

theorem stopChannel_safety (p : Part) (v : ValveId) (entered : ChannelState) :
    (∀ c, ((p.stopChannel v entered).corner c).state = (p.corner c).state) ∧
      (p.stopChannel v entered).lines.safe = p.lines.safe ∧
      ∀ w, ((p.stopChannel v entered).channel w).state = if w = v then entered else (p.channel w).state := by
  refine ⟨fun c => by simp [Part.stopChannel], by simp [Part.stopChannel], fun w => ?_⟩
  simp only [Part.stopChannel, evalReady_units, channel_setChannel, abortFor_others]
  split <;> rfl

theorem sameSafety_stopChannel (p : Part) (v : ValveId) {entered : ChannelState} (h : entered.isOffOrFault = true) :
    SameSafety p (p.stopChannel v entered) := by
  obtain ⟨hcorners, hsafe, hstate⟩ := stopChannel_safety p v entered
  refine ⟨hcorners, hsafe, fun w hw => ?_⟩
  rw [hstate]
  split
  · exact h
  · exact hw

theorem enterTrack_safety (p : Part) (v : ValveId) :
    (∀ c, ((p.enterTrack v).corner c).state = (p.corner c).state) ∧ (p.enterTrack v).lines.safe = p.lines.safe := by
  constructor <;> simp [Part.enterTrack]

/-! ### The SAFE line -/

theorem safeChannel_safety (p : Part) (v : ValveId) :
    (∀ c, ((p.safeChannel v).corner c).state = (p.corner c).state) ∧
      (p.safeChannel v).lines.safe = p.lines.safe ∧
      ∀ w, ((p.safeChannel v).channel w).state.isOffOrFault =
        if w = v then true else (p.channel w).state.isOffOrFault := by
  obtain ⟨hcorners, hsafe, hstate⟩ := stopChannel_safety p v .off
  unfold Part.safeChannel
  split
  · next hoff =>
    refine ⟨fun _ => rfl, rfl, fun w => ?_⟩
    split
    · next hw => rw [hw, hoff]
    · rfl
  · refine ⟨hcorners, hsafe, fun w => ?_⟩
    show ((p.stopChannel v .off).channel w).state.isOffOrFault = _
    rw [hstate]
    split <;> rfl

/-- Under SAFE every block has made its response, or is one of those that are still to make it. -/
structure SafeAwaited (l : List (CornerId ⊕ ValveId)) (p : Part) : Prop where
  safe : p.lines.safe = true
  corners : ∀ c, .inl c ∈ l ∨ (p.corner c).state = .safe
  channels : ∀ v, .inr v ∈ l ∨ (p.channel v).state.isOffOrFault = true

theorem SafeAwaited.block {l : List (CornerId ⊕ ValveId)} {b : CornerId ⊕ ValveId} (h : SafeAwaited (b :: l) p) :
    SafeAwaited l (p.safeBlock b) := by
  cases b with
  | inl c =>
    refine ⟨by simpa [Part.safeBlock] using h.safe, fun d => ?_, fun v => ?_⟩
    · obtain hd | hd := h.corners d
      · simp only [List.mem_cons, Sum.inl.injEq] at hd
        obtain rfl | hd := hd
        · exact .inr (by simp [Part.safeBlock])
        · exact .inl hd
      · refine .inr ?_
        simp only [Part.safeBlock, enterSafe_corner]
        split
        · rfl
        · exact hd
    · simpa [Part.safeBlock] using h.channels v
  | inr v =>
    obtain ⟨hcorners, hsafe, hstate⟩ := safeChannel_safety p v
    refine ⟨hsafe.trans h.safe, fun c => ?_, fun w => ?_⟩
    · rw [Part.safeBlock, hcorners]; simpa using h.corners c
    · rw [Part.safeBlock, hstate]
      by_cases hw : w = v
      · exact .inr (if_pos hw)
      · rw [if_neg hw]; simpa [hw] using h.channels w

theorem SafeAwaited.fold {l : List (CornerId ⊕ ValveId)} :
    ∀ {p : Part}, SafeAwaited l p → SafeAwaited [] (l.foldl Part.safeBlock p) := by
  induction l with
  | nil => exact id
  | cons b l ih => exact fun h => ih h.block

theorem safeHeld_asserted (p : Part) (order : List Nat) :
    SafeHeld ((arrange order safeBlocks).foldl Part.safeBlock (p.setSafe true)) := by
  have hmem (b : CornerId ⊕ ValveId) : b ∈ arrange order safeBlocks := by
    rw [(arrange_perm order safeBlocks).mem_iff]
    cases b with
    | inl c => exact List.mem_append_left _ (List.mem_map_of_mem (by revert c; decide))
    | inr v => exact List.mem_append_right _ (List.mem_map_of_mem (by revert v; decide))
  have h : SafeAwaited (arrange order safeBlocks) (p.setSafe true) :=
    ⟨rfl, fun c => .inl (hmem _), fun v => .inl (hmem _)⟩
  obtain ⟨hsafe, hcorners, hchannels⟩ := h.fold
  exact ⟨fun c => iff_of_true ((hcorners c).resolve_left (by simp)) hsafe, fun _ v => (hchannels v).resolve_left (by simp)⟩

theorem exitSafe_state (p : Part) (c d : CornerId) :
    ((p.exitSafe c).corner d).state =
      if d = c ∧ (p.corner c).state = .safe then .idle else (p.corner d).state := by
  unfold Part.exitSafe
  dsimp only
  split
  · next h =>
    by_cases hd : d = c <;> simp [Part.setCornerState, hd, h]
  · next h => rw [if_neg fun hd => h hd.2]

/-- After the release no corner is in SAFE. -/
theorem exitSafe_fold (l : List CornerId) : ∀ {p : Part}, p.lines.safe = false → (∀ c, c ∈ l ∨ (p.corner c).state ≠ .safe) →
    SafeHeld (l.foldl Part.exitSafe p) := by
  induction l with
  | nil => exact fun hsafe h => .of_released hsafe fun c => (h c).resolve_left (by simp)
  | cons c l ih =>
    intro p hsafe h
    refine ih (by simpa using hsafe) fun d => ?_
    rw [exitSafe_state]
    by_cases hd : d = c
    · refine .inr ?_
      subst hd
      by_cases hs : (p.corner d).state = .safe
      · rw [if_pos ⟨rfl, hs⟩]; simp
      · rw [if_neg fun hc => hs hc.2]; exact hs
    · rw [if_neg fun hc => hd hc.1]
      simpa [hd] using h d

/-- The values of RESTART and RESETN release: every channel stopped, every corner in SAFE or in IDLE. -/
theorem safeHeld_restarted {safe : Bool} (hsafe : q.lines.safe = safe)
    (hcorners : ∀ c, (q.corner c).state = (Corner.restarted safe).state)
    (hchannels : ∀ v, (q.channel v).state.isOffOrFault = true) : SafeHeld q where
  corners c := by
    rw [hcorners, hsafe]
    cases safe <;> simp [Corner.restarted]
  channels _ := hchannels

theorem restarted_off (ch : Channel) : ch.restarted.state.isOffOrFault = true := by
  unfold Channel.restarted
  dsimp only
  split
  · next hf =>
    obtain ⟨c, hc⟩ := isFault_fault hf
    rw [hc]
    rfl
  · rfl

theorem restart_safe (p : Part) (order : List Nat) : (p.restart order).lines.safe = p.lines.safe := by
  have hlines := (restartFlushes_units (arrange order allCorners) p).2.2.1
  exact (congrArg Lines.safe hlines :)

/-! ### Every event -/

/-- The loops agree, and SAFE holds corners and channels. -/
def LoopSafe (p : Part) : Prop := LoopCoherent p ∧ SafeHeld p

theorem LoopSafe.of_same (hp : LoopSafe p) (loops : LoopCoherent q) (h : SameSafety p q) : LoopSafe q :=
  ⟨loops, hp.2.of_same h⟩

/-- An event that leaves corners, channels, maps, analyzer and the SAFE level alone. -/
theorem LoopSafe.of_units (corners : q.corners = p.corners) (channels : q.channels = p.channels) (maps : q.maps = p.maps)
    (analyzer : q.analyzer = p.analyzer) (safe : q.lines.safe = p.lines.safe) (hp : LoopSafe p) : LoopSafe q :=
  hp.of_same (.of_units channels maps analyzer hp.1) (.of_units corners channels safe)

theorem loopSafe_unowed : Part.Unowed LoopSafe where
  bridge _ := .of_units rfl rfl rfl rfl rfl
  port _ := .of_units rfl rfl rfl rfl rfl
  waitCount _ := .of_units rfl rfl rfl rfl rfl
  fresh _ := .of_units rfl rfl rfl rfl rfl
  hand _ _ := .of_units rfl rfl rfl rfl rfl
  engine _ _ _ := .of_units rfl rfl rfl rfl rfl
  pairing _ := .of_units rfl rfl rfl rfl rfl
  dflt _ := .of_units rfl rfl rfl rfl rfl
  setup _ _ _ := .of_units rfl rfl rfl rfl rfl
  period _ := .of_units rfl rfl rfl rfl rfl
  start := .of_units rfl rfl rfl rfl rfl
  frame _ := .of_units rfl rfl rfl rfl rfl
  corner c k hk hp := hp.of_same (loopCoherent_unowed.corner c k hk hp.1) (sameSafety_setCorner _ c k hk.state)
  watermarks c l h hlt hle hp :=
    hp.of_same (loopCoherent_unowed.watermarks c l h hlt hle hp.1) (sameSafety_setCorner _ c _ rfl)
  dryRun c b hs hp := hp.of_same (loopCoherent_unowed.dryRun c b hs hp.1) (sameSafety_setCorner _ c _ rfl)
  enterLimp c d f hs hp := by
    have hsafe := hp.2.released_of_corner (c := c) (by simp [hs])
    refine ⟨hp.1.enterLimp c d f, .of_released (by simpa using hsafe) fun e => ?_⟩
    simp only [enterLimp_corner]
    split
    · simp
    · exact hp.2.notSafe hsafe e
  enterIdle c hs hp := by
    have hsafe := hp.2.released_of_corner (c := c) (by obtain hs | hs := hs <;> simp [hs])
    refine ⟨hp.1.enterIdle c, .of_released (by simpa using hsafe) fun e => ?_⟩
    simp only [enterIdle_corner]
    split
    · simp
    · exact hp.2.notSafe hsafe e
  enterRun c _ hsafe _ hp := by
    refine ⟨hp.1.enterRun c, .of_released (by simpa using hsafe) fun e => ?_⟩
    simp only [enterRun_corner]
    split
    · simp
    · exact hp.2.notSafe hsafe e
  channel v ch hch hp :=
    hp.of_same (hp.1.channel v ch hch) (sameSafety_setChannel _ v ch (by rw [hch.state]; exact id))
  redriven v ch hch hp := hp.of_same (loopCoherent_unowed.redriven v ch hch hp.1) (sameSafety_redriven _ v ch hch.state)
  stop v _ hentered hp := hp.of_same (hp.1.stopChannel v hentered) (sameSafety_stopChannel _ v hentered)
  clearFault v hf hp :=
    hp.of_same (loopCoherent_unowed.clearFault v hf hp.1) (sameSafety_setChannel _ v _ fun _ => rfl)
  enterPrepare v x hs hsafe hmap hp :=
    ⟨loopCoherent_unowed.enterPrepare v x hs hsafe hmap hp.1, hp.2.of_unasserted hsafe (fun _ => rfl) rfl⟩
  prepare v x y hs hp :=
    ⟨loopCoherent_unowed.prepare v x y hs hp.1,
      hp.2.of_unasserted (hp.2.released_of_channel (congrArg ChannelState.isOffOrFault hs)) (fun _ => rfl) rfl⟩
  enterWaiting {p} v h hp := by
    obtain ⟨hcorners, hsafe, -⟩ := stopChannel_safety p v (.tune .waiting)
    have hdrives : (p.channel v).state.isOffOrFault = false := by
      obtain ⟨x, hx⟩ | ht := h
      · exact congrArg ChannelState.isOffOrFault hx
      · exact congrArg ChannelState.isOffOrFault ht
    exact ⟨hp.1.enterWaiting v h, hp.2.of_unasserted (hp.2.released_of_channel hdrives) hcorners hsafe⟩
  enterTrack v x hs hgain hp := by
    obtain ⟨hcorners, hsafe⟩ := enterTrack_safety _ v
    exact ⟨hp.1.enterTrack v x hs hgain,
      hp.2.of_unasserted (hp.2.released_of_channel (congrArg ChannelState.isOffOrFault hs)) hcorners hsafe⟩
  analyzer x hqueue htrial hp :=
    hp.of_same (loopCoherent_unowed.analyzer x hqueue htrial hp.1) (.of_units rfl rfl rfl)
  startSearch v q hidle hlook hp := by
    have hwaiting := (hp.1.at v).queued.1 ((lookAt_perm hlook).mem_iff.1 List.mem_cons_self)
    exact ⟨hp.1.startSearch v q hidle hlook,
      hp.2.of_unasserted (hp.2.released_of_channel (congrArg ChannelState.isOffOrFault hwaiting)) (fun _ => rfl) rfl⟩
  stepTrial s hs hp := hp.of_same (loopCoherent_unowed.stepTrial s hs hp.1) (sameSafety_trial _ s.valve _ _ rfl)
  nextTrial s best hs hp :=
    hp.of_same (loopCoherent_unowed.nextTrial s best hs hp.1) (sameSafety_trial _ s.valve _ _ rfl)
  searchTuned s g hs hp := by
    obtain ⟨hcorners, hsafe⟩ := enterTrack_safety _ s.valve
    exact ⟨loopCoherent_unowed.searchTuned s g hs hp.1,
      hp.2.of_unasserted (hp.2.released_of_channel (congrArg ChannelState.isOffOrFault (hp.1.searched hs).1)) hcorners
        hsafe⟩
  searchFailed {p} s hs hp := by
    have h := sameSafety_stopChannel (p.setAnalyzer { p.analyzer with state := .idle }) s.valve
      (entered := .fault .untunable) rfl
    exact hp.of_same (loopCoherent_unowed.searchFailed s hs hp.1) ⟨h.corners, h.safe, h.channels⟩
  level v l hp := hp.of_same (loopCoherent_unowed.level v l hp.1) (sameSafety_redriven _ v _ rfl)
  heatIndex v n hp := hp.of_same (loopCoherent_unowed.heatIndex v n hp.1) (sameSafety_setChannel _ v _ id)
  warmLevel v n h hp := hp.of_same (loopCoherent_unowed.warmLevel v n h hp.1) (sameSafety_setChannel _ v _ id)
  hotLevel v n h h' hp := hp.of_same (loopCoherent_unowed.hotLevel v n h h' hp.1) (sameSafety_setChannel _ v _ id)
  warmCeiling v n h h' hp :=
    hp.of_same (loopCoherent_unowed.warmCeiling v n h h' hp.1) (sameSafety_recomputeIn _ v _ .warm)
  hotCeiling v n h hp := hp.of_same (loopCoherent_unowed.hotCeiling v n h hp.1) (sameSafety_recomputeIn _ v _ .hot)
  promote v _ hp :=
    hp.of_same (hp.1.promote v) ⟨by simp [Part.promote], by simp [Part.promote], by simp [Part.promote]⟩
  readyMode _ := .of_units rfl rfl rfl rfl rfl
  attnThreshold _ := .of_units rfl rfl rfl rfl rfl
  restart {p} order _ :=
    ⟨loopCoherent_restart p order, safeHeld_restarted (restart_safe p order)
      (fun c => congrArg Corner.state (restart_corner p order c))
      (fun v => by rw [restart_channel]; exact restarted_off _)⟩
  demand _ _ := .of_units rfl rfl rfl rfl rfl
  urgent _ _ := .of_units rfl rfl rfl rfl rfl
  work c l h n s f hp := hp.of_same (loopCoherent_unowed.work c l h n s f hp.1) (sameSafety_setCorner _ c _ rfl)
  items _ := .of_units rfl rfl rfl rfl rfl
  result v hp := hp.of_same (loopCoherent_unowed.result v hp.1) (.of_units rfl rfl rfl)
  published := .of_units rfl rfl rfl rfl rfl
  consume _ := .of_units rfl rfl rfl rfl rfl
  stageMap v w b bad hp := hp.of_same (loopCoherent_unowed.stageMap v w b bad hp.1) (.of_units rfl rfl rfl)
  closeMap v cw hp := hp.of_same (hp.1.closeMap v cw) (sameSafety_closeMap _ v cw)
  released region psense safe dflt hp :=
    ⟨loopCoherent_unowed.released region psense safe dflt hp.1, safeHeld_restarted (safe := safe) rfl
      (fun c => congrArg Corner.state (released_corner region psense safe dflt _ c))
      (fun v => by rw [released_channel]; rfl)⟩
  safeAsserted order h hp := ⟨loopCoherent_unowed.safeAsserted order h hp.1, safeHeld_asserted _ order⟩
  safeReleased order h hp :=
    ⟨loopCoherent_unowed.safeReleased order h hp.1, exitSafe_fold _ rfl fun c =>
      .inl (by rw [(arrange_perm order allCorners).mem_iff]; revert c; decide)⟩

/-- Settles O57: the agreement of the loops, with the hold of SAFE, is kept by every event that a step is made of. -/
theorem everyStepKeepsTheLoop : Obligations.EveryStepKeepsTheLoop :=
  fun _ _ hloop hsafe hstep => loopSafe_unowed.kept.step ⟨hloop, hsafe⟩ hstep

end Sys2Proof.Machine
end

section
/-! ATTN and READY are driven as R160 and R162 say, after every step (R71). -/

namespace Sys2Proof.Machine

variable {p q : Part}

/-! ### What the outputs are made of -/

/-- ATTN and what it is evaluated from stand (R160). -/
structure Journal.SameAttn (a b : Journal) : Prop where
  write : b.write = a.write
  read : b.read = a.read
  alarm : b.alarm = a.alarm
  threshold : b.threshold = a.threshold
  attn : b.attn = a.attn

theorem Journal.SameAttn.refl (j : Journal) : j.SameAttn j := ⟨rfl, rfl, rfl, rfl, rfl⟩

theorem Journal.SameAttn.of_eq {a b : Journal} (h : b = a) : a.SameAttn b := by rw [h]; exact .refl a

/-- An event handed for journaling is not yet an entry: ATTN stands. -/
theorem Journal.sameAttn_hand (j : Journal) (e : Event) (f : Frame) : j.SameAttn (j.hand e f) := by
  unfold Journal.hand
  split <;> exact ⟨rfl, rfl, rfl, rfl, rfl⟩

theorem sameAttn_hand (p : Part) (e : Event) (f : Frame) : p.journal.SameAttn (p.hand e f).journal :=
  p.journal.sameAttn_hand e f

theorem Journal.SameAttn.trans {a b c : Journal} (h : a.SameAttn b) (h' : b.SameAttn c) : a.SameAttn c :=
  ⟨h'.write.trans h.write, h'.read.trans h.read, h'.alarm.trans h.alarm, h'.threshold.trans h.threshold,
    h'.attn.trans h.attn⟩

theorem Journal.SameAttn.condition {a b : Journal} (h : a.SameAttn b) : b.attnCondition = a.attnCondition := by
  unfold Journal.attnCondition Journal.unconsumed
  rw [h.write, h.read, h.alarm, h.threshold]

theorem corner_of_valves (c : CornerId) : cornerOf (compressionValve c) = c ∧ cornerOf (reboundValve c) = c := by
  revert c
  decide

/-- What readiness is evaluated from at one corner (R71). -/
theorem readyCondition_congr {c : CornerId} (state : (q.corner c).state = (p.corner c).state)
    (dryRun : (q.corner c).dryRun = (p.corner c).dryRun)
    (track : ∀ v, cornerOf v = c → (q.channel v).state.isTrack = (p.channel v).state.isTrack) :
    q.readyCondition c = p.readyCondition c := by
  unfold Part.readyCondition
  rw [state, dryRun, track _ (corner_of_valves c).1, track _ (corner_of_valves c).2]

/-- A corner that is not in RUN is not ready, whatever its channels do. -/
theorem readyCondition_still {c : CornerId} (h : (p.corner c).state ≠ .run)
    (state : (q.corner c).state = (p.corner c).state) : q.readyCondition c = p.readyCondition c := by
  rw [notReady_of_state h, notReady_of_state (state ▸ h)]

/-! ### Events that leave the outputs -/

/-- The outputs stand, and so does every corner's readiness. -/
structure SameOutputs (p q : Part) : Prop where
  journal : p.journal.SameAttn q.journal
  lines : q.lines.reported = p.lines.reported ∧ q.lines.mode = p.lines.mode ∧ q.lines.ready = p.lines.ready
  setup : q.setup.readyMode = p.setup.readyMode ∧ q.setup.attnThreshold = p.setup.attnThreshold
  ready : ∀ c, (q.corner c).ready = (p.corner c).ready
  condition : ∀ c, q.readyCondition c = p.readyCondition c

theorem OutputsDriven.of_same (h : SameOutputs p q) (hp : OutputsDriven p) : OutputsDriven q where
  attn := by rw [h.journal.attn, h.journal.condition]; exact hp.attn
  ready c := by rw [h.ready, h.condition]; exact hp.ready c
  reported c := by rw [h.lines.1, h.ready]; exact hp.reported c
  output := by rw [h.lines.1, h.lines.2.1, h.lines.2.2]; exact hp.output
  mode := by rw [h.setup.1, h.lines.2.1]; exact hp.mode
  threshold := by rw [h.setup.2, h.journal.threshold]; exact hp.threshold

/-- An event that leaves corners, channels, journal, lines and setup alone keeps the outputs. -/
theorem SameOutputs.of_units (corners : q.corners = p.corners) (channels : q.channels = p.channels)
    (journal : p.journal.SameAttn q.journal) (lines : q.lines = p.lines) (setup : q.setup = p.setup) :
    SameOutputs p q where
  journal := journal
  lines := by rw [lines]; exact ⟨rfl, rfl, rfl⟩
  setup := by rw [setup]; exact ⟨rfl, rfl⟩
  ready c := by unfold Part.corner; rw [corners]
  condition c := by
    unfold Part.readyCondition Part.corner Part.channel
    rw [corners, channels]

theorem SameOutputs.refl (p : Part) : SameOutputs p p := .of_units rfl rfl (.refl _) rfl rfl

theorem SameOutputs.trans {r : Part} (h : SameOutputs p q) (h' : SameOutputs q r) : SameOutputs p r where
  journal := h.journal.trans h'.journal
  lines := ⟨h'.lines.1.trans h.lines.1, h'.lines.2.1.trans h.lines.2.1, h'.lines.2.2.trans h.lines.2.2⟩
  setup := ⟨h'.setup.1.trans h.setup.1, h'.setup.2.trans h.setup.2⟩
  ready c := (h'.ready c).trans (h.ready c)
  condition c := (h'.condition c).trans (h.condition c)

theorem sameOutputs_hand (p : Part) (e : Event) (f : Frame) : SameOutputs p (p.hand e f) :=
  .of_units rfl rfl (sameAttn_hand p e f) rfl rfl

theorem sameOutputs_setCorner (p : Part) (c : CornerId) (k : Corner) (ready : k.ready = (p.corner c).ready)
    (state : k.state = (p.corner c).state) (dryRun : k.dryRun = (p.corner c).dryRun) :
    SameOutputs p (p.setCorner c k) := by
  have hcorner (d : CornerId) : ((p.setCorner c k).corner d).ready = (p.corner d).ready ∧
      ((p.setCorner c k).corner d).state = (p.corner d).state ∧
      ((p.setCorner c k).corner d).dryRun = (p.corner d).dryRun := by
    rw [corner_setCorner]
    split
    · next hd => rw [hd]; exact ⟨ready, state, dryRun⟩
    · exact ⟨rfl, rfl, rfl⟩
  exact ⟨.refl _, ⟨rfl, rfl, rfl⟩, ⟨rfl, rfl⟩, fun d => (hcorner d).1,
    fun d => readyCondition_congr (hcorner d).2.1 (hcorner d).2.2 fun _ _ => rfl⟩

theorem sameOutputs_setChannel (p : Part) (v : ValveId) (ch : Channel)
    (h : ch.state.isTrack = (p.channel v).state.isTrack) : SameOutputs p (p.setChannel v ch) := by
  refine ⟨.refl _, ⟨rfl, rfl, rfl⟩, ⟨rfl, rfl⟩, fun _ => rfl, fun c => readyCondition_congr rfl rfl fun w _ => ?_⟩
  rw [channel_setChannel]
  split
  · next hw => rw [hw, h]
  · rfl

theorem sameOutputs_trial (p : Part) (v : ValveId) (ch : Channel) (x : Analyzer)
    (h : ch.state.isTrack = (p.channel v).state.isTrack) : SameOutputs p ((p.setChannel v ch).setAnalyzer x) :=
  (sameOutputs_setChannel p v ch h).trans (.of_units rfl rfl (.refl _) rfl rfl)

theorem sameOutputs_recompute (p : Part) (v : ValveId) : SameOutputs p (p.recompute v) := by
  refine ⟨.of_eq (by simp), by simp, by simp, by simp, fun c => readyCondition_congr (by simp) (by simp) fun w _ => ?_⟩
  simp

theorem sameOutputs_redriven (p : Part) (v : ValveId) (ch : Channel) (h : ch.state = (p.channel v).state) :
    SameOutputs p (p.redriven v ch) :=
  (sameOutputs_setChannel p v ch (congrArg _ h)).trans (sameOutputs_recompute _ v)

theorem sameOutputs_recomputeIn (p : Part) (v : ValveId) (x : Heat) (l : ThermalLevel) :
    SameOutputs p ((p.setHeat v x).recomputeIn v l) := by
  unfold Part.recomputeIn
  split
  · exact sameOutputs_redriven p v _ rfl
  · exact sameOutputs_setChannel p v _ rfl

theorem sameOutputs_closeMap (p : Part) (v : ValveId) (cw : ClosingWord) : SameOutputs p (p.closeMap v cw) := by
  unfold Part.closeMap
  dsimp only
  split <;> exact .of_units rfl rfl (Journal.sameAttn_hand _ _ _) rfl rfl

/-! ### Readiness evaluated -/

/-- The outputs stand but for the readiness of corner c, which has still to be evaluated. -/
structure SameOutputsBut (c : CornerId) (p q : Part) : Prop where
  journal : p.journal.SameAttn q.journal
  lines : q.lines.reported = p.lines.reported ∧ q.lines.mode = p.lines.mode
  setup : q.setup.readyMode = p.setup.readyMode ∧ q.setup.attnThreshold = p.setup.attnThreshold
  ready : ∀ d, d ≠ c → (q.corner d).ready = (p.corner d).ready
  condition : ∀ d, d ≠ c → q.readyCondition d = p.readyCondition d

/-- An evaluation reads states, dry run and channels, none of which it changes. -/
theorem evalReady_condition (p : Part) (c d : CornerId) : (p.evalReady c).readyCondition d = p.readyCondition d :=
  readyCondition_congr (by simp) (by simp) (by simp)

theorem OutputsDriven.evalReady {c : CornerId} (h : SameOutputsBut c p q) (hp : OutputsDriven p) :
    OutputsDriven (q.evalReady c) := by
  have hready (d : CornerId) :
      ((q.evalReady c).corner d).ready = if d = c then q.readyCondition c else (q.corner d).ready := by
    unfold Part.evalReady
    rw [corner_setLines, corner_setCorner]
    split <;> rfl
  have hreported : (q.evalReady c).lines.reported = p.lines.reported.set c (q.readyCondition c) := by
    rw [← h.lines.1]
    rfl
  have hmode : (q.evalReady c).lines.mode = p.lines.mode := h.lines.2
  refine ⟨?_, fun d => ?_, fun d => ?_, rfl, ?_, ?_⟩
  · show q.journal.attn = q.journal.attnCondition
    rw [h.journal.attn, h.journal.condition]
    exact hp.attn
  · rw [hready, evalReady_condition]
    split
    · next hd => rw [hd]
    · next hd => rw [h.ready d hd, h.condition d hd]; exact hp.ready d
  · rw [hready, hreported]
    split
    · next hd => rw [hd]; exact Vector.getElem_set_self _
    · next hd =>
      rw [h.ready d hd, ← hp.reported d]
      exact Vector.getElem_set_ne _ _ fun hcd => hd (Fin.ext hcd.symm)
  · rw [hmode]
    exact h.setup.1.trans hp.mode
  · show q.setup.attnThreshold = q.journal.threshold
    rw [h.setup.2, h.journal.threshold]
    exact hp.threshold

theorem SameOutputs.toBut (h : SameOutputs p q) (c : CornerId) : SameOutputsBut c p q :=
  ⟨h.journal, ⟨h.lines.1, h.lines.2.1⟩, h.setup, fun d _ => h.ready d, fun d _ => h.condition d⟩

theorem SameOutputsBut.trans {r : Part} {c : CornerId} (h : SameOutputsBut c p q) (h' : SameOutputsBut c q r) :
    SameOutputsBut c p r :=
  ⟨h.journal.trans h'.journal, ⟨h'.lines.1.trans h.lines.1, h'.lines.2.trans h.lines.2⟩,
    ⟨h'.setup.1.trans h.setup.1, h'.setup.2.trans h.setup.2⟩, fun d hd => (h'.ready d hd).trans (h.ready d hd),
    fun d hd => (h'.condition d hd).trans (h.condition d hd)⟩

theorem SameOutputsBut.hand (p : Part) (c : CornerId) (e : Event) (f : Frame) : SameOutputsBut c p (p.hand e f) :=
  (sameOutputs_hand p e f).toBut c

/-- A corner's own state has no part in the readiness of the others. -/
theorem SameOutputsBut.setCorner (p : Part) (c : CornerId) (k : Corner) : SameOutputsBut c p (p.setCorner c k) :=
  ⟨.refl _, ⟨rfl, rfl⟩, ⟨rfl, rfl⟩, fun d hd => by rw [corner_setCorner, if_neg hd],
    fun d hd => readyCondition_congr (by rw [corner_setCorner, if_neg hd]) (by rw [corner_setCorner, if_neg hd])
      fun _ _ => rfl⟩

theorem SameOutputsBut.setChannel (p : Part) (v : ValveId) (ch : Channel) :
    SameOutputsBut (cornerOf v) p (p.setChannel v ch) :=
  ⟨.refl _, ⟨rfl, rfl⟩, ⟨rfl, rfl⟩, fun _ _ => rfl, fun d hd => readyCondition_congr rfl rfl fun w hw => by
    rw [channel_setChannel, if_neg]
    rintro rfl
    exact hd hw.symm⟩

theorem SameOutputsBut.leaveRun (p : Part) (c : CornerId) (cause : FlushCause) :
    SameOutputsBut c p (p.leaveRun c cause) := by
  refine ⟨.of_eq (by simp), by simp, by simp, fun d hd => ?_, fun d _ => readyCondition_congr (by simp) (by simp) (by simp)⟩
  rw [leaveRun_corners, if_neg hd]

theorem SameOutputsBut.sendLimpRamp (p : Part) (c : CornerId) (f : Frame) : SameOutputsBut c p (p.sendLimpRamp c f) :=
  ⟨.of_eq (by simp), by simp, by simp, by simp, fun d _ => readyCondition_congr (by simp) (by simp) (by simp)⟩

/-- A partner notice on its way has no part in readiness. -/
theorem SameOutputsBut.sendPartnerNotice (p : Part) (c : CornerId) (f : Frame) (d : LimpDetail) :
    SameOutputsBut c p (p.sendPartnerNotice c f d) := by
  unfold Part.sendPartnerNotice
  split
  · have hnotice (l : List PartnerNotice) :
        SameOutputs p (p.setCorner (partnerOf c) { p.corner (partnerOf c) with notices := l }) :=
      sameOutputs_setCorner p _ _ rfl rfl rfl
    exact (hnotice _).toBut c
  · exact (SameOutputs.refl p).toBut c

theorem OutputsDriven.enterLimp (hp : OutputsDriven p) (c : CornerId) (d : LimpDetail) (f : Frame) :
    OutputsDriven (p.enterLimp c d f) :=
  hp.evalReady (((((SameOutputsBut.leaveRun p c .limp).trans (.setCorner _ c _)).trans (.sendLimpRamp _ c f)).trans
    (.hand _ c _ _)).trans (.sendPartnerNotice _ c f d))

theorem OutputsDriven.enterIdle (hp : OutputsDriven p) (c : CornerId) : OutputsDriven (p.enterIdle c) :=
  hp.evalReady ((((SameOutputsBut.leaveRun p c .idle).trans (.setCorner _ c _)).trans (.sendLimpRamp _ c _)).trans
    (.hand _ c _ _))

theorem OutputsDriven.enterRun (hp : OutputsDriven p) (c : CornerId) : OutputsDriven (p.enterRun c) :=
  hp.evalReady ((SameOutputsBut.setCorner p c _).trans (.hand _ c _ _))

theorem OutputsDriven.enterSafe (hp : OutputsDriven p) (c : CornerId) : OutputsDriven (p.enterSafe c) :=
  hp.evalReady (((SameOutputsBut.leaveRun p c .safe).trans (.setCorner _ c _)).trans (.hand _ c _ _))

theorem OutputsDriven.exitSafe (hp : OutputsDriven p) (c : CornerId) : OutputsDriven (p.exitSafe c) := by
  unfold Part.exitSafe
  split
  · exact hp.evalReady (((SameOutputsBut.setCorner p c _).trans (.sendLimpRamp _ c _)).trans (.hand _ c _ _))
  · exact hp

theorem OutputsDriven.enterTrack (h : SameOutputs p q) (hp : OutputsDriven p) (v : ValveId) :
    OutputsDriven (q.enterTrack v) :=
  hp.evalReady ((h.toBut _).trans (.setChannel q v _))

theorem OutputsDriven.stopChannel (hp : OutputsDriven p) (v : ValveId) (entered : ChannelState) :
    OutputsDriven (p.stopChannel v entered) := by
  have habort : SameOutputs p (p.abortFor v) := by
    rw [abortFor_keeps]
    exact .of_units rfl rfl (.refl _) rfl rfl
  exact hp.evalReady ((habort.toBut _).trans (.setChannel _ v _))

theorem OutputsDriven.safeChannel (hp : OutputsDriven p) (v : ValveId) : OutputsDriven (p.safeChannel v) := by
  unfold Part.safeChannel
  split
  · exact hp
  · exact (hp.stopChannel v .off).of_same (sameOutputs_hand _ _ _)

/-! ### ATTN evaluated -/

/-- A journal whose ATTN has just been evaluated. -/
theorem OutputsDriven.setJournal (hp : OutputsDriven p) (j : Journal) (attn : j.attn = j.attnCondition)
    (threshold : j.threshold = p.journal.threshold) : OutputsDriven (p.setJournal j) :=
  ⟨attn, hp.ready, hp.reported, hp.output, hp.mode, hp.threshold.trans threshold.symm⟩

theorem OutputsDriven.published (hp : OutputsDriven p) : OutputsDriven (p.setJournal p.journal.published) := by
  cases hs : p.journal.staging with
  | nil =>
    have hstands : p.journal.published = p.journal := by rw [Journal.published, hs]
    rw [hstands]
    exact hp
  | cons e rest =>
    refine hp.setJournal _ ?_ ?_
    · rw [Journal.published, hs]; rfl
    · rw [Journal.published, hs]; rfl

/-! ### RESTART and RESETN -/

/-- Nothing is ready, and nothing is reported ready. -/
theorem outputsDriven_unready (attn : p.journal.attn = p.journal.attnCondition)
    (corners : ∀ c, (p.corner c).ready = false ∧ (p.corner c).state ≠ .run)
    (lines : p.lines.reported = Vector.replicate 4 false ∧ p.lines.mode = .all ∧ p.lines.ready = false)
    (setup : p.setup.readyMode = .all ∧ p.setup.attnThreshold = p.journal.threshold) : OutputsDriven p where
  attn := attn
  ready c := by rw [(corners c).1, notReady_of_state (corners c).2]
  reported c := by rw [lines.1, (corners c).1]; simp
  output := by rw [lines.1, lines.2.1, lines.2.2]; decide
  mode := by rw [setup.1, lines.2.1]
  threshold := setup.2

theorem restarted_corner (safe : Bool) : (Corner.restarted safe).ready = false ∧ (Corner.restarted safe).state ≠ .run := by
  cases safe <;> simp [Corner.restarted, Corner.reset]

theorem restarted_attn : Journal.restarted.attn = Journal.restarted.attnCondition := by decide

theorem reset_attn : Journal.reset.attn = Journal.reset.attnCondition := by decide

/-! ### Every event -/

/-- The loops agree, and the outputs are driven. -/
def LoopOutputs (p : Part) : Prop := LoopCoherent p ∧ OutputsDriven p

theorem LoopOutputs.of_same (hp : LoopOutputs p) (loops : LoopCoherent q) (h : SameOutputs p q) : LoopOutputs q :=
  ⟨loops, hp.2.of_same h⟩

/-- An event that leaves corners, channels, maps, analyzer, lines, setup and ATTN alone. -/
theorem LoopOutputs.of_units (corners : q.corners = p.corners) (channels : q.channels = p.channels)
    (maps : q.maps = p.maps) (analyzer : q.analyzer = p.analyzer) (journal : p.journal.SameAttn q.journal)
    (lines : q.lines = p.lines) (setup : q.setup = p.setup) (hp : LoopOutputs p) : LoopOutputs q :=
  hp.of_same (.of_units channels maps analyzer hp.1) (.of_units corners channels journal lines setup)

theorem loopOutputs_unowed : Part.Unowed LoopOutputs where
  bridge _ := .of_units rfl rfl rfl rfl (.refl _) rfl rfl
  port _ := .of_units rfl rfl rfl rfl (.refl _) rfl rfl
  waitCount _ := .of_units rfl rfl rfl rfl (.refl _) rfl rfl
  fresh _ := .of_units rfl rfl rfl rfl (.refl _) rfl rfl
  hand e f := .of_units rfl rfl rfl rfl (sameAttn_hand _ e f) rfl rfl
  engine _ _ _ := .of_units rfl rfl rfl rfl (.refl _) rfl rfl
  pairing _ := .of_units rfl rfl rfl rfl (.refl _) rfl rfl
  dflt x hp := ⟨loopCoherent_unowed.dflt x hp.1, hp.2.attn, hp.2.ready, hp.2.reported, hp.2.output, hp.2.mode,
    hp.2.threshold⟩
  setup x hmode hthreshold hp := ⟨loopCoherent_unowed.setup x hmode hthreshold hp.1, hp.2.attn, hp.2.ready,
    hp.2.reported, hp.2.output, hmode.trans hp.2.mode, hthreshold.trans hp.2.threshold⟩
  period _ := .of_units rfl rfl rfl rfl (.refl _) rfl rfl
  start := .of_units rfl rfl rfl rfl (.refl _) rfl rfl
  frame _ := .of_units rfl rfl rfl rfl (.refl _) rfl rfl
  corner c k hk hp := hp.of_same (loopCoherent_unowed.corner c k hk hp.1)
    (sameOutputs_setCorner _ c k hk.ready hk.state hk.dryRun)
  watermarks c l h hlt hle hp :=
    hp.of_same (loopCoherent_unowed.watermarks c l h hlt hle hp.1) (sameOutputs_setCorner _ c _ rfl rfl rfl)
  dryRun {p} c b hs hp := by
    refine hp.of_same (loopCoherent_unowed.dryRun c b hs hp.1)
      ⟨.refl _, ⟨rfl, rfl, rfl⟩, ⟨rfl, rfl⟩, fun d => ?_, fun d => ?_⟩
    · rw [corner_setCorner]
      split
      · next hd => rw [hd]
      · rfl
    · by_cases hd : d = c
      · subst hd
        exact readyCondition_still (by simp [hs]) (by rw [corner_setCorner_self])
      · exact (SameOutputsBut.setCorner p c _).condition d hd
  enterLimp c d f _ hp := ⟨hp.1.enterLimp c d f, hp.2.enterLimp c d f⟩
  enterIdle c _ hp := ⟨hp.1.enterIdle c, hp.2.enterIdle c⟩
  enterRun c _ _ _ hp := ⟨hp.1.enterRun c, hp.2.enterRun c⟩
  channel v ch hch hp :=
    hp.of_same (hp.1.channel v ch hch) (sameOutputs_setChannel _ v ch (congrArg _ hch.state))
  redriven v ch hch hp := hp.of_same (loopCoherent_unowed.redriven v ch hch hp.1) (sameOutputs_redriven _ v ch hch.state)
  stop v _ hentered hp := ⟨hp.1.stopChannel v hentered, hp.2.stopChannel v _⟩
  clearFault v hf hp := by
    obtain ⟨c, hs⟩ := isFault_fault hf
    exact hp.of_same (loopCoherent_unowed.clearFault v hf hp.1)
      (sameOutputs_setChannel _ v _ (congrArg ChannelState.isTrack hs).symm)
  enterPrepare v x hs hsafe hmap hp :=
    hp.of_same (loopCoherent_unowed.enterPrepare v x hs hsafe hmap hp.1)
      (sameOutputs_setChannel _ v _ (congrArg ChannelState.isTrack hs).symm)
  prepare v x y hs hp :=
    hp.of_same (loopCoherent_unowed.prepare v x y hs hp.1)
      (sameOutputs_setChannel _ v _ (congrArg ChannelState.isTrack hs).symm)
  enterWaiting {p} v h hp := by
    have hstopped := hp.2.stopChannel v (.tune .waiting)
    exact ⟨hp.1.enterWaiting v h,
      .of_same (p := p.stopChannel v (.tune .waiting)) (.of_units rfl rfl (.refl _) rfl rfl) hstopped⟩
  enterTrack v x hs hgain hp := ⟨hp.1.enterTrack v x hs hgain, hp.2.enterTrack (.refl _) v⟩
  analyzer x hqueue htrial hp :=
    hp.of_same (loopCoherent_unowed.analyzer x hqueue htrial hp.1) (.of_units rfl rfl (.refl _) rfl rfl)
  startSearch v q hidle hlook hp := by
    have hwaiting := (hp.1.at v).queued.1 ((lookAt_perm hlook).mem_iff.1 List.mem_cons_self)
    exact hp.of_same (hp.1.startSearch v q hidle hlook)
      (sameOutputs_trial _ v _ _ (congrArg ChannelState.isTrack hwaiting).symm)
  stepTrial s hs hp := hp.of_same (loopCoherent_unowed.stepTrial s hs hp.1) (sameOutputs_trial _ s.valve _ _ rfl)
  nextTrial s best hs hp :=
    hp.of_same (loopCoherent_unowed.nextTrial s best hs hp.1) (sameOutputs_trial _ s.valve _ _ rfl)
  searchTuned {p} s g hs hp := by
    have hidle : SameOutputs p (p.setAnalyzer { p.analyzer with state := .idle }) := .of_units rfl rfl (.refl _) rfl rfl
    have htuned := hidle.trans (sameOutputs_setChannel _ s.valve { p.channel s.valve with tunedGain := some g } rfl)
    exact ⟨loopCoherent_unowed.searchTuned s g hs hp.1, hp.2.enterTrack htuned s.valve⟩
  searchFailed {p} s hs hp := by
    have hidle : OutputsDriven (p.setAnalyzer { p.analyzer with state := .idle }) :=
      .of_same (p := p) (.of_units rfl rfl (.refl _) rfl rfl) hp.2
    exact ⟨loopCoherent_unowed.searchFailed s hs hp.1, hidle.stopChannel s.valve _⟩
  level v l hp := hp.of_same (loopCoherent_unowed.level v l hp.1) (sameOutputs_redriven _ v _ rfl)
  heatIndex v n hp := hp.of_same (loopCoherent_unowed.heatIndex v n hp.1) (sameOutputs_setChannel _ v _ rfl)
  warmLevel v n h hp := hp.of_same (loopCoherent_unowed.warmLevel v n h hp.1) (sameOutputs_setChannel _ v _ rfl)
  hotLevel v n h h' hp := hp.of_same (loopCoherent_unowed.hotLevel v n h h' hp.1) (sameOutputs_setChannel _ v _ rfl)
  warmCeiling v n h h' hp :=
    hp.of_same (loopCoherent_unowed.warmCeiling v n h h' hp.1) (sameOutputs_recomputeIn _ v _ .warm)
  hotCeiling v n h hp := hp.of_same (loopCoherent_unowed.hotCeiling v n h hp.1) (sameOutputs_recomputeIn _ v _ .hot)
  promote {p} v _ hp := by
    have hpromoted (m : MapEntry) : SameOutputs p (p.setMap v m) := .of_units rfl rfl (.refl _) rfl rfl
    exact hp.of_same (hp.1.promote v) ((hpromoted _).trans (sameOutputs_recompute _ v))
  readyMode n hp :=
    ⟨loopCoherent_unowed.readyMode n hp.1, hp.2.attn, hp.2.ready, hp.2.reported, rfl, rfl, hp.2.threshold⟩
  attnThreshold n hp :=
    ⟨loopCoherent_unowed.attnThreshold n hp.1, rfl, hp.2.ready, hp.2.reported, hp.2.output, hp.2.mode, rfl⟩
  restart {p} order _ :=
    ⟨loopCoherent_restart p order,
      outputsDriven_unready restarted_attn (fun c => by rw [restart_corner]; exact restarted_corner _) ⟨rfl, rfl, rfl⟩
        ⟨rfl, rfl⟩⟩
  demand _ _ := .of_units rfl rfl rfl rfl (.refl _) rfl rfl
  urgent _ _ := .of_units rfl rfl rfl rfl (.refl _) rfl rfl
  work c l h n s f hp :=
    hp.of_same (loopCoherent_unowed.work c l h n s f hp.1) (sameOutputs_setCorner _ c _ rfl rfl rfl)
  items _ := .of_units rfl rfl rfl rfl (.refl _) rfl rfl
  result v hp := hp.of_same (loopCoherent_unowed.result v hp.1) (.of_units rfl rfl (.refl _) rfl rfl)
  published hp := ⟨loopCoherent_unowed.published hp.1, hp.2.published⟩
  consume x hp := ⟨loopCoherent_unowed.consume x hp.1, hp.2.setJournal _ rfl rfl⟩
  stageMap v w b bad hp :=
    hp.of_same (loopCoherent_unowed.stageMap v w b bad hp.1) (.of_units rfl rfl (.refl _) rfl rfl)
  closeMap v cw hp := hp.of_same (hp.1.closeMap v cw) (sameOutputs_closeMap _ v cw)
  released region psense safe dflt hp :=
    ⟨loopCoherent_unowed.released region psense safe dflt hp.1,
      outputsDriven_unready reset_attn (fun c => by rw [released_corner]; exact restarted_corner _) ⟨rfl, rfl, rfl⟩
        ⟨rfl, rfl⟩⟩
  safeAsserted {p} order h hp := by
    refine ⟨loopCoherent_unowed.safeAsserted order h hp.1, Part.Atoms.foldl_keeps (fun p b hp => ?_) _
      (⟨hp.2.attn, hp.2.ready, hp.2.reported, hp.2.output, hp.2.mode, hp.2.threshold⟩ : OutputsDriven (p.setSafe true))⟩
    cases b with
    | inl c => exact hp.enterSafe c
    | inr v => exact hp.safeChannel v
  safeReleased {p} order h hp :=
    ⟨loopCoherent_unowed.safeReleased order h hp.1, Part.Atoms.foldl_keeps (fun _ c hp => hp.exitSafe c) _
      (⟨hp.2.attn, hp.2.ready, hp.2.reported, hp.2.output, hp.2.mode, hp.2.threshold⟩ : OutputsDriven (p.setSafe false))⟩

/-- Settles O56: each event that a step is made of leaves the outputs, or ends with their evaluation. -/
theorem everyStepKeepsOutputsDriven : Obligations.EveryStepKeepsOutputsDriven :=
  fun _ _ hloop houtputs hstep => (loopOutputs_unowed.kept.step ⟨hloop, houtputs⟩ hstep).2

end Sys2Proof.Machine
end

section
/-! Every step keeps Pending Lists, holds, slots and finals in agreement. The properties are kept by an event that changes
the work of one corner, when the slots of the entries it removes are retired and its urgent slot follows its hold. -/

namespace Sys2Proof.Machine

/-! ### The lists, slots and finals together -/

/-- The slots that the Pending List of a corner names. -/
def Part.slotsOf (p : Part) (c : CornerId) : List SlotId := (p.corner c).list.map fun e => e.slot

/-- Pending Lists, holds, slots and finals agree. -/
structure WorkOrdered (p : Part) : Prop where
  corners : CornersOrdered p
  slots : SlotsListed p
  finals : FinalsOwed p

theorem mem_allCorners (c : CornerId) : c ∈ allCorners := by revert c; decide

theorem mem_listedSlots {p : Part} {i : SlotId} : i ∈ p.listedSlots ↔ ∃ c, i ∈ p.slotsOf c := by
  simp only [Part.listedSlots, Part.slotsOf, List.mem_flatMap, mem_allCorners, true_and]

/-- No slot is listed twice: not in one list, and not in two. -/
theorem nodup_listedSlots_iff {p : Part} :
    p.listedSlots.Nodup ↔ (∀ c, (p.slotsOf c).Nodup) ∧ ∀ c d i, i ∈ p.slotsOf c → i ∈ p.slotsOf d → c = d := by
  rw [Part.listedSlots, List.nodup_flatMap]
  constructor
  · intro ⟨hone, htwo⟩
    refine ⟨fun c => hone c (mem_allCorners c), fun c d i hc hd => ?_⟩
    by_contra hne
    have hsymm : Std.Symm (Function.onFun List.Disjoint fun c => (p.corner c).list.map fun e => e.slot) :=
      ⟨fun _ _ h => List.Disjoint.symm h⟩
    exact (htwo.forall (mem_allCorners c) (mem_allCorners d) hne) hc hd
  · intro ⟨hone, htwo⟩
    refine ⟨fun c _ => hone c, List.Pairwise.imp (R := (· ≠ ·)) ?_ (by decide)⟩
    exact fun hne i hi hj => hne (htwo _ _ i hi hj)

/-- What the words of the item in hand promise of the slots' finals. -/
structure FinalsInHand (p : Part) : Prop where
  demand : ∀ it l w r i, p.engine.hand = some it → it.words = l ++ w :: r → w.notice = some (.demandFinal i) →
    r = [] ∧ (p.demandSlot i).final.isSome = true
  urgent : ∀ it l w r c, p.engine.hand = some it → it.words = l ++ w :: r → w.notice = some (.urgentFinal c) →
    r = [] ∧ (p.urgentSlot c).final.isSome = true

theorem FinalsOwed.inHand {p : Part} (h : FinalsOwed p) : FinalsInHand p := ⟨h.demandInHand, h.urgentInHand⟩

/-- Finals that stay owed keep the promise of the same item in hand, or of none. -/
theorem FinalsInHand.of_le {p q : Part} (hp : FinalsInHand p)
    (hand : q.engine.hand = p.engine.hand ∨ q.engine.hand = none)
    (demand : ∀ i, (p.demandSlot i).final.isSome = true → (q.demandSlot i).final.isSome = true)
    (urgent : ∀ c, (p.urgentSlot c).final.isSome = true → (q.urgentSlot c).final.isSome = true) : FinalsInHand q := by
  obtain hsame | hnone := hand
  · exact ⟨fun it l w r i hit hw hn => (hp.demand it l w r i (hsame ▸ hit) hw hn).imp_right (demand i),
      fun it l w r c hit hw hn => (hp.urgent it l w r c (hsame ▸ hit) hw hn).imp_right (urgent c)⟩
  · exact ⟨fun it l w r i hit => absurd (hnone.symm.trans hit) (by simp),
      fun it l w r c hit => absurd (hnone.symm.trans hit) (by simp)⟩

/-! ### Events that leave the work alone -/

/-- The work of one part stands in another: corner states, lists, holds, slots, and the item in hand. -/
structure SameWork (p q : Part) : Prop where
  state : ∀ c, (q.corner c).state = (p.corner c).state
  limpCause : ∀ c, (q.corner c).limpCause = (p.corner c).limpCause
  list : ∀ c, (q.corner c).list = (p.corner c).list
  hold : ∀ c, (q.corner c).hold = (p.corner c).hold
  frame : ∀ c, (q.corner c).frame = (p.corner c).frame
  running : p.timer.running = true → q.timer.running = true
  demand : ∀ i, (q.demandSlot i).state = (p.demandSlot i).state ∧ (q.demandSlot i).final = (p.demandSlot i).final
  urgent : ∀ c, (q.urgentSlot c).state = (p.urgentSlot c).state ∧ (q.urgentSlot c).final = (p.urgentSlot c).final
  hand : q.engine.hand = p.engine.hand

theorem SameWork.trans {p q r : Part} (h : SameWork p q) (h' : SameWork q r) : SameWork p r where
  state c := (h'.state c).trans (h.state c)
  limpCause c := (h'.limpCause c).trans (h.limpCause c)
  list c := (h'.list c).trans (h.list c)
  hold c := (h'.hold c).trans (h.hold c)
  frame c := (h'.frame c).trans (h.frame c)
  running hr := h'.running (h.running hr)
  demand i := ⟨(h'.demand i).1.trans (h.demand i).1, (h'.demand i).2.trans (h.demand i).2⟩
  urgent c := ⟨(h'.urgent c).1.trans (h.urgent c).1, (h'.urgent c).2.trans (h.urgent c).2⟩
  hand := h'.hand.trans h.hand

/-- An operation that leaves corners, slots, timer and item in hand alone leaves the work alone. -/
theorem SameWork.of_eq {p q : Part} (corner : ∀ c, q.corner c = p.corner c) (timer : q.timer = p.timer)
    (demand : ∀ i, q.demandSlot i = p.demandSlot i) (urgent : ∀ c, q.urgentSlot c = p.urgentSlot c)
    (hand : q.engine.hand = p.engine.hand) : SameWork p q where
  state c := by rw [corner]
  limpCause c := by rw [corner]
  list c := by rw [corner]
  hold c := by rw [corner]
  frame c := by rw [corner]
  running := by rw [timer]; exact id
  demand i := by rw [demand]; exact ⟨rfl, rfl⟩
  urgent c := by rw [urgent]; exact ⟨rfl, rfl⟩
  hand := hand

theorem SameWork.of_units {p q : Part} (corners : q.corners = p.corners) (timer : q.timer = p.timer)
    (demand : q.demand = p.demand) (urgent : q.urgent = p.urgent) (hand : q.engine.hand = p.engine.hand) :
    SameWork p q :=
  .of_eq (fun c => by unfold Part.corner; rw [corners]) timer (fun i => by unfold Part.demandSlot; rw [demand])
    (fun c => by unfold Part.urgentSlot; rw [urgent]) hand

theorem SameWork.slotsOf {p q : Part} (h : SameWork p q) (c : CornerId) : q.slotsOf c = p.slotsOf c := by
  unfold Part.slotsOf; rw [h.list]

theorem SameWork.listedSlots {p q : Part} (h : SameWork p q) : q.listedSlots = p.listedSlots := by
  unfold Part.listedSlots; simp only [h.list]

theorem WorkOrdered.of_same {p q : Part} (h : SameWork p q) (hp : WorkOrdered p) : WorkOrdered q := by
  obtain ⟨hc, hs, hf⟩ := hp
  refine ⟨⟨?_, ?_, ?_, ?_, ?_, ?_, ?_, ?_⟩, ⟨?_, ?_⟩, ⟨?_, ?_, ?_, ?_⟩⟩
  · intro c; rw [h.state, h.list, h.hold]; exact hc.idleEmpty c
  · intro c; rw [h.state]; exact fun hr => h.running (hc.runsOnFrames c hr)
  · intro c; rw [h.state, h.limpCause]; exact hc.limpCause c
  · intro c; rw [h.list]; exact hc.atMostEight c
  · intro c; rw [h.list, h.frame]; exact hc.inWindow c
  · intro c; rw [h.list, h.frame]; exact hc.sorted c
  · intro c; rw [h.list]; exact hc.distinct c
  · intro c; rw [h.hold, (h.urgent c).1]; exact hc.hold c
  · rw [h.listedSlots]; exact hs.once
  · intro i; rw [h.listedSlots, (h.demand i).1]; exact hs.held i
  · intro i; rw [(h.demand i).1, (h.demand i).2]; exact hf.demand i
  · intro c; rw [(h.urgent c).1, (h.urgent c).2]; exact hf.urgent c
  · rw [h.hand]; simp only [fun i => (h.demand i).2]; exact hf.demandInHand
  · rw [h.hand]; simp only [fun c => (h.urgent c).2]; exact hf.urgentInHand

/-! ### An event at one corner -/

/-- `q` is `p` after an event that changed the work of corner c alone: entries removed from its list have their slots
retired, and its urgent slot stands with its hold. -/
structure CornerWorked (p q : Part) (c : CornerId) : Prop where
  others : ∀ d, d ≠ c → (q.corner d).state = (p.corner d).state ∧ (q.corner d).limpCause = (p.corner d).limpCause ∧
    (q.corner d).list = (p.corner d).list ∧ (q.corner d).hold = (p.corner d).hold ∧
    (q.corner d).frame = (p.corner d).frame
  running : q.timer.running = p.timer.running
  idle : (q.corner c).state ≠ .run → (q.corner c).list = [] ∧ (q.corner c).hold = none
  runs : (q.corner c).state = .run → q.timer.running = true
  cause : (q.corner c).limpCause = .none ↔ (q.corner c).state ≠ .limp
  sub : (q.corner c).list.Sublist (p.corner c).list
  inWindow : ∀ e ∈ (q.corner c).list,
    1 ≤ ahead e.target (q.corner c).frame ∧ ahead e.target (q.corner c).frame ≤ 64
  sorted : (q.corner c).list.Pairwise fun a b => ahead a.target (q.corner c).frame ≤ ahead b.target (q.corner c).frame
  hold : (q.urgentSlot c).state = .active ↔ (q.corner c).hold.isSome = true
  urgentFinal : (q.urgentSlot c).final.isSome = true ↔ (q.urgentSlot c).state = .owed
  urgentStill : (p.urgentSlot c).final.isSome = true → (q.urgentSlot c).final.isSome = true
  urgentOthers : ∀ d, d ≠ c → q.urgentSlot d = p.urgentSlot d
  retired : ∀ i, i ∈ p.slotsOf c → i ∉ q.slotsOf c →
    (q.demandSlot i).state = .retiring ∧ (q.demandSlot i).final.isSome = true
  stands : ∀ i, i ∉ p.slotsOf c ∨ i ∈ q.slotsOf c → q.demandSlot i = p.demandSlot i
  hand : q.engine.hand = p.engine.hand

theorem WorkOrdered.of_corner {p q : Part} {c : CornerId} (h : CornerWorked p q c) (hp : WorkOrdered p) :
    WorkOrdered q := by
  obtain ⟨hc, hs, hf⟩ := hp
  obtain ⟨hone, htwo⟩ := nodup_listedSlots_iff.1 hs.once
  have hsub (d : CornerId) : (q.slotsOf d).Sublist (p.slotsOf d) := by
    by_cases hd : d = c
    · rw [hd]; exact h.sub.map _
    · unfold Part.slotsOf; rw [(h.others d hd).2.2.1]
  have helse {d : CornerId} {i : SlotId} (hd : d ≠ c) (hi : i ∈ p.slotsOf d) : i ∈ q.slotsOf d := by
    unfold Part.slotsOf; rw [(h.others d hd).2.2.1]; exact hi
  have hslot (i : SlotId) : q.demandSlot i = p.demandSlot i ∨
      (i ∈ p.slotsOf c ∧ i ∉ q.slotsOf c ∧ (q.demandSlot i).state = .retiring ∧
        (q.demandSlot i).final.isSome = true) := by
    by_cases hpi : i ∈ p.slotsOf c
    · by_cases hqi : i ∈ q.slotsOf c
      · exact .inl (h.stands i (.inr hqi))
      · exact .inr ⟨hpi, hqi, h.retired i hpi hqi⟩
    · exact .inl (h.stands i (.inl hpi))
  refine ⟨⟨?_, ?_, ?_, ?_, ?_, ?_, ?_, ?_⟩, ⟨?_, ?_⟩, ?_⟩
  · intro d
    by_cases hd : d = c
    · rw [hd]; exact h.idle
    · obtain ⟨hstate, -, hlist, hhold, -⟩ := h.others d hd
      rw [hstate, hlist, hhold]; exact hc.idleEmpty d
  · intro d
    by_cases hd : d = c
    · rw [hd]; exact h.runs
    · rw [(h.others d hd).1, h.running]; exact hc.runsOnFrames d
  · intro d
    by_cases hd : d = c
    · rw [hd]; exact h.cause
    · obtain ⟨hstate, hcause, -⟩ := h.others d hd
      rw [hstate, hcause]; exact hc.limpCause d
  · intro d
    by_cases hd : d = c
    · rw [hd]; exact h.sub.length_le.trans (hc.atMostEight c)
    · rw [(h.others d hd).2.2.1]; exact hc.atMostEight d
  · intro d
    by_cases hd : d = c
    · rw [hd]; exact h.inWindow
    · obtain ⟨-, -, hlist, -, hframe⟩ := h.others d hd
      rw [hlist, hframe]; exact hc.inWindow d
  · intro d
    by_cases hd : d = c
    · rw [hd]; exact h.sorted
    · obtain ⟨-, -, hlist, -, hframe⟩ := h.others d hd
      rw [hlist, hframe]; exact hc.sorted d
  · intro d
    by_cases hd : d = c
    · rw [hd]; exact (hc.distinct c).sublist (h.sub.map _)
    · rw [(h.others d hd).2.2.1]; exact hc.distinct d
  · intro d
    by_cases hd : d = c
    · rw [hd]; exact h.hold
    · rw [h.urgentOthers d hd, (h.others d hd).2.2.2.1]; exact hc.hold d
  · exact nodup_listedSlots_iff.2 ⟨fun d => (hone d).sublist (hsub d),
      fun d e i hd he => htwo d e i ((hsub d).subset hd) ((hsub e).subset he)⟩
  · intro i
    rw [mem_listedSlots]
    obtain hsame | ⟨hpi, hqi, hstate, -⟩ := hslot i
    · rw [hsame, ← hs.held i, mem_listedSlots]
      refine ⟨fun ⟨d, hd⟩ => ⟨d, (hsub d).subset hd⟩, fun ⟨d, hd⟩ => ?_⟩
      by_cases hdc : d = c
      · subst hdc
        by_contra hnone
        have hqi : i ∉ q.slotsOf d := fun hqi => hnone ⟨d, hqi⟩
        have hretired := (h.retired i hd hqi).1
        rw [hsame, (hs.held i).1 (mem_listedSlots.2 ⟨d, hd⟩)] at hretired
        cases hretired
      · exact ⟨d, helse hdc hd⟩
    · refine iff_of_false (fun ⟨d, hd⟩ => ?_) (by rw [hstate]; simp)
      have : d = c := htwo d c i ((hsub d).subset hd) hpi
      exact hqi (this ▸ hd)
  · have hinHand : FinalsInHand q := by
      refine hf.inHand.of_le (.inl h.hand) (fun i hi => ?_) (fun d hd => ?_)
      · obtain hsame | ⟨-, -, -, hfinal⟩ := hslot i
        · rw [hsame]; exact hi
        · exact hfinal
      · by_cases hdc : d = c
        · subst hdc; exact h.urgentStill hd
        · rw [h.urgentOthers d hdc]; exact hd
    refine ⟨fun i => ?_, fun d => ?_, hinHand.demand, hinHand.urgent⟩
    · obtain hsame | ⟨-, -, hstate, hfinal⟩ := hslot i
      · rw [hsame]; exact hf.demand i
      · exact iff_of_true hfinal (.inl hstate)
    · by_cases hdc : d = c
      · subst hdc; exact h.urgentFinal
      · rw [h.urgentOthers d hdc]; exact hf.urgent d

/-- One demand slot replaced by one that is not HELD, as the one before was not. -/
theorem WorkOrdered.setDemand {p : Part} (hp : WorkOrdered p) (i : SlotId) (x : DemandSlot)
    (before : (p.demandSlot i).state ≠ .held) (after : x.state ≠ .held)
    (final : x.final.isSome = true ↔ x.state = .retiring ∨ x.state = .refusing)
    (still : p.engine.hand = none ∨ ((p.demandSlot i).final.isSome = true → x.final.isSome = true)) :
    WorkOrdered (p.setDemand i x) := by
  obtain ⟨hc, hs, hf⟩ := hp
  have hinHand : FinalsInHand (p.setDemand i x) := by
    obtain hnone | hstill := still
    · exact ⟨fun it l w r i hit => absurd (hnone.symm.trans hit) (by simp),
        fun it l w r c hit => absurd (hnone.symm.trans hit) (by simp)⟩
    · refine hf.inHand.of_le (.inl rfl) (fun j hj => ?_) (fun c hc => hc)
      rw [demandSlot_setDemand]
      split
      · next hji => exact hstill (hji ▸ hj)
      · exact hj
  refine ⟨⟨hc.idleEmpty, hc.runsOnFrames, hc.limpCause, hc.atMostEight, hc.inWindow, hc.sorted, hc.distinct, hc.hold⟩,
    ⟨hs.once, fun j => ?_⟩, ⟨fun j => ?_, hf.urgent, hinHand.demand, hinHand.urgent⟩⟩
  · rw [demandSlot_setDemand]
    split
    · next hji => exact iff_of_false (fun hj => before (hji ▸ (hs.held j).1 hj)) after
    · exact hs.held j
  · rw [demandSlot_setDemand]
    split
    · exact final
    · exact hf.demand j

end Sys2Proof.Machine
end

section
/-! Every step keeps Pending Lists, holds, slots and finals in agreement: the events of Slot Capture, of the corners and of
the Write-Back Engine. -/

namespace Sys2Proof.Machine

variable {p q : Part}

/-! ### One slot replaced -/

/-- One urgent slot replaced by one that is ACTIVE when the one before was. -/
theorem WorkOrdered.setUrgent (hp : WorkOrdered p) (c : CornerId) (x : UrgentSlot)
    (active : x.state = .active ↔ (p.urgentSlot c).state = .active) (final : x.final.isSome = true ↔ x.state = .owed)
    (still : p.engine.hand = none ∨ ((p.urgentSlot c).final.isSome = true → x.final.isSome = true)) :
    WorkOrdered (p.setUrgent c x) := by
  obtain ⟨hc, hs, hf⟩ := hp
  have hinHand : FinalsInHand (p.setUrgent c x) := by
    obtain hnone | hstill := still
    · exact ⟨fun it l w r i hit => absurd (hnone.symm.trans hit) (by simp),
        fun it l w r d hit => absurd (hnone.symm.trans hit) (by simp)⟩
    · refine hf.inHand.of_le (.inl rfl) (fun i hi => hi) (fun d hd => ?_)
      rw [urgentSlot_setUrgent]
      split
      · next hdc => exact hstill (hdc ▸ hd)
      · exact hd
  refine ⟨⟨hc.idleEmpty, hc.runsOnFrames, hc.limpCause, hc.atMostEight, hc.inWindow, hc.sorted, hc.distinct, fun d => ?_⟩,
    ⟨hs.once, hs.held⟩, ⟨hf.demand, fun d => ?_, hinHand.demand, hinHand.urgent⟩⟩
  · rw [urgentSlot_setUrgent]
    split
    · next hdc => rw [active, hdc]; exact hc.hold c
    · exact hc.hold d
  · rw [urgentSlot_setUrgent]
    split
    · exact final
    · exact hf.urgent d

/-- One demand slot replaced by one with its state and its final. -/
theorem sameWork_setDemand (p : Part) (i : SlotId) (x : DemandSlot) (state : x.state = (p.demandSlot i).state)
    (final : x.final = (p.demandSlot i).final) : SameWork p (p.setDemand i x) := by
  refine ⟨fun _ => rfl, fun _ => rfl, fun _ => rfl, fun _ => rfl, fun _ => rfl, id, fun j => ?_, fun _ => ⟨rfl, rfl⟩, rfl⟩
  rw [demandSlot_setDemand]
  split
  · next hji => rw [hji]; exact ⟨state, final⟩
  · exact ⟨rfl, rfl⟩

/-- One urgent slot replaced by one with its state and its final. -/
theorem sameWork_setUrgent (p : Part) (c : CornerId) (x : UrgentSlot) (state : x.state = (p.urgentSlot c).state)
    (final : x.final = (p.urgentSlot c).final) : SameWork p (p.setUrgent c x) := by
  refine ⟨fun _ => rfl, fun _ => rfl, fun _ => rfl, fun _ => rfl, fun _ => rfl, id, fun _ => ⟨rfl, rfl⟩, fun d => ?_, rfl⟩
  rw [urgentSlot_setUrgent]
  split
  · next hdc => rw [hdc]; exact ⟨state, final⟩
  · exact ⟨rfl, rfl⟩

/-- A corner replaced by one with its state, its work and its frame. -/
theorem sameWork_setCorner (p : Part) (c : CornerId) (k : Corner) (state : k.state = (p.corner c).state)
    (limpCause : k.limpCause = (p.corner c).limpCause) (list : k.list = (p.corner c).list)
    (hold : k.hold = (p.corner c).hold) (frame : k.frame = (p.corner c).frame) : SameWork p (p.setCorner c k) := by
  have hcorner (d : CornerId) : ((p.setCorner c k).corner d).state = (p.corner d).state ∧
      ((p.setCorner c k).corner d).limpCause = (p.corner d).limpCause ∧
      ((p.setCorner c k).corner d).list = (p.corner d).list ∧ ((p.setCorner c k).corner d).hold = (p.corner d).hold ∧
      ((p.setCorner c k).corner d).frame = (p.corner d).frame := by
    rw [corner_setCorner]
    split
    · next hd => rw [hd]; exact ⟨state, limpCause, list, hold, frame⟩
    · exact ⟨rfl, rfl, rfl, rfl, rfl⟩
  exact ⟨fun d => (hcorner d).1, fun d => (hcorner d).2.1, fun d => (hcorner d).2.2.1, fun d => (hcorner d).2.2.2.1,
    fun d => (hcorner d).2.2.2.2, id, fun _ => ⟨rfl, rfl⟩, fun _ => ⟨rfl, rfl⟩, rfl⟩

/-! ### A corner's work flushed -/

/-- The work of corner c flushed: its list and its hold gone, the slots retired. -/
structure WorkFlushed (p q : Part) (c : CornerId) : Prop where
  others : ∀ d, d ≠ c → (q.corner d).state = (p.corner d).state ∧ (q.corner d).limpCause = (p.corner d).limpCause ∧
    (q.corner d).list = (p.corner d).list ∧ (q.corner d).hold = (p.corner d).hold ∧
    (q.corner d).frame = (p.corner d).frame
  timer : q.timer = p.timer
  empty : (q.corner c).list = [] ∧ (q.corner c).hold = none
  runs : (q.corner c).state = .run → p.timer.running = true
  cause : (q.corner c).limpCause = .none ↔ (q.corner c).state ≠ .limp
  slots : ∃ cause f, ∀ i, q.demandSlot i = flushedSlots (p.corner c).list cause f p.demandSlot i
  urgent : ∃ cause f, ∀ d, q.urgentSlot d =
    if d = c then flushedUrgent (p.corner c).hold cause f (p.urgentSlot c) else p.urgentSlot d
  hand : q.engine.hand = p.engine.hand

theorem mem_slotsOf_iff {c : CornerId} {i : SlotId} :
    i ∈ p.slotsOf c ↔ ((p.corner c).list.any fun e => e.slot == i) = true := by
  simp only [Part.slotsOf, List.mem_map, List.any_eq_true, beq_iff_eq]

theorem flushedUrgent_some (h : Hold) (cause : FlushCause) (f : Frame) (u : UrgentSlot) :
    (flushedUrgent (some h) cause f u).state = .owed ∧ (flushedUrgent (some h) cause f u).final.isSome = true :=
  ⟨rfl, rfl⟩

theorem WorkFlushed.worked {c : CornerId} (h : WorkFlushed p q c) (hp : WorkOrdered p) : CornerWorked p q c := by
  obtain ⟨cause, f, hslots⟩ := h.slots
  obtain ⟨cause', f', hurgents⟩ := h.urgent
  have hurgent := hurgents c
  rw [if_pos rfl] at hurgent
  have hactive := hp.corners.hold c
  have hslotsOf : q.slotsOf c = [] := by rw [Part.slotsOf, h.empty.1]; rfl
  refine ⟨h.others, by rw [h.timer], fun _ => h.empty, fun hr => by rw [h.timer]; exact h.runs hr, h.cause,
    by rw [h.empty.1]; exact List.nil_sublist _, by rw [h.empty.1]; nofun, by rw [h.empty.1]; exact .nil,
    ?_, ?_, ?_, fun d hd => by rw [hurgents, if_neg hd], fun i hi _ => ?_, fun i hi => ?_, h.hand⟩
  · rw [h.empty.2, hurgent]
    cases hh : (p.corner c).hold with
    | some x => exact iff_of_false nofun nofun
    | none => rw [hh] at hactive; exact hactive
  · rw [hurgent]
    cases (p.corner c).hold with
    | some x => exact iff_of_true rfl rfl
    | none => exact hp.finals.urgent c
  · rw [hurgent]
    cases (p.corner c).hold with
    | some x => exact fun _ => rfl
    | none => exact id
  · rw [hslots, flushedSlots, mem_slotsOf_iff.1 hi, if_pos rfl]
    exact ⟨rfl, rfl⟩
  · rw [hslotsOf] at hi
    rw [hslots, flushedSlots, if_neg]
    exact fun hany => hi.elim (fun hno => hno (mem_slotsOf_iff.2 hany)) nofun

theorem WorkOrdered.flushed {c : CornerId} (hp : WorkOrdered p) (h : WorkFlushed p q c) : WorkOrdered q :=
  hp.of_corner (h.worked hp)

/-- Work left with a flush (R28, R53, R60), at a corner in the state that it enters. -/
theorem WorkLeft.flushed {c : CornerId} {reason : FlushCause} {p1 : Part} (h : WorkLeft p1 q c reason)
    (list : (p1.corner c).list = (p.corner c).list) (hold : (p1.corner c).hold = (p.corner c).hold)
    (demand : p1.demand = p.demand) (urgent : p1.urgent = p.urgent) (timer : p1.timer = p.timer)
    (hand : p1.engine.hand = p.engine.hand) (empty : (q.corner c).list = [] ∧ (q.corner c).hold = none)
    (state : (q.corner c).state ≠ .run) (cause : (q.corner c).limpCause = .none ↔ (q.corner c).state ≠ .limp)
    (others : ∀ d, d ≠ c → (q.corner d).state = (p.corner d).state ∧ (q.corner d).limpCause = (p.corner d).limpCause ∧
      (q.corner d).list = (p.corner d).list ∧ (q.corner d).hold = (p.corner d).hold ∧
      (q.corner d).frame = (p.corner d).frame) : WorkFlushed p q c := by
  have hdemand (i : SlotId) : p1.demandSlot i = p.demandSlot i := by unfold Part.demandSlot; rw [demand]
  have hurgent (d : CornerId) : p1.urgentSlot d = p.urgentSlot d := by unfold Part.urgentSlot; rw [urgent]
  obtain ⟨-, -, htimer, -⟩ := h.elsewhere
  refine ⟨others, htimer.trans timer, empty, fun hr => absurd hr state, cause,
    ⟨reason, (p1.corner c).frame, fun i => ?_⟩, ⟨reason, (p1.corner c).frame, fun d => ?_⟩, ?_⟩
  · rw [h.slots, list, show p1.demandSlot = p.demandSlot from funext hdemand]
  · rw [h.urgent, hold, hurgent, hurgent]
  · rw [h.owed]; exact hand

/-- Entry to LIMP, from a part in which the corner may have come to its next frame (R60, R64). -/
theorem enterLimp_flushed (c : CornerId) (d : LimpDetail) (f : Frame) (k : Corner) (list : k.list = (p.corner c).list)
    (hold : k.hold = (p.corner c).hold) : WorkFlushed p ((p.setCorner c k).enterLimp c d f) c := by
  have h := enterLimp_entered (p.setCorner c k) c d f
  have hcorner := h.corner
  refine WorkLeft.flushed h.work (by rw [corner_setCorner_self, list]) (by rw [corner_setCorner_self, hold]) rfl rfl rfl rfl
    (by rw [hcorner]; exact ⟨rfl, rfl⟩) (by rw [hcorner]; simp)
    (by rw [hcorner]; exact iff_of_false (limpCause_ne_none d) (by simp)) fun e he => ?_
  have hkept : (p.setCorner c k).corner e = p.corner e := by rw [corner_setCorner, if_neg he]
  by_cases hpartner : e = partnerOf c
  · rw [hpartner] at hkept ⊢
    rw [h.partner, hkept]
    split <;> exact ⟨rfl, rfl, rfl, rfl, rfl⟩
  · rw [h.otherCorners e he hpartner, hkept]
    exact ⟨rfl, rfl, rfl, rfl, rfl⟩

theorem WorkOrdered.enterLimp (hp : WorkOrdered p) (c : CornerId) (d : LimpDetail) (f : Frame) :
    WorkOrdered (p.enterLimp c d f) := by
  have h := enterLimp_flushed (p := p) c d f (p.corner c) rfl rfl
  rw [setCorner_corner] at h
  exact hp.flushed h

theorem WorkOrdered.enterIdle (hp : WorkOrdered p) (c : CornerId) : WorkOrdered (p.enterIdle c) := by
  obtain ⟨hwork, hcorners, -⟩ := enterIdle_entered p c
  have hcorner := hcorners c
  rw [if_pos rfl] at hcorner
  refine hp.flushed (WorkLeft.flushed hwork rfl rfl rfl rfl rfl rfl (by rw [hcorner]; exact ⟨rfl, rfl⟩)
    (by rw [hcorner]; simp) (by rw [hcorner]; exact iff_of_true rfl (by simp)) fun e he => ?_)
  rw [hcorners, if_neg he]
  exact ⟨rfl, rfl, rfl, rfl, rfl⟩

theorem WorkOrdered.enterSafe (hp : WorkOrdered p) (c : CornerId) : WorkOrdered (p.enterSafe c) := by
  obtain ⟨hslots, hurgent, hengine⟩ := leaveRun_slots p c .safe
  refine hp.flushed (c := c) ⟨fun e he => by simp [he], by simp, by simp, by simp, by simp,
    ⟨.safe, (p.corner c).frame, fun i => ?_⟩, ⟨.safe, (p.corner c).frame, fun e => ?_⟩, ?_⟩
  · rw [← hslots i]; simp [Part.enterSafe]
  · rw [← hurgent e]; simp [Part.enterSafe]
  · have : (p.enterSafe c).engine = (p.leaveRun c .safe).engine := by simp [Part.enterSafe]
    rw [this, hengine]

/-! ### Events that leave the list of a corner -/

/-- An event at corner c that leaves every demand slot and the list of c; its frame moves only when the list is empty. -/
theorem CornerWorked.of_list {c : CornerId} (hp : WorkOrdered p)
    (others : ∀ d, d ≠ c → (q.corner d).state = (p.corner d).state ∧ (q.corner d).limpCause = (p.corner d).limpCause ∧
      (q.corner d).list = (p.corner d).list ∧ (q.corner d).hold = (p.corner d).hold ∧
      (q.corner d).frame = (p.corner d).frame)
    (timer : q.timer = p.timer) (demand : ∀ i, q.demandSlot i = p.demandSlot i)
    (list : (q.corner c).list = (p.corner c).list)
    (frame : (p.corner c).list = [] ∨ (q.corner c).frame = (p.corner c).frame)
    (idle : (q.corner c).state ≠ .run → (q.corner c).list = [] ∧ (q.corner c).hold = none)
    (runs : (q.corner c).state = .run → p.timer.running = true)
    (cause : (q.corner c).limpCause = .none ↔ (q.corner c).state ≠ .limp)
    (hold : (q.urgentSlot c).state = .active ↔ (q.corner c).hold.isSome = true)
    (urgentFinal : (q.urgentSlot c).final.isSome = true ↔ (q.urgentSlot c).state = .owed)
    (urgentStill : (p.urgentSlot c).final.isSome = true → (q.urgentSlot c).final.isSome = true)
    (urgentOthers : ∀ d, d ≠ c → q.urgentSlot d = p.urgentSlot d) (hand : q.engine.hand = p.engine.hand) :
    CornerWorked p q c := by
  have hslots : q.slotsOf c = p.slotsOf c := by rw [Part.slotsOf, list]; rfl
  refine ⟨others, by rw [timer], idle, fun hr => by rw [timer]; exact runs hr, cause, by rw [list], ?_, ?_, hold,
    urgentFinal, urgentStill, urgentOthers, fun i hi hni => absurd (hslots ▸ hi) hni, fun i _ => demand i, hand⟩
  · obtain hnil | hframe := frame
    · rw [list, hnil]; nofun
    · rw [list, hframe]; exact hp.corners.inWindow c
  · obtain hnil | hframe := frame
    · rw [list, hnil]; exact .nil
    · rw [list, hframe]; exact hp.corners.sorted c

/-- An event at a corner without work that stands without work. -/
theorem WorkOrdered.unworked {c : CornerId} (hp : WorkOrdered p) (empty : (p.corner c).list = [] ∧ (p.corner c).hold = none)
    (others : ∀ d, d ≠ c → (q.corner d).state = (p.corner d).state ∧ (q.corner d).limpCause = (p.corner d).limpCause ∧
      (q.corner d).list = (p.corner d).list ∧ (q.corner d).hold = (p.corner d).hold ∧
      (q.corner d).frame = (p.corner d).frame)
    (timer : q.timer = p.timer) (demand : q.demand = p.demand) (urgent : q.urgent = p.urgent)
    (list : (q.corner c).list = (p.corner c).list) (hold : (q.corner c).hold = (p.corner c).hold)
    (runs : (q.corner c).state = .run → p.timer.running = true)
    (cause : (q.corner c).limpCause = .none ↔ (q.corner c).state ≠ .limp) (hand : q.engine.hand = p.engine.hand) :
    WorkOrdered q := by
  have hurgent (d : CornerId) : q.urgentSlot d = p.urgentSlot d := by unfold Part.urgentSlot; rw [urgent]
  refine hp.of_corner (CornerWorked.of_list hp others timer (fun i => by unfold Part.demandSlot; rw [demand]) list
    (.inl empty.1) (fun _ => ⟨list.trans empty.1, hold.trans empty.2⟩) runs cause ?_ ?_ ?_ (fun d _ => hurgent d) hand)
  · rw [hurgent, hold]; exact hp.corners.hold c
  · rw [hurgent]; exact hp.finals.urgent c
  · rw [hurgent]; exact id

theorem WorkOrdered.enterRun (hp : WorkOrdered p) (c : CornerId) (hrunning : p.timer.running = true)
    (hstate : (p.corner c).state = .idle ∨ (p.corner c).state = .limp) : WorkOrdered (p.enterRun c) := by
  have hempty := hp.corners.idleEmpty c (by obtain h | h := hstate <;> simp [h])
  exact hp.unworked hempty (fun d hd => by simp [hd]) (by simp) (by simp) (by simp) (by simp) (by simp)
    (fun _ => hrunning) (by simp) (by simp)

theorem exitSafe_limpCause (p : Part) (c d : CornerId) :
    ((p.exitSafe c).corner d).limpCause =
      if d = c ∧ (p.corner c).state = .safe then .none else (p.corner d).limpCause := by
  unfold Part.exitSafe
  dsimp only
  split
  · next h =>
    by_cases hd : d = c <;> simp [Part.setCornerState, hd, h]
  · next h => rw [if_neg fun hd => h hd.2]

theorem WorkOrdered.exitSafe (hp : WorkOrdered p) (c : CornerId) : WorkOrdered (p.exitSafe c) := by
  by_cases hsafe : (p.corner c).state = .safe
  · have hempty := hp.corners.idleEmpty c (by simp [hsafe])
    refine hp.unworked hempty (fun d hd => ?_) (by simp) (by simp) (by simp) (by simp) (by simp) (fun hr => ?_) ?_ (by simp)
    · rw [exitSafe_state, exitSafe_limpCause, if_neg fun h => hd h.1, if_neg fun h => hd h.1]
      simp
    · rw [exitSafe_state, if_pos ⟨rfl, hsafe⟩] at hr
      cases hr
    · rw [exitSafe_state, exitSafe_limpCause, if_pos ⟨rfl, hsafe⟩, if_pos ⟨rfl, hsafe⟩]
      simp
  · have hstands : p.exitSafe c = p := if_neg hsafe
    rw [hstands]
    exact hp

end Sys2Proof.Machine
end

section
/-! Every step keeps Pending Lists, holds, slots and finals in agreement: boundaries, takes and refusals. -/

namespace Sys2Proof.Machine

variable {p q : Part}

/-! ### A corner's boundary -/

theorem ahead_eq_one_iff (f n : Frame) : ahead f n = 1 ↔ f = n + 1 := by
  unfold ahead
  constructor
  · intro h
    have hone : f - n = 1 := BitVec.eq_of_toNat_eq h
    rw [← hone, BitVec.add_comm, BitVec.sub_add_cancel]
  · rintro rfl
    simp

/-- From the next frame a frame that is ahead is ahead by one less. -/
theorem ahead_succ {f n : Frame} (h : 1 ≤ ahead f n) : ahead f (n + 1) = ahead f n - 1 := by
  unfold ahead at h ⊢
  bv_omega

/-- A boundary in RUN below the silence limit: the due entries retired, the others nearer by one, the hold counted. -/
theorem cornerBoundary_worked {c : CornerId} (hp : WorkOrdered p) (hdue : p.cornerDue c = true)
    (hstate : (p.corner c).state = .run) (hsilence : (p.corner c).silence + 1 < (p.corner c).silenceLimit) :
    CornerWorked p (p.cornerBoundary c) c := by
  obtain ⟨hrun, hframe⟩ := (cornerDue_iff p c).1 hdue
  obtain ⟨hone, -⟩ := nodup_listedSlots_iff.1 hp.slots.once
  have hnodup : (((p.corner c).list.filter fun e => decide (e.target = (p.corner c).frame + 1)).map
      fun e => e.slot).Nodup := (hone c).sublist (List.filter_sublist.map _)
  obtain ⟨q, hexec, -, -, hcorner, hothers, hretired, hslots, hends, hurgents, -, hengine, hq⟩ :=
    cornerBoundaryInRun c { State.reset with part := p } hrun hframe hstate hsilence hnodup
  have hboundary : p.cornerBoundary c = q := by
    rw [exec_cornerFrameBoundary] at hexec
    dsimp only at hexec
    rw [if_pos hdue] at hexec
    injection hexec with hstates
    exact congrArg State.part hstates
  rw [hboundary]
  dsimp only at hcorner hothers hretired hslots hends hurgents hengine hq
  have htimer : q.timer = p.timer := by rw [hq]
  have hkept (e : Entry) : e ∈ (q.corner c).list ↔ e ∈ (p.corner c).list ∧ e.target ≠ (p.corner c).frame + 1 := by
    rw [hcorner]
    simp
  have hnearer (e : Entry) (he : e ∈ (q.corner c).list) :
      ahead e.target (q.corner c).frame = ahead e.target (p.corner c).frame - 1 ∧
        2 ≤ ahead e.target (p.corner c).frame ∧ ahead e.target (p.corner c).frame ≤ 64 := by
    obtain ⟨hmem, hne⟩ := (hkept e).1 he
    obtain ⟨hlow, hhigh⟩ := hp.corners.inWindow c e hmem
    have hnot : ahead e.target (p.corner c).frame ≠ 1 := fun h => hne ((ahead_eq_one_iff _ _).1 h)
    rw [hcorner]
    exact ⟨ahead_succ hlow, by omega, hhigh⟩
  have hsub : (q.corner c).list.Sublist (p.corner c).list := by
    rw [hcorner]
    exact List.filter_sublist
  have hretiring (i : SlotId) (x : Entry) (hx : x ∈ (p.corner c).list) (hxd : x.target = (p.corner c).frame + 1)
      (hxi : x.slot = i) : (q.demandSlot i).state = .retiring ∧ (q.demandSlot i).final.isSome = true := by
    have hmem : x ∈ (p.corner c).list.filter fun e => decide (e.target = (p.corner c).frame + 1) := by simp [hx, hxd]
    obtain hnil | ⟨l, e, hl⟩ := List.eq_nil_or_concat' ((p.corner c).list.filter fun e =>
      decide (e.target = (p.corner c).frame + 1))
    · rw [hnil] at hmem
      cases hmem
    · obtain ⟨happlied, hsuperseded⟩ := hretired l e hl
      rw [hl] at hmem
      obtain hxl | hxe := List.mem_append.1 hmem
      · rw [← hxi, hsuperseded x hxl]; exact ⟨rfl, rfl⟩
      · rw [← hxi, List.mem_singleton.1 hxe, happlied]; exact ⟨rfl, rfl⟩
  refine ⟨fun d hd => by rw [hothers d hd]; exact ⟨rfl, rfl, rfl, rfl, rfl⟩, by rw [htimer], fun h => ?_,
    fun _ => by rw [htimer]; exact hrun, ?_, hsub, fun e he => ?_, ?_, ?_, ?_, ?_, ?_, ?_, ?_, ?_⟩
  · rw [hcorner] at h; exact absurd hstate h
  · rw [hcorner]; exact hp.corners.limpCause c
  · obtain ⟨heq, hlow, hhigh⟩ := hnearer e he
    omega
  · refine ((hp.corners.sorted c).sublist hsub).imp_of_mem fun {a b} ha hb hab => ?_
    rw [(hnearer a ha).1, (hnearer b hb).1]
    exact Nat.sub_le_sub_right hab 1
  · by_cases hend : ∃ h, (p.corner c).hold = some h ∧ h.left ≤ 1
    · obtain ⟨h, hh, hl⟩ := hend
      rw [hends ⟨h, hh, hl⟩, hcorner, hh]
      simp [hl]
    · rw [hurgents c (.inr hend), hp.corners.hold c, hcorner]
      cases hh : (p.corner c).hold with
      | none => rfl
      | some h =>
        have hl : ¬h.left ≤ 1 := fun hl => hend ⟨h, hh, hl⟩
        simp [hl]
  · by_cases hend : ∃ h, (p.corner c).hold = some h ∧ h.left ≤ 1
    · rw [hends hend]; simp
    · rw [hurgents c (.inr hend)]; exact hp.finals.urgent c
  · by_cases hend : ∃ h, (p.corner c).hold = some h ∧ h.left ≤ 1
    · rw [hends hend]; simp
    · rw [hurgents c (.inr hend)]; exact id
  · exact fun d hd => hurgents d (.inl hd)
  · intro i hi hni
    obtain ⟨x, hx, hxi⟩ := List.mem_map.1 hi
    have hxd : x.target = (p.corner c).frame + 1 := by
      by_contra hne
      exact hni (List.mem_map.2 ⟨x, (hkept x).2 ⟨hx, hne⟩, hxi⟩)
    exact hretiring i x hx hxd hxi
  · intro i hi
    refine hslots i fun e he hei => ?_
    obtain ⟨hmem, htarget⟩ := List.mem_filter.1 he
    have htarget := of_decide_eq_true htarget
    obtain hno | hkeep := hi
    · exact hno (List.mem_map.2 ⟨e, hmem, hei⟩)
    · obtain ⟨x, hx, hxi⟩ := List.mem_map.1 hkeep
      obtain ⟨hxmem, hxne⟩ := (hkept x).1 hx
      exact hxne (List.inj_on_of_nodup_map (hone c) hxmem hmem (hxi.trans hei.symm) ▸ htarget)
  · rw [hengine]

theorem WorkOrdered.cornerBoundary (hp : WorkOrdered p) (c : CornerId) (hdue : p.cornerDue c = true) :
    WorkOrdered (p.cornerBoundary c) := by
  by_cases hstate : (p.corner c).state = .run
  · by_cases hsilence : (p.corner c).silence + 1 < (p.corner c).silenceLimit
    · exact hp.of_corner (cornerBoundary_worked hp hdue hstate hsilence)
    · have hlimp : p.cornerBoundary c =
          (p.setCorner c
            { p.corner c with frame := (p.corner c).frame + 1, silence := (p.corner c).silence + 1 }).enterLimp c
              (.silence ((p.corner c).silence + 1)) ((p.corner c).frame + 1) := by
        unfold Part.cornerBoundary
        dsimp only
        rw [if_pos hstate, if_pos (Nat.le_of_not_lt hsilence)]
      rw [hlimp]
      exact hp.flushed (enterLimp_flushed c _ _ _ rfl rfl)
  · have hmoves : p.cornerBoundary c = p.setCorner c { p.corner c with frame := (p.corner c).frame + 1 } := by
      unfold Part.cornerBoundary
      dsimp only
      rw [if_neg hstate]
    rw [hmoves]
    have hcorner := corner_setCorner_self p c { p.corner c with frame := (p.corner c).frame + 1 }
    refine hp.unworked (hp.corners.idleEmpty c hstate) (fun d hd => ?_) rfl rfl rfl (by rw [hcorner]) (by rw [hcorner])
      (fun hr => ?_) ?_ rfl
    · rw [corner_setCorner, if_neg hd]; exact ⟨rfl, rfl, rfl, rfl, rfl⟩
    · rw [hcorner] at hr; exact absurd hr hstate
    · rw [hcorner]; exact hp.corners.limpCause c

/-! ### A demand taken -/

theorem insertEntry_perm (n : Frame) (e : Entry) (l : List Entry) : (insertEntry n e l).Perm (e :: l) := by
  induction l with
  | nil => exact .refl _
  | cons x l ih =>
    unfold insertEntry
    split
    · exact (List.Perm.cons x ih).trans (List.Perm.swap e x l)
    · exact .refl _

theorem insertEntry_sorted {n : Frame} (e : Entry) {l : List Entry}
    (h : l.Pairwise fun a b => ahead a.target n ≤ ahead b.target n) :
    (insertEntry n e l).Pairwise fun a b => ahead a.target n ≤ ahead b.target n := by
  induction l with
  | nil => exact List.pairwise_singleton _ _
  | cons x l ih =>
    obtain ⟨hx, hl⟩ := List.pairwise_cons.1 h
    unfold insertEntry
    split
    · next hxe =>
      refine List.pairwise_cons.2 ⟨fun y hy => ?_, ih hl⟩
      obtain rfl | hy := List.mem_cons.1 ((insertEntry_perm n e l).mem_iff.1 hy)
      · exact hxe
      · exact hx y hy
    · next hxe =>
      refine List.pairwise_cons.2 ⟨fun y hy => ?_, h⟩
      obtain rfl | hy := List.mem_cons.1 hy
      · omega
      · have := hx y hy
        omega

/-- `q` is `p` after corner c took the entry e. -/
structure EntryTaken (p q : Part) (c : CornerId) (e : Entry) : Prop where
  others : ∀ d, d ≠ c → (q.corner d).list = (p.corner d).list
  list : (q.corner c).list = insertEntry (p.corner c).frame e (p.corner c).list
  corners : ∀ d, (q.corner d).state = (p.corner d).state ∧ (q.corner d).limpCause = (p.corner d).limpCause ∧
    (q.corner d).hold = (p.corner d).hold ∧ (q.corner d).frame = (p.corner d).frame
  timer : q.timer = p.timer
  taken : (q.demandSlot e.slot).state = .held ∧ (q.demandSlot e.slot).final = (p.demandSlot e.slot).final
  slots : ∀ i, i ≠ e.slot → q.demandSlot i = p.demandSlot i
  urgent : ∀ d, q.urgentSlot d = p.urgentSlot d
  hand : q.engine.hand = p.engine.hand

theorem WorkOrdered.taken {c : CornerId} {e : Entry} (hp : WorkOrdered p) (h : EntryTaken p q c e)
    (hrun : (p.corner c).state = .run) (hroom : (p.corner c).list.length < 8)
    (hwindow : 1 ≤ ahead e.target (p.corner c).frame ∧ ahead e.target (p.corner c).frame ≤ 64)
    (hfresh : ∀ x ∈ (p.corner c).list, x.sequence ≠ e.sequence)
    (hslot : (p.demandSlot e.slot).state ≠ .held ∧ (p.demandSlot e.slot).final.isSome = false) : WorkOrdered q := by
  obtain ⟨hc, hs, hf⟩ := hp
  obtain ⟨hone, htwo⟩ := nodup_listedSlots_iff.1 hs.once
  have hfree (d : CornerId) : e.slot ∉ p.slotsOf d := fun hd =>
    hslot.1 ((hs.held e.slot).1 (mem_listedSlots.2 ⟨d, hd⟩))
  have hperm : (q.corner c).list.Perm (e :: (p.corner c).list) := by rw [h.list]; exact insertEntry_perm _ _ _
  have hslotsc : (q.slotsOf c).Perm (e.slot :: p.slotsOf c) := hperm.map _
  have hslotsd {d : CornerId} (hd : d ≠ c) : q.slotsOf d = p.slotsOf d := by rw [Part.slotsOf, h.others d hd]; rfl
  have hmem (d : CornerId) (i : SlotId) : i ∈ q.slotsOf d ↔ (d = c ∧ i = e.slot) ∨ i ∈ p.slotsOf d := by
    by_cases hd : d = c
    · rw [hd, hslotsc.mem_iff, List.mem_cons]
      simp
    · rw [hslotsd hd]
      simp [hd]
  have hfinal (i : SlotId) : (q.demandSlot i).final = (p.demandSlot i).final := by
    by_cases hi : i = e.slot
    · rw [hi]; exact h.taken.2
    · rw [h.slots i hi]
  have hinHand : FinalsInHand q :=
    hf.inHand.of_le (.inl h.hand) (fun i hi => by rw [hfinal]; exact hi) (fun d hd => by rw [h.urgent]; exact hd)
  refine ⟨⟨fun d => ?_, fun d => ?_, fun d => ?_, fun d => ?_, fun d => ?_, fun d => ?_, fun d => ?_, fun d => ?_⟩,
    ⟨nodup_listedSlots_iff.2 ⟨fun d => ?_, fun d d' i hd hd' => ?_⟩, fun i => ?_⟩,
    ⟨fun i => ?_, fun d => ?_, hinHand.demand, hinHand.urgent⟩⟩
  · obtain ⟨hstate, -, hhold, -⟩ := h.corners d
    rw [hstate, hhold]
    intro hd
    have hdc : d ≠ c := fun heq => hd (heq ▸ hrun)
    rw [h.others d hdc]
    exact hc.idleEmpty d hd
  · rw [(h.corners d).1, h.timer]; exact hc.runsOnFrames d
  · rw [(h.corners d).1, (h.corners d).2.1]; exact hc.limpCause d
  · by_cases hd : d = c
    · rw [hd, hperm.length_eq, List.length_cons]; omega
    · rw [h.others d hd]; exact hc.atMostEight d
  · obtain ⟨-, -, -, hframe⟩ := h.corners d
    rw [hframe]
    by_cases hd : d = c
    · subst hd
      intro x hx
      obtain rfl | hx := List.mem_cons.1 (hperm.mem_iff.1 hx)
      · exact hwindow
      · exact hc.inWindow d x hx
    · rw [h.others d hd]; exact hc.inWindow d
  · obtain ⟨-, -, -, hframe⟩ := h.corners d
    rw [hframe]
    by_cases hd : d = c
    · rw [hd, h.list]; exact insertEntry_sorted e (hc.sorted c)
    · rw [h.others d hd]; exact hc.sorted d
  · by_cases hd : d = c
    · rw [hd, (hperm.map _).nodup_iff, List.map_cons, List.nodup_cons]
      refine ⟨fun hin => ?_, hc.distinct c⟩
      obtain ⟨x, hx, hxe⟩ := List.mem_map.1 hin
      exact hfresh x hx hxe
    · rw [h.others d hd]; exact hc.distinct d
  · rw [h.urgent, (h.corners d).2.2.1]; exact hc.hold d
  · by_cases hd : d = c
    · rw [hd, hslotsc.nodup_iff, List.nodup_cons]
      exact ⟨hfree c, hone c⟩
    · rw [hslotsd hd]; exact hone d
  · obtain ⟨hdc, hi⟩ | hd := (hmem d i).1 hd <;> obtain ⟨hdc', hi'⟩ | hd' := (hmem d' i).1 hd'
    · exact hdc.trans hdc'.symm
    · exact absurd (hi ▸ hd') (hfree d')
    · exact absurd (hi' ▸ hd) (hfree d)
    · exact htwo d d' i hd hd'
  · rw [mem_listedSlots]
    by_cases hi : i = e.slot
    · rw [hi, h.taken.1]
      exact iff_of_true ⟨c, (hmem c _).2 (.inl ⟨rfl, rfl⟩)⟩ rfl
    · rw [h.slots i hi, ← hs.held i, mem_listedSlots]
      refine exists_congr fun d => (hmem d i).trans ?_
      simp [hi]
  · rw [hfinal]
    by_cases hi : i = e.slot
    · rw [hi, h.taken.1, hslot.2]; simp
    · rw [h.slots i hi]; exact hf.demand i
  · rw [h.urgent]; exact hf.urgent d

/-- What the checks of the corner ensure of a record that passes them all (R11, R24, R27). -/
theorem refusal_none {k : Corner} {r : DemandRecord} (h : k.refusal r = none) :
    k.state = .run ∧ k.list.length < 8 ∧ (∀ x ∈ k.list, x.sequence ≠ r.sequence) ∧
      (r.timing = .atFrame → 1 ≤ ahead r.target k.frame ∧ ahead r.target k.frame ≤ 64) := by
  unfold Corner.refusal at h
  split at h
  · next hstate =>
    cases hs : k.state with
    | run => exact absurd hs hstate
    | _ => rw [hs] at h; cases h
  next hstate =>
  split at h
  · cases h
  next hsequence =>
  split at h
  · cases h
  next hpast =>
  split at h
  · cases h
  next hearly =>
  split at h
  · cases h
  next hfull =>
  refine ⟨not_not.1 hstate, by omega, fun x hx hxr => ?_, fun hat => ?_⟩
  · exact hsequence (.inr (List.any_eq_true.2 ⟨x, hx, beq_iff_eq.2 hxr⟩))
  · have hahead : ¬isPast r.target k.frame = true := fun h => hpast ⟨hat, h⟩
    rw [isPast_iff] at hahead
    have hnear : ¬65 ≤ ahead r.target k.frame := fun h => hearly ⟨hat, h⟩
    omega

theorem entryOf_window {k : Corner} {r : DemandRecord} (i : SlotId) (sel : ValveSelect) (h : k.refusal r = none) :
    1 ≤ ahead (entryOf i r sel k.frame).target k.frame ∧ ahead (entryOf i r sel k.frame).target k.frame ≤ 64 := by
  obtain ⟨-, -, -, hat⟩ := refusal_none h
  unfold entryOf
  dsimp only
  cases ht : r.timing with
  | atFrame => exact hat ht
  | nextFrame =>
    dsimp only
    rw [ahead_next]
    omega

theorem takeDemand_taken (p : Part) (i : SlotId) (r : DemandRecord) (sel : ValveSelect) :
    EntryTaken p (p.takeDemand i r sel) r.corner (entryOf i r sel (p.corner r.corner).frame) := by
  have hshape : ∃ l x j, p.takeDemand i r sel =
      (((p.setCorner r.corner
        { p.corner r.corner with
          list := insertEntry (p.corner r.corner).frame (entryOf i r sel (p.corner r.corner).frame) l
          lastTaken := some r.sequence, silence := 0 }).setDemand i
          { p.demandSlot i with state := .held, take := x }).offerDemand i).setJournal j ∧
        l = (p.corner r.corner).list := by
    unfold Part.takeDemand Part.queueHigh
    dsimp only
    split
    · exact ⟨_, _, _, rfl, rfl⟩
    · exact ⟨_, _, p.journal, rfl, rfl⟩
  obtain ⟨l, x, j, hshape, rfl⟩ := hshape
  rw [hshape]
  have hcorner (d : CornerId) := corner_setCorner p r.corner d
    { p.corner r.corner with
      list := insertEntry (p.corner r.corner).frame (entryOf i r sel (p.corner r.corner).frame) (p.corner r.corner).list
      lastTaken := some r.sequence, silence := 0 }
  have hslot (k : SlotId) := demandSlot_setDemand p i k { p.demandSlot i with state := .held, take := x }
  refine ⟨fun d hd => ?_, ?_, fun d => ?_, rfl, ?_, fun k hk => ?_, fun _ => rfl, rfl⟩
  · exact congrArg Corner.list ((hcorner d).trans (if_neg hd))
  · exact congrArg Corner.list ((hcorner r.corner).trans (if_pos rfl))
  · show (Part.corner (p.setCorner _ _) d).state = _ ∧ (Part.corner (p.setCorner _ _) d).limpCause = _ ∧
      (Part.corner (p.setCorner _ _) d).hold = _ ∧ (Part.corner (p.setCorner _ _) d).frame = _
    rw [hcorner]
    split
    · next hd => rw [hd]; exact ⟨rfl, rfl, rfl, rfl⟩
    · exact ⟨rfl, rfl, rfl, rfl⟩
  · have := (hslot i).trans (if_pos rfl)
    exact ⟨(congrArg DemandSlot.state this :), (congrArg DemandSlot.final this :)⟩
  · exact (hslot k).trans (if_neg hk)

end Sys2Proof.Machine
end

section
/-! Every step keeps Pending Lists, holds, slots and finals in agreement: every event. -/

namespace Sys2Proof.Machine

variable {p q : Part}

/-- An event that leaves corners, timer, slots and the item in hand alone. -/
theorem WorkOrdered.of_units (corners : q.corners = p.corners) (timer : q.timer = p.timer) (demand : q.demand = p.demand)
    (urgent : q.urgent = p.urgent) (hand : q.engine.hand = p.engine.hand) (hp : WorkOrdered p) : WorkOrdered q :=
  hp.of_same (.of_units corners timer demand urgent hand)

/-! ### Demand slots -/

/-- Slots that are filling or free neither owe a final nor are listed. -/
theorem WorkOrdered.openSlot (hp : WorkOrdered p) {i : SlotId}
    (h : (p.demandSlot i).state = .free ∨ (p.demandSlot i).state = .filling) :
    (p.demandSlot i).state ≠ .held ∧ (p.demandSlot i).final.isSome = false := by
  have hfinal := hp.finals.demand i
  obtain h | h := h <;> rw [h] at hfinal ⊢ <;> simpa using hfinal

theorem WorkOrdered.openUrgent (hp : WorkOrdered p) {c : CornerId}
    (h : (p.urgentSlot c).state = .free ∨ (p.urgentSlot c).state = .filling) :
    (p.urgentSlot c).state ≠ .active ∧ (p.urgentSlot c).final.isSome = false := by
  have hfinal := hp.finals.urgent c
  obtain h | h := h <;> rw [h] at hfinal ⊢ <;> simpa using hfinal

theorem WorkOrdered.stageDemand (hp : WorkOrdered p) (i : SlotId) (w : Nat) (b : Beat) (bad : Lanes) :
    WorkOrdered (p.stageDemand i w b bad) := by
  have same (x : DemandSlot) (hs : x.state = (p.demandSlot i).state) (hf : x.final = (p.demandSlot i).final) :
      WorkOrdered (p.setDemand i x) := hp.of_same (sameWork_setDemand p i x hs hf)
  unfold Part.stageDemand DemandSlot.stage
  cases hs : (p.demandSlot i).state with
  | free =>
    obtain ⟨hheld, hfinal⟩ := hp.openSlot (.inl hs)
    dsimp only
    split
    · exact same _ rfl rfl
    · exact hp.setDemand i _ hheld (by simp) (by simp [hfinal]) (.inr (by simp [hfinal]))
  | filling => exact same _ hs.symm rfl
  | _ => exact same _ rfl rfl

theorem WorkOrdered.refuseDemand (hp : WorkOrdered p) (i : SlotId) (reason : RefusalReason) (f : Frame)
    (hopen : (p.demandSlot i).state ≠ .held) : WorkOrdered (p.refuseDemand i reason f) := by
  have refused := hp.setDemand i { p.demandSlot i with state := .refusing, final := some (.refused reason f) } hopen
    (by simp) (by simp) (.inr fun _ => rfl)
  exact .of_units (p := p.setDemand i _) rfl rfl rfl rfl rfl refused

theorem WorkOrdered.takeDemand (hp : WorkOrdered p) (i : SlotId) (r : DemandRecord) (sel : ValveSelect)
    (hslot : (p.demandSlot i).state ≠ .held ∧ (p.demandSlot i).final.isSome = false)
    (hcorner : (p.corner r.corner).refusal r = none) : WorkOrdered (p.takeDemand i r sel) := by
  obtain ⟨hrun, hroom, hfresh, -⟩ := refusal_none hcorner
  exact hp.taken (takeDemand_taken p i r sel) hrun hroom (entryOf_window i sel hcorner) hfresh hslot

theorem WorkOrdered.closeDemand (hp : WorkOrdered p) (i : SlotId) (cw : ClosingWord) :
    WorkOrdered (p.closeDemand i cw) := by
  have hcaptured : WorkOrdered (p.setDemand i { p.demandSlot i with closing := some cw }) :=
    hp.of_same (sameWork_setDemand p i _ rfl rfl)
  have hslot : (p.setDemand i { p.demandSlot i with closing := some cw }).demandSlot i =
      { p.demandSlot i with closing := some cw } := (demandSlot_setDemand p i i _).trans (if_pos rfl)
  have validated (hopen : (p.demandSlot i).state = .free ∨ (p.demandSlot i).state = .filling) :
      WorkOrdered (p.validateDemand i cw) := by
    obtain ⟨hheld, hfinal⟩ := hp.openSlot hopen
    have refused (reason : RefusalReason) (f : Frame) := hcaptured.refuseDemand i reason f (by rw [hslot]; exact hheld)
    unfold Part.validateDemand
    dsimp only
    split
    · exact refused _ _
    split
    · exact refused _ _
    split
    · exact refused _ _
    split
    · exact refused _ _
    next hcorner => exact hcaptured.takeDemand i _ _ (by rw [hslot]; exact ⟨hheld, hfinal⟩) hcorner
  have busy (e : Event) (f : Frame) : WorkOrdered (p.hand e f) := .of_units (p := p) rfl rfl rfl rfl rfl hp
  unfold Part.closeDemand
  split
  · next hs => exact validated (.inl hs)
  · next hs => exact validated (.inr hs)
  all_goals exact busy _ _

/-! ### Urgent slots -/

theorem WorkOrdered.stageUrgent (hp : WorkOrdered p) (c : CornerId) (w : Nat) (b : Beat) (bad : Lanes) :
    WorkOrdered (p.stageUrgent c w b bad) := by
  have same (x : UrgentSlot) (hs : x.state = (p.urgentSlot c).state) (hf : x.final = (p.urgentSlot c).final) :
      WorkOrdered (p.setUrgent c x) := hp.of_same (sameWork_setUrgent p c x hs hf)
  unfold Part.stageUrgent UrgentSlot.stage
  cases hs : (p.urgentSlot c).state with
  | free =>
    obtain ⟨-, hfinal⟩ := hp.openUrgent (.inl hs)
    dsimp only
    split
    · exact same _ rfl rfl
    · exact hp.setUrgent c _ (by simp [hs]) (by simp [hfinal]) (.inr (by simp [hfinal]))
  | filling => exact same _ hs.symm rfl
  | active => exact same _ hs.symm rfl
  | owed => exact same _ rfl rfl

theorem WorkOrdered.refuseUrgent (hp : WorkOrdered p) (c : CornerId) (reason : RefusalReason) (f : Frame)
    (hopen : (p.urgentSlot c).state ≠ .active) : WorkOrdered (p.refuseUrgent c reason f) := by
  have refused := hp.setUrgent c { p.urgentSlot c with state := .owed, final := some (.refused reason f) }
    (iff_of_false (by simp) hopen) (by simp) (.inr fun _ => rfl)
  exact .of_units (p := p.setUrgent c _) rfl rfl rfl rfl rfl refused

theorem WorkOrdered.offerUrgent (hp : WorkOrdered p) (c : CornerId) : WorkOrdered (p.offerUrgent c) :=
  .of_units (p := p) rfl rfl rfl rfl rfl hp

/-- A hold begun or ended at corner c, with its urgent slot. -/
theorem WorkOrdered.setHold (hp : WorkOrdered p) (c : CornerId) (hold : Option Hold) (n : Nat) (x : UrgentSlot)
    (hrun : hold.isSome = true → (p.corner c).state = .run) (active : x.state = .active ↔ hold.isSome = true)
    (final : x.final.isSome = true ↔ x.state = .owed)
    (still : (p.urgentSlot c).final.isSome = true → x.final.isSome = true) :
    WorkOrdered ((p.setCorner c { p.corner c with hold := hold, silence := n }).setUrgent c x) := by
  let q : Part := (p.setCorner c { p.corner c with hold := hold, silence := n }).setUrgent c x
  have hcorner : q.corner c = { p.corner c with hold := hold, silence := n } := corner_setCorner_self p c _
  have hurgent (d : CornerId) : q.urgentSlot d = if d = c then x else p.urgentSlot d :=
    urgentSlot_setUrgent (p.setCorner c { p.corner c with hold := hold, silence := n }) c d x
  refine hp.of_corner (q := q) (CornerWorked.of_list (q := q) hp (fun d hd => ?_) rfl (fun _ => rfl)
    (by rw [hcorner]) (.inr (by rw [hcorner])) (fun hs => ?_) (fun hs => ?_) ?_ ?_ ?_ ?_ (fun d hd => ?_) rfl)
  · have hother : q.corner d = p.corner d := (corner_setCorner p c d _).trans (if_neg hd)
    rw [hother]
    exact ⟨rfl, rfl, rfl, rfl, rfl⟩
  · rw [hcorner] at hs ⊢
    refine ⟨(hp.corners.idleEmpty c hs).1, ?_⟩
    by_contra hne
    exact hs (hrun (Option.isSome_iff_ne_none.2 hne))
  · rw [hcorner] at hs; exact hp.corners.runsOnFrames c hs
  · rw [hcorner]; exact hp.corners.limpCause c
  · rw [hurgent, if_pos rfl, hcorner]; exact active
  · rw [hurgent, if_pos rfl]; exact final
  · rw [hurgent, if_pos rfl]; exact still
  · rw [hurgent, if_neg hd]

/-- Overrides and ramps are no work of a corner. -/
theorem sameWork_redriven (p : Part) (v : ValveId) (ch : Channel) : SameWork p (p.redriven v ch) :=
  .of_eq (by simp [Part.redriven]) (by simp [Part.redriven]) (by simp [Part.redriven]) (by simp [Part.redriven])
    (by simp [Part.redriven])

theorem WorkOrdered.startOverrides (hp : WorkOrdered p) (c : CornerId) (sel : ValveSelect) (m n : Nat) :
    WorkOrdered (p.startOverrides c sel m n) := by
  have started {p : Part} (hp : WorkOrdered p) (v : ValveId) (u : Nat) : WorkOrdered (p.overrideStart v u) :=
    hp.of_same (sameWork_redriven p v _)
  have hfirst : WorkOrdered (if sel.hasCompression then p.overrideStart (compressionValve c) m else p) := by
    split
    · exact started hp _ _
    · exact hp
  unfold Part.startOverrides
  dsimp only
  split
  · exact started hfirst _ _
  · exact hfirst

theorem WorkOrdered.takeUrgent (hp : WorkOrdered p) (c : CornerId) (r : UrgentRecord) (sel : ValveSelect)
    (hrun : (p.corner c).state = .run) (hfinal : (p.urgentSlot c).final.isSome = false) :
    WorkOrdered (p.takeUrgent c r sel) := by
  have held (take : Option UrgentTake) := hp.setHold c
    (some { sequence := r.sequence, select := sel, left := r.hold, release := r.release }) 0
    { p.urgentSlot c with state := .active, take := take, cancel := Vector.replicate 12 .clear }
    (fun _ => hrun) (by simp) (by simp [hfinal]) (by simp [hfinal])
  exact ((held _).offerUrgent c).startOverrides c sel r.compression r.rebound

theorem WorkOrdered.endHold (hp : WorkOrdered p) (c : CornerId) (d : UrgentFinal) : WorkOrdered (p.endHold c d) := by
  have ended := hp.setHold c none (p.corner c).silence
    { p.urgentSlot c with state := .owed, final := some d, cancel := Vector.replicate 12 .clear }
    nofun (by simp) (by simp) (fun _ => rfl)
  exact .of_units (p := (p.setCorner c { p.corner c with hold := none }).setUrgent c _) rfl rfl rfl rfl rfl ended

/-- Override ends on their way are no work of a corner. -/
theorem sameWork_sendEnds (p : Part) (c : CornerId) (sel : ValveSelect) (e : OverrideEnd) :
    SameWork p (p.sendEnds c sel e) := by
  rw [sendEnds_shape]
  exact .of_units rfl rfl rfl rfl rfl

theorem CornerState.refusal_none {st : CornerState} (h : st.refusal = none) : st = .run := by
  cases st with
  | run => rfl
  | _ => cases h

theorem WorkOrdered.closeUrgent (hp : WorkOrdered p) (c : CornerId) (cw : ClosingWord) :
    WorkOrdered (p.closeUrgent c cw) := by
  have hcaptured : WorkOrdered (p.setUrgent c { p.urgentSlot c with closing := some cw }) :=
    hp.of_same (sameWork_setUrgent p c _ rfl rfl)
  have hslot : (p.setUrgent c { p.urgentSlot c with closing := some cw }).urgentSlot c =
      { p.urgentSlot c with closing := some cw } := (urgentSlot_setUrgent p c c _).trans (if_pos rfl)
  have validated (hopen : (p.urgentSlot c).state = .free ∨ (p.urgentSlot c).state = .filling) :
      WorkOrdered (p.validateUrgent c cw) := by
    obtain ⟨hactive, hfinal⟩ := hp.openUrgent hopen
    have refused (reason : RefusalReason) (f : Frame) := hcaptured.refuseUrgent c reason f (by rw [hslot]; exact hactive)
    unfold Part.validateUrgent
    dsimp only
    split
    · exact refused _ _
    split
    · exact refused _ _
    split
    · exact refused _ _
    split
    · exact refused _ _
    next hrun =>
      exact hcaptured.takeUrgent c _ _ (CornerState.refusal_none hrun) (by rw [hslot]; exact hfinal)
  have busy (e : Event) (f : Frame) : WorkOrdered (p.hand e f) := .of_units (p := p) rfl rfl rfl rfl rfl hp
  unfold Part.closeUrgent
  split
  · next hs => exact validated (.inl hs)
  · next hs => exact validated (.inr hs)
  · unfold Part.closeActive
    split
    · split
      · exact busy _ _
      · exact (hp.endHold c _).of_same (sameWork_sendEnds _ c _ _)
    · exact hp
  · exact busy _ _

/-! ### The Write-Back Engine -/

/-- A list that ends with one word, and has another before it, splits so. -/
theorem last_of_split {α : Type} {l m r : List α} {x y : α} (h : m ++ [y] = l ++ x :: r) : (r = [] ∧ x = y) ∨ x ∈ m := by
  obtain rfl | ⟨r, z, rfl⟩ := List.eq_nil_or_concat' r
  · exact .inl ⟨rfl, (List.append_inj' h rfl).2 |> List.cons.inj |>.1.symm⟩
  · refine .inr ?_
    have hm : m = l ++ x :: r := (List.append_inj' (t₁ := [y]) (t₂ := [z]) (by rw [h]; simp) rfl).1
    rw [hm]
    simp

theorem WorkOrdered.setEngine (hp : WorkOrdered p) (x : Engine) (h : FinalsInHand (p.setEngine x)) :
    WorkOrdered (p.setEngine x) := by
  obtain ⟨hc, hs, hf⟩ := hp
  exact ⟨⟨hc.idleEmpty, hc.runsOnFrames, hc.limpCause, hc.atMostEight, hc.inWindow, hc.sorted, hc.distinct, hc.hold⟩,
    ⟨hs.once, hs.held⟩, ⟨hf.demand, hf.urgent, h.demand, h.urgent⟩⟩

theorem reply_notice {r : Reply} {w : EngineWord} (hw : w ∈ r.words) : w.notice = some .reply := by
  rw [List.mem_singleton.1 hw]

theorem journal_notice {e : JournalEntry} {i : BitVec 7} {w : EngineWord} (hw : w ∈ e.words i) :
    w.notice = none ∨ w.notice = some .journal := by
  simp only [JournalEntry.words, List.mem_cons, List.not_mem_nil, or_false] at hw
  obtain rfl | rfl | rfl | rfl := hw <;> simp

/-- The words that are not of a slot's item publish no final. -/
theorem chosen_words {it : Item} {e : Engine} (h : p.chosen = some (it, e)) :
    (∃ c, it.words = (p.urgentSlot c).words c) ∨ (∃ i, it.words = (p.demandSlot i).words i) ∨
      ∀ w ∈ it.words, (∀ i, w.notice ≠ some (.demandFinal i)) ∧ ∀ c, w.notice ≠ some (.urgentFinal c) := by
  obtain ⟨c, rest, -, rfl, -⟩ | ⟨i, rest, -, rfl, -⟩ | ⟨v, rest, -, rfl, -⟩ | ⟨-, rfl, -⟩ | ⟨entry, rfl, -⟩ |
    ⟨rfl, -⟩ := chosen_cases h
  · exact .inl ⟨c, rfl⟩
  · exact .inr (.inl ⟨i, rfl⟩)
  all_goals refine .inr (.inr fun w hw => ?_)
  · rw [List.mem_singleton.1 hw]; simp
  · revert hw
    cases p.setup.reply with
    | none => exact fun hw => nomatch hw
    | some r => exact fun hw => by rw [reply_notice hw]; simp
  · obtain h | h := journal_notice hw <;> rw [h] <;> simp
  · revert hw
    cases p.analyzer.hand with
    | none => exact fun hw => nomatch hw
    | some t => exact fun hw => by obtain h | h := notice_traceWords t hw <;> rw [h] <;> simp

/-- An item chosen promises a final that its slot owes, as its last word. -/
theorem chosen_finals {it : Item} {e : Engine} (h : p.chosen = some (it, e)) {l r : List EngineWord} {w : EngineWord}
    (hw : it.words = l ++ w :: r) :
    (∀ i, w.notice = some (.demandFinal i) → r = [] ∧ (p.demandSlot i).final.isSome = true) ∧
      ∀ c, w.notice = some (.urgentFinal c) → r = [] ∧ (p.urgentSlot c).final.isSome = true := by
  have hmem : w ∈ it.words := by rw [hw]; simp
  obtain ⟨c, hwords⟩ | ⟨i, hwords⟩ | hnone := chosen_words h
  · refine ⟨fun i hn => ?_, fun d hn => ?_⟩
    · obtain h | h | h := urgentWords_notice (hwords ▸ hmem) <;> (rw [h] at hn; cases hn)
    · obtain ⟨m, hm, heq | ⟨y, hy, hfinal, heq⟩⟩ := urgentWords_split (p.urgentSlot c) c
      · obtain h | h := hm w (heq ▸ hwords ▸ hmem) <;> (rw [h] at hn; cases hn)
      · obtain ⟨hr, rfl⟩ | hin := last_of_split (heq.symm.trans (hwords.symm.trans hw))
        · rw [hy] at hn; cases hn; exact ⟨hr, hfinal⟩
        · obtain h | h := hm w hin <;> (rw [h] at hn; cases hn)
  · refine ⟨fun j hn => ?_, fun c hn => ?_⟩
    · obtain ⟨m, hm, heq | ⟨y, hy, hfinal, heq⟩⟩ := demandWords_split (p.demandSlot i) i
      · obtain h | h := hm w (heq ▸ hwords ▸ hmem) <;> (rw [h] at hn; cases hn)
      · obtain ⟨hr, rfl⟩ | hin := last_of_split (heq.symm.trans (hwords.symm.trans hw))
        · rw [hy] at hn; cases hn; exact ⟨hr, hfinal⟩
        · obtain h | h := hm w hin <;> (rw [h] at hn; cases hn)
    · obtain h | h | h := demandWords_notice (hwords ▸ hmem) <;> (rw [h] at hn; cases hn)
  · exact ⟨fun i hn => absurd hn ((hnone w hmem).1 i), fun c hn => absurd hn ((hnone w hmem).2 c)⟩

theorem WorkOrdered.chooseItem (hp : WorkOrdered p) : WorkOrdered p.chooseItem := by
  obtain hstands | ⟨it, e, -, hchosen, hchoose⟩ := chooseItem_cases p
  · rw [hstands]; exact hp
  · rw [hchoose]
    refine hp.setEngine _ ⟨fun it' l w r i hit hw => ?_, fun it' l w r c hit hw => ?_⟩
    · exact (chosen_finals hchosen ((handOf_eq_some hit).symm.trans hw)).1 i
    · exact (chosen_finals hchosen ((handOf_eq_some hit).symm.trans hw)).2 c

/-- A word granted, with its publish notice at the owner (R151, R153). -/
theorem WorkOrdered.grant (hp : WorkOrdered p) {it : Item} {w : EngineWord} {rest : List EngineWord}
    (hit : p.engine.hand = some it) (hw : it.words = w :: rest) :
    WorkOrdered ((p.setEngine { p.engine with hand := handOf it.kind rest }).publishWord w) := by
  have hgranted : WorkOrdered (p.setEngine { p.engine with hand := handOf it.kind rest }) := by
    refine hp.setEngine _ ⟨fun it' l x r i hit' hx => ?_, fun it' l x r c hit' hx => ?_⟩
    · have hsplit : it.words = (w :: l) ++ x :: r := by rw [hw, ← handOf_eq_some hit', hx]; rfl
      exact hp.finals.demandInHand it _ x r i hit hsplit
    · have hsplit : it.words = (w :: l) ++ x :: r := by rw [hw, ← handOf_eq_some hit', hx]; rfl
      exact hp.finals.urgentInHand it _ x r c hit hsplit
  have hlast (h : rest = []) : (p.setEngine { p.engine with hand := handOf it.kind rest }).engine.hand = none := by
    rw [h]; rfl
  unfold Part.publishWord
  split
  · next n hn =>
    cases n with
    | demandTake i => exact hgranted.of_same (sameWork_setDemand _ i _ rfl rfl)
    | demandFinal i =>
      obtain ⟨hrest, hfinal⟩ := hp.finals.demandInHand it [] w rest i hit hw hn
      have hstate := (hp.finals.demand i).1 hfinal
      refine hgranted.setDemand i _ ?_ (by simp [DemandSlot.freed]) (by simp [DemandSlot.freed]) (.inl (hlast hrest))
      show (p.demandSlot i).state ≠ .held
      obtain h | h := hstate <;> simp [h]
    | urgentTake c => exact hgranted.of_same (sameWork_setUrgent _ c _ rfl rfl)
    | urgentFinal c =>
      obtain ⟨hrest, hfinal⟩ := hp.finals.urgentInHand it [] w rest c hit hw hn
      have hstate : (p.urgentSlot c).state = .owed := (hp.finals.urgent c).1 hfinal
      refine hgranted.setUrgent c _ (iff_of_false (by simp [UrgentSlot.freed]) ?_) (by simp [UrgentSlot.freed])
        (.inl (hlast hrest))
      show (p.urgentSlot c).state ≠ .active
      simp [hstate]
    | mapResult v => exact .of_units (p := p.setEngine _) rfl rfl rfl rfl rfl hgranted
    | reply => exact .of_units (p := p.setEngine _) rfl rfl rfl rfl rfl hgranted
    | journal => exact .of_units (p := p.setEngine _) rfl rfl rfl rfl rfl hgranted
    | trace =>
      show WorkOrdered (Part.publishTrace _)
      unfold Part.publishTrace
      dsimp only
      split <;> exact .of_units (p := p.setEngine _) rfl rfl rfl rfl rfl hgranted
  · exact hgranted

end Sys2Proof.Machine
end

section
/-! Every step keeps Pending Lists, holds, slots and finals in agreement: RESTART, and the development's end. -/

namespace Sys2Proof.Machine

variable {p q : Part}

/-! ### RESTART -/

/-- What a corner's flush at RESTART leaves of slots and engine (R19, R55): what leaving its work would leave. -/
theorem restartFlush_slots (p : Part) (c : CornerId) :
    (∀ i, (p.restartFlush c).demandSlot i =
      flushedSlots (p.corner c).list .restart (p.corner c).frame p.demandSlot i) ∧
    (∀ d, (p.restartFlush c).urgentSlot d =
      if d = c then flushedUrgent (p.corner c).hold .restart (p.corner c).frame (p.urgentSlot c) else p.urgentSlot d) ∧
    (p.restartFlush c).engine =
      { p.engine with
        demand := (p.corner c).list.foldl (fun l e => offered l e.slot) p.engine.demand
        urgent := if (p.corner c).hold.isSome = true then offered p.engine.urgent c else p.engine.urgent } := by
  obtain ⟨hdemand, hurgent, hengine⟩ := leaveRun_slots p c .restart
  refine ⟨fun i => ?_, fun d => ?_, ?_⟩
  · rw [← hdemand i]; simp [Part.leaveRun, Part.restartFlush]
  · rw [← hurgent d]; simp [Part.leaveRun, Part.restartFlush]
  · rw [← hengine]; simp [Part.leaveRun, Part.restartFlush]

theorem WorkOrdered.restartFlush (hp : WorkOrdered p) (c : CornerId) : WorkOrdered (p.restartFlush c) := by
  obtain ⟨hdemand, hurgent, hengine⟩ := restartFlush_slots p c
  have hstate : ((p.restartFlush c).corner c).state = (p.corner c).state := by simp [Part.restartFlush]
  refine hp.flushed (c := c) ⟨fun d hd => ?_, ?_, ?_, fun hr => ?_, ?_, ⟨_, _, hdemand⟩, ⟨_, _, hurgent⟩, by rw [hengine]⟩
  · simp [Part.restartFlush, hd]
  · simp [Part.restartFlush]
  · simp [Part.restartFlush]
  · exact hp.corners.runsOnFrames c (hstate ▸ hr)
  · rw [hstate, show ((p.restartFlush c).corner c).limpCause = (p.corner c).limpCause by simp [Part.restartFlush]]
    exact hp.corners.limpCause c

/-- After all the flushes no corner has work left. -/
theorem restartFlushes_empty (l : List CornerId) (c : CornerId) :
    ∀ {p : Part}, c ∈ l ∨ ((p.corner c).list = [] ∧ (p.corner c).hold = none) →
      ((l.foldl Part.restartFlush p).corner c).list = [] ∧ ((l.foldl Part.restartFlush p).corner c).hold = none := by
  induction l with
  | nil => exact fun h => h.resolve_left (by simp)
  | cons d l ih =>
    intro p h
    refine ih ?_
    by_cases hd : c = d
    · exact .inr (by simp [Part.restartFlush, hd])
    · simpa [Part.restartFlush, hd] using h

/-- Slots after the flushes, when nothing is listed and no hold is in force (R19, R55). -/
theorem WorkOrdered.restarted (hq : WorkOrdered q) (hempty : ∀ c, (q.corner c).list = [] ∧ (q.corner c).hold = none)
    {safe : Bool} (corners : ∀ c, p.corner c = Corner.restarted safe)
    (demand : ∀ i, p.demandSlot i = (q.demandSlot i).restarted) (urgent : ∀ c, p.urgentSlot c = (q.urgentSlot c).restarted)
    (hand : p.engine.hand = q.engine.hand ∨ p.engine.hand = none) : WorkOrdered p := by
  have hlist (c : CornerId) : (Corner.restarted safe).list = [] ∧ (Corner.restarted safe).hold = none ∧
      (Corner.restarted safe).limpCause = .none ∧ (Corner.restarted safe).state ≠ .run ∧
      (Corner.restarted safe).state ≠ .limp := by
    cases safe <;> simp [Corner.restarted, Corner.reset]
  have hnoList (c : CornerId) : p.slotsOf c = [] := by rw [Part.slotsOf, corners, (hlist c).1]; rfl
  have hheld (i : SlotId) : (q.demandSlot i).state ≠ .held := fun hi => by
    obtain ⟨c, hc⟩ := mem_listedSlots.1 ((hq.slots.held i).2 hi)
    rw [Part.slotsOf, (hempty c).1] at hc
    cases hc
  have hactive (c : CornerId) : (q.urgentSlot c).state ≠ .active := fun hc => by
    have := (hq.corners.hold c).1 hc
    rw [(hempty c).2] at this
    cases this
  have hdemand (i : SlotId) : (p.demandSlot i).final = (q.demandSlot i).final ∧ (p.demandSlot i).state ≠ .held ∧
      ((p.demandSlot i).state = .retiring ∨ (p.demandSlot i).state = .refusing ↔
        (q.demandSlot i).state = .retiring ∨ (q.demandSlot i).state = .refusing) := by
    rw [demand, DemandSlot.restarted]
    split
    · next hs => simp [hs]
    · exact ⟨rfl, hheld i, Iff.rfl⟩
  have hurgent (c : CornerId) : (p.urgentSlot c).final = (q.urgentSlot c).final ∧ (p.urgentSlot c).state ≠ .active ∧
      ((p.urgentSlot c).state = .owed ↔ (q.urgentSlot c).state = .owed) := by
    rw [urgent, UrgentSlot.restarted]
    split
    · next hs => simp [hs]
    · exact ⟨rfl, hactive c, Iff.rfl⟩
  have hinHand : FinalsInHand p := hq.finals.inHand.of_le hand (fun i hi => by rw [(hdemand i).1]; exact hi)
    (fun c hc => by rw [(hurgent c).1]; exact hc)
  refine ⟨⟨fun c _ => ?_, fun c hr => ?_, fun c => ?_, fun c => ?_, fun c => ?_, fun c => ?_, fun c => ?_, fun c => ?_⟩,
    ⟨?_, fun i => ?_⟩, ⟨fun i => ?_, fun c => ?_, hinHand.demand, hinHand.urgent⟩⟩
  · rw [corners]; exact ⟨(hlist c).1, (hlist c).2.1⟩
  · rw [corners] at hr; exact absurd hr (hlist c).2.2.2.1
  · rw [corners]; exact iff_of_true (hlist c).2.2.1 (hlist c).2.2.2.2
  · rw [corners, (hlist c).1]; simp
  · rw [corners, (hlist c).1]; nofun
  · rw [corners, (hlist c).1]; exact .nil
  · rw [corners, (hlist c).1]; exact List.nodup_nil
  · rw [corners, (hlist c).2.1]; exact iff_of_false (hurgent c).2.1 (by simp)
  · refine nodup_listedSlots_iff.2 ⟨fun c => by rw [hnoList]; exact List.nodup_nil, fun c d i hi => ?_⟩
    rw [hnoList] at hi
    cases hi
  · refine iff_of_false (fun hi => ?_) (hdemand i).2.1
    obtain ⟨c, hc⟩ := mem_listedSlots.1 hi
    rw [hnoList] at hc
    cases hc
  · rw [(hdemand i).1, (hdemand i).2.2]; exact hq.finals.demand i
  · rw [(hurgent c).1, (hurgent c).2.2]; exact hq.finals.urgent c

theorem WorkOrdered.restart (hp : WorkOrdered p) (order : List Nat) : WorkOrdered (p.restart order) := by
  have hflushed : WorkOrdered ((arrange order allCorners).foldl Part.restartFlush p) :=
    Part.Atoms.foldl_keeps (fun _ c hp => hp.restartFlush c) _ hp
  have hmem (c : CornerId) : c ∈ arrange order allCorners := (arrange_perm order allCorners).mem_iff.2 (mem_allCorners c)
  refine hflushed.restarted (fun c => restartFlushes_empty _ c (.inl (hmem c))) (restart_corner p order) (fun i => ?_)
    (fun c => ?_) ?_
  · unfold Part.restart Part.demandSlot
    dsimp only
    exact Vector.getElem_map _ _
  · unfold Part.restart Part.urgentSlot
    dsimp only
    exact Vector.getElem_map _ _
  · show (Engine.restarted _).hand = _ ∨ _
    unfold Part.restart Engine.restarted
    dsimp only
    split
    · next it hit =>
      split
      · exact .inr rfl
      · exact .inl hit.symm
    · exact .inr rfl

theorem workOrdered_released (region : BitVec 4) (psense : ParitySense) (safe : Bool) (dflt : BitVec 8) (n : Nat) :
    WorkOrdered (Part.released region psense safe dflt n) := by
  have hreset : WorkOrdered Part.reset := by
    refine ⟨⟨by decide, by decide, by decide, by decide, by decide, by decide, by decide, by decide⟩,
      ⟨by decide, fun i => ?_⟩, ⟨fun i => ?_, by decide, nofun, nofun⟩⟩
    · simp [Part.listedSlots, Part.reset, Part.corner, Part.demandSlot, Corner.reset, DemandSlot.reset, allCorners]
    · simp [Part.reset, Part.demandSlot, DemandSlot.reset]
  refine hreset.restarted (fun c => ?_) (released_corner region psense safe dflt n) (fun i => ?_) (fun c => ?_) (.inl rfl)
  · revert c; decide
  · simp [Part.released, Part.reset, Part.demandSlot, DemandSlot.restarted, DemandSlot.reset]
  · simp [Part.released, Part.reset, Part.urgentSlot, UrgentSlot.restarted, UrgentSlot.reset]

/-! ### Channels that stop -/

theorem sameWork_stopChannel (p : Part) (v : ValveId) (entered : ChannelState) (h : entered.isTrack = false) :
    SameWork p (p.stopChannel v entered) := by
  have hstop := stopChannel_stopped p v entered h
  obtain ⟨-, -, hdemand, hurgent, htimer, -⟩ := hstop.elsewhere
  have hcorner (c : CornerId) : ((p.stopChannel v entered).corner c) =
      { p.corner c with ready := ((p.stopChannel v entered).corner c).ready } := by
    by_cases hc : c = cornerOf v
    · rw [hc, hstop.corner]
    · rw [hstop.otherCorners c hc]
  refine ⟨fun c => by rw [hcorner], fun c => by rw [hcorner], fun c => by rw [hcorner], fun c => by rw [hcorner],
    fun c => by rw [hcorner], by rw [htimer]; exact id, fun i => ?_, fun c => ?_, ?_⟩
  · unfold Part.demandSlot; rw [hdemand]; exact ⟨rfl, rfl⟩
  · unfold Part.urgentSlot; rw [hurgent]; exact ⟨rfl, rfl⟩
  · rw [hstop.owed]; split <;> rfl

theorem sameWork_enterTrack (p : Part) (v : ValveId) : SameWork p (p.enterTrack v) := by
  constructor <;> simp [Part.enterTrack]

theorem sameWork_recomputeIn (p : Part) (v : ValveId) (x : Heat) (l : ThermalLevel) :
    SameWork p ((p.setHeat v x).recomputeIn v l) := by
  unfold Part.recomputeIn
  split
  · exact sameWork_redriven p v _
  · exact .of_units rfl rfl rfl rfl rfl

theorem sameWork_setTimer (p : Part) (x : Timer) (h : p.timer.running = true → x.running = true) :
    SameWork p (p.setTimer x) :=
  ⟨fun _ => rfl, fun _ => rfl, fun _ => rfl, fun _ => rfl, fun _ => rfl, h, fun _ => ⟨rfl, rfl⟩, fun _ => ⟨rfl, rfl⟩, rfl⟩

theorem isTrack_of_off {st : ChannelState} (h : st.isOffOrFault = true) : st.isTrack = false := by
  cases st with
  | track => cases h
  | _ => rfl

/-! ### Every event -/

/-- The work is made of the small events, of the captures at the slots and of the grants. -/
theorem workOrdered_atoms : Part.Atoms WorkOrdered where
  bridge _ := .of_units rfl rfl rfl rfl rfl
  port _ := .of_units rfl rfl rfl rfl rfl
  waitCount _ := .of_units rfl rfl rfl rfl rfl
  fresh _ := .of_units rfl rfl rfl rfl rfl
  hand _ _ := .of_units rfl rfl rfl rfl rfl
  engine _ hhand _ := .of_units rfl rfl rfl rfl hhand
  pairing _ := .of_units rfl rfl rfl rfl rfl
  dflt _ := .of_units rfl rfl rfl rfl rfl
  period _ hp := hp.of_same (sameWork_setTimer _ _ id)
  start hp := hp.of_same (sameWork_setTimer _ _ fun _ => rfl)
  frame _ hp := hp.of_same (sameWork_setTimer _ _ id)
  corner c k hk hp := hp.of_same (sameWork_setCorner _ c k hk.state hk.limpCause hk.list hk.hold hk.frame)
  watermarks c _ _ _ _ hp := hp.of_same (sameWork_setCorner _ c _ rfl rfl rfl rfl rfl)
  dryRun c _ _ hp := hp.of_same (sameWork_setCorner _ c _ rfl rfl rfl rfl rfl)
  enterLimp c d f _ hp := hp.enterLimp c d f
  enterIdle c _ hp := hp.enterIdle c
  enterRun c hrunning _ hstate hp := hp.enterRun c hrunning hstate
  channel _ _ _ := .of_units rfl rfl rfl rfl rfl
  redriven v ch _ hp := hp.of_same (sameWork_redriven _ v ch)
  stop v entered hentered hp := hp.of_same (sameWork_stopChannel _ v entered (isTrack_of_off hentered))
  clearFault _ _ := .of_units rfl rfl rfl rfl rfl
  enterPrepare _ _ _ _ _ := .of_units rfl rfl rfl rfl rfl
  prepare _ _ _ _ := .of_units rfl rfl rfl rfl rfl
  enterWaiting {p} v _ hp :=
    .of_units (p := p.stopChannel v (.tune .waiting)) rfl rfl rfl rfl rfl
      (hp.of_same (sameWork_stopChannel p v (.tune .waiting) rfl))
  enterTrack v _ _ _ hp := hp.of_same (sameWork_enterTrack _ v)
  analyzer _ _ _ := .of_units rfl rfl rfl rfl rfl
  startSearch _ _ _ _ := .of_units rfl rfl rfl rfl rfl
  stepTrial _ _ := .of_units rfl rfl rfl rfl rfl
  nextTrial _ _ _ := .of_units rfl rfl rfl rfl rfl
  searchTuned {p} s g _ hp := by
    have htuned : WorkOrdered ((p.setAnalyzer { p.analyzer with state := .idle }).setChannel s.valve
        { p.channel s.valve with tunedGain := some g }) := .of_units (p := p) rfl rfl rfl rfl rfl hp
    exact htuned.of_same (sameWork_enterTrack _ s.valve)
  searchFailed {p} s _ hp := by
    have hidle : WorkOrdered (p.setAnalyzer { p.analyzer with state := .idle }) :=
      .of_units (p := p) rfl rfl rfl rfl rfl hp
    exact hidle.of_same (sameWork_stopChannel _ s.valve _ rfl)
  level v _ hp := hp.of_same (sameWork_redriven _ v _)
  heatIndex _ _ := .of_units rfl rfl rfl rfl rfl
  warmLevel _ _ _ := .of_units rfl rfl rfl rfl rfl
  hotLevel _ _ _ _ := .of_units rfl rfl rfl rfl rfl
  warmCeiling v _ _ _ hp := hp.of_same (sameWork_recomputeIn _ v _ .warm)
  hotCeiling v _ _ hp := hp.of_same (sameWork_recomputeIn _ v _ .hot)
  promote v _ hp :=
    hp.of_same (.of_eq (by simp [Part.promote]) (by simp [Part.promote]) (by simp [Part.promote])
      (by simp [Part.promote]) (by simp [Part.promote]))
  readyMode _ := .of_units rfl rfl rfl rfl rfl
  attnThreshold _ := .of_units rfl rfl rfl rfl rfl

theorem workOrdered_judging : Part.Judging WorkOrdered where
  hand := workOrdered_atoms.hand
  setup _ _ _ := .of_units rfl rfl rfl rfl rfl
  offerReply := .of_units rfl rfl rfl rfl rfl
  judge k n order t hn hp := workOrdered_atoms.judgeOwner k n order t hn (fun _ => hp.restart order) hp

theorem WorkOrdered.closeMap (hp : WorkOrdered p) (v : ValveId) (cw : ClosingWord) : WorkOrdered (p.closeMap v cw) := by
  unfold Part.closeMap
  dsimp only
  split <;> exact .of_units (p := p) rfl rfl rfl rfl rfl hp

theorem WorkOrdered.safeBlock (hp : WorkOrdered p) (b : CornerId ⊕ ValveId) : WorkOrdered (p.safeBlock b) := by
  cases b with
  | inl c => exact hp.enterSafe c
  | inr v =>
    show WorkOrdered (p.safeChannel v)
    unfold Part.safeChannel
    split
    · exact hp
    · exact .of_units (p := p.stopChannel v .off) rfl rfl rfl rfl rfl (hp.of_same (sameWork_stopChannel p v .off rfl))

theorem workOrdered_kept : Part.Kept WorkOrdered where
  bridge := workOrdered_atoms.bridge
  port := workOrdered_atoms.port
  waitCount := workOrdered_atoms.waitCount
  fresh := workOrdered_atoms.fresh
  hand := workOrdered_atoms.hand
  chooseItem hp := hp.chooseItem
  grant hp hit hw := hp.grant hit hw
  stageDemand i w b bad hp := hp.stageDemand i w b bad
  closeDemand i cw hp := hp.closeDemand i cw
  stageUrgent c w b bad hp := hp.stageUrgent c w b bad
  closeUrgent c cw hp := hp.closeUrgent c cw
  stageMap _ _ _ _ := .of_units rfl rfl rfl rfl rfl
  closeMap v cw hp := hp.closeMap v cw
  judgeNext := workOrdered_judging.judgeNext
  receiveCommand := workOrdered_judging.receiveCommand
  consume _ := .of_units rfl rfl rfl rfl rfl
  released region psense safe dflt _ := workOrdered_released region psense safe dflt _
  safeAsserted {p} _ _ hp :=
    Part.Atoms.foldl_keeps (fun _ b hp => hp.safeBlock b) _ (.of_units (p := p) rfl rfl rfl rfl rfl hp)
  safeReleased {p} _ _ hp :=
    Part.Atoms.foldl_keeps (fun _ c hp => hp.exitSafe c) _ (.of_units (p := p) rfl rfl rfl rfl rfl hp)
  driverChange := workOrdered_atoms.driverChange
  frame _ := workOrdered_atoms.frame _
  cornerBoundary c hdue hp := hp.cornerBoundary c hdue
  partnerNotice := workOrdered_atoms.takePartnerNotice
  channelBoundary := workOrdered_atoms.channelBoundary
  rampRequest := workOrdered_atoms.nextRampRequest
  overrideEnd := workOrdered_atoms.nextOverrideEnd
  sample := workOrdered_atoms.takeSample
  prepareTimeout v _ := workOrdered_atoms.enterFault v _ _
  prepareEnd := workOrdered_atoms.endPrepare
  settleMiss v _ := workOrdered_atoms.settleMiss v
  heatUpdate := workOrdered_atoms.heatUpdate
  look := workOrdered_atoms.look
  stepTrial s hs := workOrdered_atoms.stepTrial_keeps s (Part.Atoms.preDriveEnds_searching hs)

/-- Settles O58: lists, holds, slots and finals together are kept by every event that a step is made of. -/
theorem everyStepKeepsTheLists : Obligations.EveryStepKeepsTheLists := by
  intro s t hcorners hslots hfinals hstep
  obtain ⟨hcorners', hslots', hfinals'⟩ := workOrdered_kept.step ⟨hcorners, hslots, hfinals⟩ hstep
  exact ⟨hcorners', hslots', hfinals'⟩

end Sys2Proof.Machine
end

section
/-! RESTART (R19, R55, R57, R106, R129, R139, R154, R159). -/

namespace Sys2Proof.Machine

/-! ### The corners' flushes -/

/-- A list of entries retired changes demand slots and the engine alone. -/
theorem retireAll_shape (cause : FlushCause) (f : Frame) (l : List Entry) (p : Part) :
    ∃ D E, p.retireAll cause f l = { p with demand := D, engine := E } := by
  induction l generalizing p with
  | nil => exact ⟨p.demand, p.engine, rfl⟩
  | cons e l ih =>
    obtain ⟨D, E, h⟩ := ih (p.retire e.slot (.flushed cause f))
    exact ⟨D, E, h⟩

theorem restartFlush_shape (p : Part) (c : CornerId) :
    ∃ D U C E, p.restartFlush c = { p with demand := D, urgent := U, corners := C, engine := E } := by
  obtain ⟨D, E, h⟩ := retireAll_shape .restart (p.corner c).frame (p.corner c).list
    (p.setCorner c { p.corner c with list := [] })
  have hlist : p.flushList c .restart = _ := h
  unfold Part.restartFlush Part.flushHold
  rw [hlist]
  split
  · exact ⟨_, _, _, _, rfl⟩
  · exact ⟨_, p.urgent, _, _, rfl⟩

theorem restartFlushes_shape (l : List CornerId) (p : Part) :
    ∃ D U C E, l.foldl Part.restartFlush p = { p with demand := D, urgent := U, corners := C, engine := E } := by
  induction l generalizing p with
  | nil => exact ⟨p.demand, p.urgent, p.corners, p.engine, rfl⟩
  | cons c l ih =>
    obtain ⟨D, U, C, E, h⟩ := restartFlush_shape p c
    obtain ⟨D', U', C', E', h'⟩ := ih (p.restartFlush c)
    refine ⟨D', U', C', E', ?_⟩
    rw [List.foldl_cons, h', h]

theorem restartFlush_other (p : Part) {c d : CornerId} (h : d ≠ c) :
    ((p.restartFlush c).corner d).list = (p.corner d).list ∧ ((p.restartFlush c).corner d).hold = (p.corner d).hold ∧
      ((p.restartFlush c).corner d).frame = (p.corner d).frame := by
  simp [Part.restartFlush, h]

/-- What the flush of one corner's work leaves of slots and engine (R53), whatever else the step does. -/
structure CornerFlushed (cause : FlushCause) (c : CornerId) (p q : Part) : Prop where
  slots : ∀ i, q.demandSlot i = flushedSlots (p.corner c).list cause (p.corner c).frame p.demandSlot i
  urgent : ∀ d, q.urgentSlot d =
    if d = c then flushedUrgent (p.corner c).hold cause (p.corner c).frame (p.urgentSlot c) else p.urgentSlot d
  demandClass : q.engine.demand = (p.corner c).list.foldl (fun m e => offered m e.slot) p.engine.demand
  urgentClass : q.engine.urgent = if (p.corner c).hold.isSome = true then offered p.engine.urgent c else p.engine.urgent
  others : ∀ d, d ≠ c → (q.corner d).list = (p.corner d).list ∧ (q.corner d).hold = (p.corner d).hold ∧
    (q.corner d).frame = (p.corner d).frame

/-- What the flushes of the corners of l leave of slots and engine. -/
structure CornersFlushed (cause : FlushCause) (l : List CornerId) (p q : Part) : Prop where
  retired : ∀ c ∈ l, ∀ e ∈ (p.corner c).list, (∀ d ∈ l, d ≠ c → e.slot ∉ p.slotsOf d) →
    q.demandSlot e.slot =
      { p.demandSlot e.slot with state := .retiring, final := some (.flushed cause (p.corner c).frame) }
  slots : ∀ i, (∀ c ∈ l, i ∉ p.slotsOf c) → q.demandSlot i = p.demandSlot i
  urgent : ∀ c ∈ l,
    q.urgentSlot c = flushedUrgent (p.corner c).hold cause (p.corner c).frame (p.urgentSlot c)
  others : ∀ c, c ∉ l → q.urgentSlot c = p.urgentSlot c
  demandClass : q.engine.demand =
    l.foldl (fun m c => (p.corner c).list.foldl (fun m e => offered m e.slot) m) p.engine.demand
  urgentClass : q.engine.urgent =
    l.foldl (fun m c => if (p.corner c).hold.isSome = true then offered m c else m) p.engine.urgent

theorem foldl_congr_mem {α β : Type} {f g : β → α → β} {l : List α} (h : ∀ b, ∀ a ∈ l, f b a = g b a) (b : β) :
    l.foldl f b = l.foldl g b := by
  induction l generalizing b with
  | nil => rfl
  | cons a l ih =>
    rw [List.foldl_cons, List.foldl_cons, h b a List.mem_cons_self]
    exact ih (fun b x hx => h b x (List.mem_cons_of_mem a hx)) _

/-- One corner's flush and then those of the corners of l. -/
theorem CornersFlushed.cons {cause : FlushCause} {c : CornerId} {l : List CornerId} {p r q : Part} (hc : c ∉ l)
    (hstep : CornerFlushed cause c p r) (h : CornersFlushed cause l r q) : CornersFlushed cause (c :: l) p q := by
  have hne {d : CornerId} (hd : d ∈ l) : d ≠ c := fun heq => hc (heq ▸ hd)
  have hlist {d : CornerId} (hd : d ∈ l) : (r.corner d).list = (p.corner d).list := (hstep.others d (hne hd)).1
  have hhold {d : CornerId} (hd : d ∈ l) : (r.corner d).hold = (p.corner d).hold := (hstep.others d (hne hd)).2.1
  have hframe {d : CornerId} (hd : d ∈ l) : (r.corner d).frame = (p.corner d).frame := (hstep.others d (hne hd)).2.2
  have hslots {d : CornerId} (hd : d ∈ l) : r.slotsOf d = p.slotsOf d := by rw [Part.slotsOf, hlist hd]; rfl
  have hstands {i : SlotId} (hi : i ∉ p.slotsOf c) : r.demandSlot i = p.demandSlot i := by
    rw [hstep.slots, flushedSlots, if_neg fun hany => hi (mem_slotsOf_iff.2 hany)]
  refine ⟨fun d hd e he hapart => ?_, fun i hi => ?_, fun d hd => ?_, fun d hd => ?_, ?_, ?_⟩
  · obtain rfl | hd := List.mem_cons.1 hd
    · rw [h.slots e.slot fun x hx => by
        rw [hslots hx]; exact hapart x (List.mem_cons_of_mem d hx) (hne hx)]
      rw [hstep.slots, flushedSlots, if_pos]
      exact List.any_eq_true.2 ⟨e, he, beq_self_eq_true _⟩
    · have hkept := h.retired d hd e (by rw [hlist hd]; exact he) fun x hx hxd => by
        rw [hslots hx]; exact hapart x (List.mem_cons_of_mem c hx) hxd
      rw [hkept, hstands (hapart c List.mem_cons_self (hne hd).symm), hframe hd]
  · rw [h.slots i fun x hx => by rw [hslots hx]; exact hi x (List.mem_cons_of_mem c hx)]
    exact hstands (hi c List.mem_cons_self)
  · obtain rfl | hd := List.mem_cons.1 hd
    · rw [h.others d hc, hstep.urgent, if_pos rfl]
    · rw [h.urgent d hd, hstep.urgent, if_neg (hne hd), hhold hd, hframe hd]
  · obtain ⟨hdc, hdl⟩ := not_or.1 (hd ∘ List.mem_cons.2)
    rw [h.others d hdl, hstep.urgent, if_neg hdc]
  · rw [h.demandClass, hstep.demandClass, List.foldl_cons]
    exact foldl_congr_mem (fun m d hd => by rw [hlist hd]) _
  · rw [h.urgentClass, hstep.urgentClass, List.foldl_cons]
    exact foldl_congr_mem (fun m d hd => by rw [hhold hd]) _

theorem restartFlush_flushed (p : Part) (c : CornerId) : CornerFlushed .restart c p (p.restartFlush c) := by
  obtain ⟨hdemand, hurgent, hengine⟩ := restartFlush_slots p c
  exact ⟨hdemand, hurgent, by rw [hengine], by rw [hengine], fun _ => restartFlush_other p⟩

theorem restartFlushes_flushed {l : List CornerId} (hl : l.Nodup) (p : Part) :
    CornersFlushed .restart l p (l.foldl Part.restartFlush p) := by
  induction l generalizing p with
  | nil => exact ⟨nofun, fun _ _ => rfl, nofun, fun _ _ => rfl, rfl, rfl⟩
  | cons c l ih =>
    obtain ⟨hc, hl⟩ := List.nodup_cons.1 hl
    exact .cons hc (restartFlush_flushed p c) (ih hl (p.restartFlush c))

/-- The flushes put finals in the two slot classes and leave the engine's other classes. -/
theorem restartFlushes_engine (l : List CornerId) (p : Part) :
    (l.foldl Part.restartFlush p).engine =
      { p.engine with
        demand := (l.foldl Part.restartFlush p).engine.demand, urgent := (l.foldl Part.restartFlush p).engine.urgent } := by
  induction l generalizing p with
  | nil => rfl
  | cons c l ih =>
    rw [List.foldl_cons, ih, (restartFlush_slots p c).2.2]

/-! ### RESTART -/

theorem judgeTarget_restart (p : Part) (n : Nat) (order : List Nat) :
    p.judgeTarget .restart n order 0 = (p.restart order, none) := rfl

theorem restarted_retiring (d : DemandSlot) (f : DemandFinal) :
    DemandSlot.restarted { d with state := .retiring, final := some f } =
      { d with state := .retiring, final := some f } := rfl

theorem restarted_flushedUrgent (h : Hold) (cause : FlushCause) (f : Frame) (u : UrgentSlot) :
    (flushedUrgent (some h) cause f u).restarted = flushedUrgent (some h) cause f u := rfl

theorem demandSlot_restart (p : Part) (order : List Nat) (i : SlotId) :
    (p.restart order).demandSlot i =
      (((arrange order allCorners).foldl Part.restartFlush p).demandSlot i).restarted := by
  unfold Part.restart Part.demandSlot
  dsimp only
  exact Vector.getElem_map _ _

theorem urgentSlot_restart (p : Part) (order : List Nat) (c : CornerId) :
    (p.restart order).urgentSlot c =
      (((arrange order allCorners).foldl Part.restartFlush p).urgentSlot c).restarted := by
  unfold Part.restart Part.urgentSlot
  dsimp only
  exact Vector.getElem_map _ _

theorem channelRestarted_eq (ch : Channel) :
    ch.restarted =
      { Channel.reset with
        state := match ch.state with
          | .fault x => .fault x
          | .off => .off
          | .prepare _ => .off
          | .tune _ => .off
          | .track => .off
        tunedGain := ch.tunedGain
        measured := ch.measured
        heat := { Channel.reset.heat with index := ch.heat.index, level := ch.heat.level } } := by
  unfold Channel.restarted
  cases ch.state <;> rfl

/-- What RESTART drops of the item in hand (R154). -/
theorem engineRestarted_eq (e : Engine) :
    e.restarted =
      { e with
        trace := false
        hand := e.hand.bind fun it => if it.kind = .journal ∨ it.kind = .trace then none else some it } := by
  unfold Engine.restarted
  cases e.hand with
  | none => rfl
  | some it =>
    dsimp only [Option.bind_some]
    cases it.kind <;> simp [ItemKind.dropped]

theorem journalRestarted_eq : Journal.restarted = ⟨[⟨.restart, 0, 0, 0⟩], 0, 0, 0, 1, none, 1, false⟩ := by decide

/-- Outside the slots, the engine, the corners and the channels. -/
theorem restart_shape (p : Part) (order : List Nat) :
    p.restart order =
      { p with
        demand := (p.restart order).demand, urgent := (p.restart order).urgent, engine := (p.restart order).engine
        corners := (p.restart order).corners, channels := (p.restart order).channels
        timer := ⟨false, 0, 2⟩
        pairing := true
        analyzer := ⟨.idle, [], [], .idle, none⟩
        setup := { p.setup with readyMode := .all, attnThreshold := 1 }
        journal := ⟨[⟨.restart, 0, 0, 0⟩], 0, 0, 0, 1, none, 1, false⟩
        lines := { p.lines with reported := (p.restart order).lines.reported, mode := .all, ready := false } } := by
  obtain ⟨D, U, C, E, h⟩ := restartFlushes_shape (arrange order allCorners) p
  rw [← journalRestarted_eq]
  unfold Part.restart
  dsimp only
  rw [h]
  rfl

/-- Settles O35. -/
theorem restart : Obligations.Restart := by
  unfold Obligations.Restart
  intro w s hhears p order
  have hperm : order.Perm allCorners := arrange_perm w.order allCorners
  have hnodup : order.Nodup := hperm.nodup_iff.2 (by decide)
  have hmem (c : CornerId) : c ∈ order := hperm.mem_iff.2 (mem_allCorners c)
  have hflushed : CornersFlushed .restart order p (order.foldl Part.restartFlush p) := restartFlushes_flushed hnodup p
  refine ⟨hperm, p.restart w.order, ?_, fun honce c e he => ?_, fun i hi => ?_, fun c hc => ?_, fun c hc => ?_, ?_,
    fun c => ?_, fun v => ?_, fun c => ?_, restart_shape p w.order⟩
  · exact exec_judged_global (x := none) rfl hhears (atOnce_restart _ _) rfl rfl (judgeTarget_restart _ _ _)
  · obtain ⟨-, hapart⟩ := nodup_listedSlots_iff.1 honce
    rw [demandSlot_restart, hflushed.retired c (hmem c) e he fun d _ hd hin =>
      hd (hapart d c e.slot hin (List.mem_map.2 ⟨e, he, rfl⟩))]
    exact restarted_retiring _ _
  · rw [demandSlot_restart, hflushed.slots i fun c _ hc => hi (mem_listedSlots.2 ⟨c, hc⟩)]
    rfl
  · obtain ⟨h, hh⟩ := Option.isSome_iff_exists.1 hc
    rw [urgentSlot_restart, hflushed.urgent c (hmem c), hh]
    exact restarted_flushedUrgent _ _ _ _
  · rw [urgentSlot_restart, hflushed.urgent c (hmem c), hc]
    rfl
  · have hengine : (p.restart w.order).engine = (order.foldl Part.restartFlush p).engine.restarted := rfl
    rw [hengine, engineRestarted_eq, restartFlushes_engine, hflushed.demandClass, hflushed.urgentClass]
  · rw [restart_corner, reset_corner, Corner.restarted]
  · rw [restart_channel, reset_channel]
    exact channelRestarted_eq _
  · show (Vector.replicate 4 false)[c] = false
    simp

end Sys2Proof.Machine
end

section
/-! A received command that is dispatched: the broadcast to its targets, and what the decoder keeps until the last of them
has been judged. -/

namespace Sys2Proof.Machine

/-! ### The command's own step (R135) -/

/-- How many targets are judged later (log 28): as many as are wanted, and none of RESTART, READY MODE and ATTN THRESHOLD,
whose codes are 23 to 25. -/
theorem sub_atOnce {code : BitVec 8} {k : Kind} (hk : Kind.ofCode code.toNat = some k) (n later : Nat) :
    n - k.atOnce n later = if code = 23 ∨ code = 24 ∨ code = 25 then 0 else min later n := by
  have hnow : (k = .restart ∨ k = .readyMode ∨ k = .attnThreshold) ↔ (code = 23 ∨ code = 24 ∨ code = 25) := by
    have hcode (x : Nat) (hx : x < 256) : code = BitVec.ofNat 8 x ↔ code.toNat = x := by
      rw [← BitVec.toNat_inj, BitVec.toNat_ofNat, Nat.mod_eq_of_lt hx]
    rw [show (code = 23 ↔ code.toNat = 23) from hcode 23 (by omega),
      show (code = 24 ↔ code.toNat = 24) from hcode 24 (by omega),
      show (code = 25 ↔ code.toNat = 25) from hcode 25 (by omega)]
    generalize code.toNat = x at hk
    have hx : 1 ≤ x ∧ x ≤ 25 := by
      by_contra hx
      rw [ofCode_none_of hx] at hk
      cases hk
    obtain ⟨h1, h2⟩ := hx
    interval_cases x <;> cases hk <;> simp
  unfold Kind.atOnce
  rw [if_congr hnow rfl rfl]
  split <;> omega

theorem targets_distinct {k : Kind} {m : BitVec 8} {ts : List Nat} {js : List Judgement} {rest : List Nat}
    (hjs : js.map (fun j => j.target) ++ rest = ts) (hperm : ts.Perm (k.targets m)) :
    (js.map fun j => j.target).Nodup ∧ ∀ j ∈ js, j.target < 8 := by
  obtain ⟨hnodup, hlt⟩ := targets_lt k m
  have hall : ts.Nodup := hperm.nodup_iff.2 hnodup
  rw [← hjs] at hall hperm
  exact ⟨(List.nodup_append.1 hall).1, fun j hj =>
    hlt _ (hperm.subset (List.mem_append_left _ (List.mem_map.2 ⟨j, hj, rfl⟩)))⟩

/-- A dispatched command: the judgements that come back at once, in the order given, and the targets left outstanding. -/
theorem dispatch_gathered (p : Part) (k : Kind) (cmd : Command) (order : List Nat) (later : Nat) :
    ∃ (js : List Judgement) (rest : List Nat),
      Gathered k cmd js rest (js.foldl (fun p j => (p.judgeTarget k cmd.arg.toNat order j.target).1) p)
        (p.dispatch k cmd order later) ∧
      ((js.map fun j => j.target) ++ rest).Perm (k.targets cmd.mask) ∧
      rest.length = (k.targets cmd.mask).length - k.atOnce (k.targets cmd.mask).length later ∧
      ∀ l j r, js = l ++ j :: r →
        j.refusal = ((l.foldl (fun p j => (p.judgeTarget k cmd.arg.toNat order j.target).1) p).judgeTarget k
          cmd.arg.toNat order j.target).2 := by
  have hperm := arrange_perm order (k.targets cmd.mask)
  have hlength := hperm.length_eq
  unfold Part.dispatch
  dsimp only
  generalize arrange order (k.targets cmd.mask) = ts at hperm hlength
  obtain ⟨htargets, hfold, hrefusals⟩ :=
    judgeAll_spec p k cmd.arg.toNat order (ts.take (k.atOnce ts.length later))
  generalize hjs : p.judgeAll k cmd.arg.toNat order (ts.take (k.atOnce ts.length later)) = judged at *
  have hsplit : (judged.2.map fun j => j.target) ++ ts.drop (k.atOnce ts.length later) = ts := by
    rw [htargets, List.take_append_drop]
  obtain ⟨hnodup, hlt⟩ := targets_distinct hsplit hperm
  refine ⟨judged.2, ts.drop (k.atOnce ts.length later), ?_, ?_, ?_, hrefusals⟩
  · rw [← hfold]
    exact gather_gathered hnodup hlt
  · rw [hsplit]
    exact hperm
  · rw [List.length_drop, hlength]

/-! ### A target judged later -/

/-- The next outstanding target of a command in hand is judged, and its judgement joins those before it. -/
theorem DecoderOrdered.judgeNext_gathered {p : Part} (hp : DecoderOrdered p) {cmd : Command} {k : Kind} {t : Nat}
    {rest : List Nat} (hin : p.setup.inHand = some cmd) (hk : Kind.ofCode cmd.kind.toNat = some k)
    (hout : p.setup.outstanding = t :: rest) :
    Gathered k cmd (p.setup.judgements ++ [⟨t, (p.judgeTarget k cmd.arg.toNat [] t).2⟩]) rest
      (p.judgeTarget k cmd.arg.toNat [] t).1 p.judgeNext := by
  have hstate : p.setup.state = .judging := hp.judging.2 (by rw [hout]; simp)
  obtain ⟨cmd', k', hin', hk', hperm⟩ := hp.named hstate
  obtain rfl : cmd = cmd' := Option.some.inj (hin.symm.trans hin')
  obtain rfl : k = k' := Option.some.inj (hk.symm.trans hk')
  rw [judgeNext_some hstate hin hout hk]
  obtain ⟨hnodup, hlt⟩ := targets_distinct (k := k) (m := cmd.mask) (rest := rest)
    (js := p.setup.judgements ++ [⟨t, (p.judgeTarget k cmd.arg.toNat [] t).2⟩])
    (ts := p.setup.judgements.map (fun j => j.target) ++ p.setup.outstanding) (by simp [hout]) hperm
  exact gather_gathered hnodup hlt

/-! ### The promotions that come before a map write (R83, R145) -/

theorem ofCode_promoteMap {kind : BitVec 8} : Kind.ofCode kind.toNat = some .promoteMap ↔ kind = 9 := by
  constructor
  · intro h
    apply BitVec.eq_of_toNat_eq
    show kind.toNat = 9
    generalize kind.toNat = n at h
    unfold Kind.ofCode at h
    split at h <;> first | rfl | cases h
  · rintro rfl
    rfl

/-- Nothing comes before a map write unless targets of a PROMOTE MAP are outstanding. -/
theorem promotionsFirst_idle {p : Part}
    (h : p.setup.state ≠ .judging ∨ p.setup.outstanding = [] ∨ ∀ cmd, p.setup.inHand = some cmd → cmd.kind ≠ 9) :
    p.promotionsFirst = p := by
  obtain hstate | hout | hother := h
  · unfold Part.promotionsFirst
    split
    · split
      · exact judgeOutstanding_none (judgeNext_of_not_judging hstate) _
      · rfl
    · rfl
  · exact promotionsFirst_none hout
  · unfold Part.promotionsFirst
    split
    · next cmd hin => rw [if_neg (fun h => hother cmd hin (ofCode_promoteMap.1 h))]
    · rfl

theorem promotionsFirst_eq {p : Part} {cmd : Command} (hin : p.setup.inHand = some cmd) (hkind : cmd.kind = 9) :
    p.promotionsFirst = p.judgeOutstanding p.setup.outstanding.length := by
  unfold Part.promotionsFirst
  simp only [hin]
  rw [if_pos (ofCode_promoteMap.2 hkind)]

/-- The promotions that come before a map write are the next one and those after it. -/
theorem promotionsFirst_next {p : Part} {cmd : Command} (hstate : p.setup.state = .judging)
    (hin : p.setup.inHand = some cmd) (hkind : cmd.kind = 9) (hne : p.setup.outstanding ≠ []) :
    p.promotionsFirst = p.judgeNext.promotionsFirst := by
  obtain ⟨t, rest, hout⟩ := List.exists_cons_of_ne_nil hne
  rw [promotionsFirst_eq hin hkind, hout, List.length_cons]
  show p.judgeNext.judgeOutstanding rest.length = _
  rw [judgeNext_some hstate hin hout (ofCode_promoteMap.2 hkind)]
  have hsetup := judgeTarget_setup p .promoteMap cmd.arg.toNat [] t
  cases rest with
  | nil => exact (promotionsFirst_none rfl).symm
  | cons u rest =>
    have hin' : ((p.judgeTarget .promoteMap cmd.arg.toNat [] t).1.gather .promoteMap cmd
        (p.setup.judgements ++ [⟨t, (p.judgeTarget .promoteMap cmd.arg.toNat [] t).2⟩]) (u :: rest)).setup.inHand =
          some cmd := by
      show (p.judgeTarget .promoteMap cmd.arg.toNat [] t).1.setup.inHand = _
      rw [hsetup]
      exact hin
    exact (promotionsFirst_eq hin' hkind).symm

/-! ### Until the last target has been judged -/

/-- The decoder still holds the setup `x`, and no reply is owed. -/
structure Part.Holding (x : Setup) (p : Part) : Prop where
  setup : p.setup = x
  quiet : p.noReply

namespace Part.Holding

variable {x : Setup} {p q : Part}

theorem of_same (hp : Part.Holding x p) (h : SameDecoder p q) (hsetup : q.setup = p.setup) : Part.Holding x q :=
  ⟨hsetup.trans hp.setup, hp.quiet.of_same h⟩

theorem of_eq (hp : Part.Holding x p) (hsetup : q.setup = p.setup) (hreply : q.engine.reply = p.engine.reply)
    (hhand : q.engine.hand = p.engine.hand) : Part.Holding x q :=
  hp.of_same (.of_eq hsetup hreply hhand) hsetup

theorem chooseItem (hp : Part.Holding x p) : Part.Holding x p.chooseItem := by
  obtain heq | ⟨it, e, -, hchosen, heq⟩ := chooseItem_cases p
  · rw [heq]
    exact hp
  rw [heq]
  obtain ⟨hsetup, hreply, -⟩ := hp
  refine ⟨hsetup, ?_, fun y w hy hw hnotice => ?_⟩
  · obtain hsame | ⟨-, hfalse, -⟩ := chosen_keeps_reply hchosen
    · exact hsame.trans hreply
    · exact hfalse
  · rw [handOf_eq_some hy] at hw
    have htrue := (chosen_reply hchosen hw hnotice).1
    rw [hreply] at htrue
    cases htrue

theorem grant (hp : Part.Holding x p) {it : Item} {w : EngineWord} {rest : List EngineWord}
    (hit : p.engine.hand = some it) (hwords : it.words = w :: rest) :
    Part.Holding x ((p.setEngine { p.engine with hand := handOf it.kind rest }).publishWord w) := by
  obtain ⟨hsetup, hreply, hquiet⟩ := hp
  obtain ⟨hkeep, hengine⟩ := publishWord_setup (p := p.setEngine { p.engine with hand := handOf it.kind rest })
    (hquiet it w hit (by simp [hwords]))
  refine ⟨hkeep.trans hsetup, ?_, ?_⟩
  · rw [hengine]
    exact hreply
  · rw [hengine]
    intro y v hy hv
    rw [handOf_eq_some hy] at hv
    exact hquiet it v hit (by rw [hwords]; exact List.mem_cons_of_mem _ hv)

/-- A command word that comes while another command is in hand is not received (R132). -/
theorem receiveCommand (hp : Part.Holding x p) (hx : x.state = .judging) (b : Beat) (bad : Lanes) (order : List Nat)
    (later : Nat) : Part.Holding x (p.receiveCommand b bad order later) := by
  unfold Part.receiveCommand
  split
  · exact hp
  rw [if_neg (by rw [hp.setup, hx]; simp)]
  unfold Part.overrun
  split <;> exact hp.of_eq rfl rfl rfl

end Part.Holding

/-! ### What leaves the decoder's settings alone as well -/

theorem validateDemand_setup (p : Part) (i : SlotId) (cw : ClosingWord) : (p.validateDemand i cw).setup = p.setup := by
  have refused (q : Part) (r : RefusalReason) (f : Frame) : (q.refuseDemand i r f).setup = q.setup := rfl
  have taken (q : Part) (r : DemandRecord) (sel : ValveSelect) : (q.takeDemand i r sel).setup = q.setup := by
    simp only [Part.takeDemand, Part.queueHigh]
    split <;> rfl
  unfold Part.validateDemand
  dsimp only
  repeat' split
  all_goals first | exact refused _ _ _ | exact taken _ _ _

theorem closeDemand_setup (p : Part) (i : SlotId) (cw : ClosingWord) : (p.closeDemand i cw).setup = p.setup := by
  unfold Part.closeDemand
  split <;> first | exact validateDemand_setup p i cw | rfl

theorem validateUrgent_setup (p : Part) (c : CornerId) (cw : ClosingWord) : (p.validateUrgent c cw).setup = p.setup := by
  have refused (q : Part) (r : RefusalReason) (f : Frame) : (q.refuseUrgent c r f).setup = q.setup := rfl
  have taken (q : Part) (r : UrgentRecord) (sel : ValveSelect) : (q.takeUrgent c r sel).setup = q.setup := by
    simp only [Part.takeUrgent, Part.startOverrides]
    (repeat' split) <;> simp
  unfold Part.validateUrgent
  dsimp only
  repeat' split
  all_goals first | exact refused _ _ _ | exact taken _ _ _

theorem closeUrgent_setup (p : Part) (c : CornerId) (cw : ClosingWord) : (p.closeUrgent c cw).setup = p.setup := by
  have active : (p.closeActive c cw).setup = p.setup := by
    unfold Part.closeActive Part.cancelHold
    (repeat' split) <;> simp
  unfold Part.closeUrgent
  split <;> first | exact validateUrgent_setup p c cw | exact active | rfl

theorem driverChange_setup (p : Part) (v : ValveId) (asserted : Bool) : (p.driverChange v asserted).setup = p.setup := by
  unfold Part.driverChange
  dsimp only
  split <;> simp

theorem foldl_setup {α : Type} {op : Part → α → Part} (hop : ∀ p x, (op p x).setup = p.setup) (l : List α) :
    ∀ p : Part, (l.foldl op p).setup = p.setup := by
  induction l with
  | nil => exact fun _ => rfl
  | cons x rest ih => exact fun p => (ih _).trans (hop p x)

/-- While the decoder is JUDGING, every event of the part leaves what it holds (R135). -/
theorem Part.Holding.steady {x : Setup} (hx : x.state = .judging) : Part.Steady (Part.Holding x) where
  bridge _ hp := hp.of_eq rfl rfl rfl
  port _ hp := hp.of_eq rfl rfl rfl
  waitCount _ hp := hp.of_eq rfl rfl rfl
  fresh _ hp := hp.of_eq rfl rfl rfl
  hand _ _ hp := hp.of_eq rfl rfl rfl
  chooseItem hp := hp.chooseItem
  grant hp hit hwords := hp.grant hit hwords
  stageDemand _ _ _ _ hp := hp.of_eq rfl rfl rfl
  closeDemand i cw hp := hp.of_same ((sameDecoder_workless _).closeDemand i cw (.refl _)) (closeDemand_setup _ i cw)
  stageUrgent _ _ _ _ hp := hp.of_eq rfl rfl rfl
  closeUrgent c cw hp := hp.of_same ((sameDecoder_workless _).closeUrgent c cw (.refl _)) (closeUrgent_setup _ c cw)
  stageMap _ _ _ _ hp := hp.of_eq rfl rfl rfl
  closeMap v cw hp := by
    unfold Part.closeMap
    dsimp only
    split <;> exact hp.of_eq rfl rfl rfl
  receiveCommand b bad order later hp := hp.receiveCommand hx b bad order later
  consume _ hp := hp.of_eq rfl rfl rfl
  safeAsserted {p} _ _ hp :=
    (hp.of_eq (q := p.setSafe true) rfl rfl rfl).of_same (sameDecoder_foldl sameDecoder_safeBlock _ _)
      (foldl_setup (fun p b => by simp) _ _)
  safeReleased {p} _ _ hp :=
    (hp.of_eq (q := p.setSafe false) rfl rfl rfl).of_same (sameDecoder_foldl sameDecoder_exitSafe _ _)
      (foldl_setup (fun p c => by simp) _ _)
  driverChange v asserted hp :=
    hp.of_same ((sameDecoder_workless _).driverChange v asserted (.refl _)) (driverChange_setup _ v asserted)
  frame _ hp := hp.of_eq rfl rfl rfl
  cornerBoundary c _ hp := hp.of_same ((sameDecoder_workless _).cornerBoundary c (.refl _)) (by simp)
  partnerNotice c hp := hp.of_same ((sameDecoder_workless _).takePartnerNotice c (.refl _)) (by simp)
  channelBoundary v hp := hp.of_same ((sameDecoder_workless _).channelBoundary v (.refl _)) (by simp)
  rampRequest v hp := hp.of_same ((sameDecoder_workless _).nextRampRequest v (.refl _)) (by simp)
  overrideEnd v hp := hp.of_same ((sameDecoder_workless _).nextOverrideEnd v (.refl _)) (by simp)
  sample v y hp := hp.of_same ((sameDecoder_workless _).takeSample v y (.refl _)) (by simp)
  prepareTimeout v _ hp := hp.of_same ((sameDecoder_workless _).enterFault v _ _ (.refl _)) (by simp)
  prepareEnd v r hr hp := hp.of_same ((sameDecoder_workless _).endPrepare v r hr (.refl _)) (by simp)
  settleMiss v _ hp := hp.of_same ((sameDecoder_workless _).settleMiss v (.refl _)) (by simp)
  heatUpdate v hp := hp.of_same ((sameDecoder_workless _).heatUpdate v (.refl _)) (by simp)
  look hi hp := hp.of_same ((sameDecoder_workless _).look hi (.refl _)) (by simp)
  stepTrial s hs hp :=
    hp.of_same ((sameDecoder_workless _).stepTrial_keeps s (Part.Atoms.preDriveEnds_searching hs) (.refl _)) (by simp)

/-- While the decoder is JUDGING, a command other than RESETN leaves what it holds, when no map write that promotions come
before is captured. -/
theorem exec_keeps_setup {c : Instr} {s t : State} (hp : DecoderOrdered s.part) (hstate : s.part.setup.state = .judging)
    (hreset : ∀ region psense safe dflt, c ≠ .resetn region psense safe dflt)
    (hmap : ∀ cmd addr b o, s.part.setup.inHand = some cmd → cmd.kind = 9 → writeOf s.part.bridge c = some (addr, b) →
      s.part.bridge.offset addr = some o → classOfOffset o ≠ .mapBlock)
    (he : exec c s = .next t) : t.part.setup = s.part.setup := by
  have start : Part.Holding s.part.setup s.part := ⟨rfl, hp.noReply (by rw [hstate]; simp)⟩
  refine ((Part.Holding.steady hstate).exec (fun region psense safe dflt hc => absurd hc (hreset _ _ _ _))
    (fun addr b o hw ho hclass {p} hq => ?_) start he).setup
  have hother : ∀ cmd, p.setup.inHand = some cmd → cmd.kind ≠ 9 := fun cmd hin hkind =>
    hmap cmd addr b o (by rw [← hq.setup]; exact hin) hkind hw ho hclass
  rw [promotionsFirst_idle (.inr (.inr hother))]
  exact hq

/-- Settles O28: the command's own step from the dispatch of its targets; what the decoder keeps from the property that
it holds its setup and owes no reply, which every event keeps while it is JUDGING. -/
theorem commandBroadcast : Obligations.CommandBroadcast := by
  unfold Obligations.CommandBroadcast
  refine ⟨fun n k hk => (ofCode_class hk).1, ?_, fun p cmd k t rest hp hin hk hout => ?_,
    fun c s t hp hstate hreset hmap he => exec_keeps_setup hp hstate hreset hmap he, fun p h => promotionsFirst_idle h,
    fun p cmd hstate hin hkind hne => promotionsFirst_next hstate hin hkind hne⟩
  · intro c code w s k hc hh hk hok judge named
    have hnamed : named = k.targets w.mask := (targets_eq k w.mask).symm
    obtain ⟨js, rest, hgathered, hperm, hlength, hrefusal⟩ :=
      dispatch_gathered (s.met code w) k ⟨code, w.mask, w.tag, w.arg⟩ w.order w.later
    refine ⟨js, rest, _, exec_dispatched hc hh hk hok, hgathered, ?_, ?_, hrefusal⟩
    · rw [hnamed]
      exact hperm
    · rw [hnamed, ← sub_atOnce hk]
      exact hlength
  · exact hp.judgeNext_gathered hin hk hout

end Sys2Proof.Machine
end

section
/-! What one block's response to the SAFE assertion leaves (R28, R53, R68), and what all of them leave of the corners, the
channels and the Line Monitor. -/

namespace Sys2Proof.Machine

variable {p q : Part}

/-! ### One block -/

/-- A corner in SAFE, its work flushed, whatever it was before (R68). -/
def Corner.safed (k : Corner) : Corner :=
  { k with state := .safe, limpCause := .none, list := [], hold := none, ready := false }

/-- A channel with its override dropped (R53). -/
def Channel.unoverridden (ch : Channel) : Channel := { ch with phase := .none, ends := [] }

/-- A channel that has gone OFF (R100, R104). -/
def Channel.stopped (ch : Channel) : Channel := { ch with state := .off, target := 0, settle := none, misses := 0 }

/-- A channel under SAFE, whatever it was before (R53, R68). -/
def Channel.safed (ch : Channel) : Channel :=
  if ch.state.isOffOrFault = true then ch.unoverridden else ch.unoverridden.stopped

/-- What corner c leaves when it enters SAFE. -/
structure SafeEntered (p q : Part) (c : CornerId) : Prop where
  work : WorkLeft p q c .safe
  corner : ∀ d, q.corner d = if d = c then (p.corner c).safed else p.corner d
  loops : SameLoops (p.dropped c) q
  lines : q.lines = p.unready c
  journal : q.journal = p.journal.hand (.safeEnter c (p.corner c).state) (p.corner c).frame

/-- The beginning of an entry to SAFE: the work left and the corner's state. -/
theorem safeHead (p : Part) (c : CornerId) :
    let r := (p.leaveRun c .safe).setCornerState c .safe .none
    WorkLeft p r c .safe ∧ SameLoops (p.dropped c) r ∧
      (∀ d, r.corner d =
        if d = c then { p.corner c with state := .safe, limpCause := .none, list := [], hold := none } else p.corner d) ∧
      r.lines = p.lines ∧ r.journal = p.journal := by
  obtain ⟨hchannels, hanalyzer⟩ := leaveRun_loops p c .safe
  refine ⟨workLeft_of ?_ ?_ ?_ ?_, ⟨?_, ?_⟩, fun d => ?_, ?_, ?_⟩
  · simp
  · simp
  · simp
  · simp
  · simpa using hchannels
  · simpa using hanalyzer
  · rw [Part.setCornerState, corner_setCorner, leaveRun_corners, leaveRun_corners, if_pos rfl]
    split <;> rfl
  · simp
  · simp

theorem enterSafe_entered (p : Part) (c : CornerId) : SafeEntered p (p.enterSafe c) c := by
  obtain ⟨hwork, hloops, hcorner, hlines, hjournal⟩ := safeHead p c
  unfold Part.enterSafe
  dsimp only at *
  generalize (p.leaveRun c .safe).setCornerState c .safe .none = r at *
  have hself : r.corner c =
      { p.corner c with state := .safe, limpCause := .none, list := [], hold := none } := by
    rw [hcorner, if_pos rfl]
  have hunready : (r.hand (.safeEnter c (p.corner c).state) (r.corner c).frame).readyCondition c = false :=
    notReady_of_state (by
      show (r.corner c).state ≠ .run
      rw [hself]
      simp)
  obtain ⟨hready, hreported⟩ := evalReady_unready hunready
  obtain ⟨hslots, hurgent, howed, helse⟩ := hwork
  refine ⟨⟨fun i => ?_, fun d => ?_, ?_, ?_⟩, fun d => ?_, ?_, ?_, ?_⟩
  · rw [← hslots]; simp
  · rw [← hurgent]; simp
  · rw [← howed]; simp
  · simpa using helse
  · rw [hready]
    show (if d = c then { r.corner c with ready := false } else r.corner d) = _
    rw [hself, hcorner]
    split <;> rfl
  · exact ⟨by simpa using hloops.1, by simpa using hloops.2⟩
  · rw [hreported]
    show r.unready c = _
    rw [Part.unready, hlines]
    rfl
  · rw [hself, ← hjournal]
    simp [Part.hand]

/-- The SAFE assertion at a channel that is neither OFF nor in FAULT. -/
theorem safeChannel_stops {v : ValveId} (h : (p.channel v).state.isOffOrFault = false) :
    ∃ r, ChannelStopped p r v .off ∧
      p.safeChannel v = r.hand (.channelState v (p.channel v).state.name .off .safe) (p.channel v).frame := by
  have hstopped := stopChannel_stopped p v .off rfl
  refine ⟨_, hstopped, ?_⟩
  unfold Part.safeChannel
  rw [if_neg (by simp [h]), Part.handChange, hstopped.channel]
  rfl

theorem safeChannel_off {v : ValveId} (h : (p.channel v).state.isOffOrFault = true) : p.safeChannel v = p := if_pos h

/-- A block's response is the response of a corner, of a channel that goes OFF, or none. -/
theorem safeBlock_cases {motive : CornerId ⊕ ValveId → Part → Prop} (b : CornerId ⊕ ValveId)
    (corner : ∀ c, SafeEntered p (p.enterSafe c) c → motive (.inl c) (p.enterSafe c))
    (stands : ∀ v, (p.channel v).state.isOffOrFault = true → motive (.inr v) p)
    (stops : ∀ v r, (p.channel v).state.isOffOrFault = false → ChannelStopped p r v .off →
      motive (.inr v) (r.hand (.channelState v (p.channel v).state.name .off .safe) (p.channel v).frame)) :
    motive b (p.safeBlock b) := by
  cases b with
  | inl c => exact corner c (enterSafe_entered p c)
  | inr v =>
    show motive (.inr v) (p.safeChannel v)
    cases h : (p.channel v).state.isOffOrFault with
    | true => rw [safeChannel_off h]; exact stands v h
    | false =>
      obtain ⟨r, hr, heq⟩ := safeChannel_stops h
      rw [heq]
      exact stops v r h hr

/-! ### What every block leads to -/

theorem safed_unoverridden (ch : Channel) : ch.unoverridden.safed = ch.safed := rfl

theorem safed_stopped {ch : Channel} (h : ch.state.isOffOrFault = false) : ch.stopped.safed = ch.safed := by
  simp [Channel.safed, h]
  rfl

theorem safed_looped {ch : Channel} (h : ch.state.isOffOrFault = false) (t : Nat) (s : Option SettleRun) :
    (ch.looped t s).safed = ch.safed := by
  unfold Channel.safed
  rw [show (ch.looped t s).state = ch.state from rfl, h]
  rfl

theorem phaseDropped_redriven (p : Part) (v : ValveId) :
    p.phaseDropped v = p.redriven v (p.channel v).unoverridden := rfl

theorem phaseDropped_safed (p : Part) (v w : ValveId) : ((p.phaseDropped v).channel w).safed = (p.channel w).safed := by
  by_cases hw : w = v
  · subst hw
    rw [phaseDropped_redriven]
    cases hs : (p.channel w).state.isOffOrFault with
    | false =>
      obtain ⟨t, s, hch⟩ := redriven_channel p w (p.channel w).unoverridden
      rw [hch, safed_looped (ch := (p.channel w).unoverridden) hs, safed_unoverridden]
    | true =>
      have htrack : (p.channel w).state ≠ .track := fun h => by rw [h] at hs; cases hs
      rw [Part.redriven, recompute_stands (.inl (by rw [channel_setChannel_self]; exact htrack)),
        channel_setChannel_self, safed_unoverridden]
  · rw [Part.phaseDropped, channel_redriven_ne _ _ hw]

theorem dropped_safed (p : Part) (c : CornerId) (w : ValveId) : ((p.dropped c).channel w).safed = (p.channel w).safed :=
  (phaseDropped_safed _ _ _).trans (phaseDropped_safed _ _ _)

/-- Each block's response leaves every channel on its way to the same values under SAFE. -/
theorem safeBlock_channel (p : Part) (b : CornerId ⊕ ValveId) (w : ValveId) :
    ((p.safeBlock b).channel w).safed = (p.channel w).safed := by
  refine safeBlock_cases (motive := fun _ q => (q.channel w).safed = (p.channel w).safed) b
    (fun c h => ?_) (fun _ _ => rfl) (fun v r hs h => ?_)
  · rw [h.loops.channel, dropped_safed]
  · show (r.channel w).safed = _
    by_cases hw : w = v
    · subst hw
      rw [h.channel]
      exact safed_stopped hs
    · rw [h.otherChannels w hw]

/-- Each block's response leaves every corner on its way to the same values in SAFE. -/
theorem safeBlock_corner (p : Part) (b : CornerId ⊕ ValveId) (d : CornerId) :
    ((p.safeBlock b).corner d).safed = (p.corner d).safed := by
  refine safeBlock_cases (motive := fun _ q => (q.corner d).safed = (p.corner d).safed) b
    (fun c h => ?_) (fun _ _ => rfl) (fun v r _ h => ?_)
  · rw [h.corner]
    split
    · next hd => rw [hd]; rfl
    · rfl
  · show (r.corner d).safed = _
    by_cases hd : d = cornerOf v
    · rw [hd, h.corner]; rfl
    · rw [h.otherCorners d hd]

/-! ### All blocks -/

/-- Under SAFE every corner has made its response in full, or is one of those still to make it. -/
structure SafePending (l : List (CornerId ⊕ ValveId)) (p : Part) : Prop where
  corners : ∀ c, .inl c ∈ l ∨ p.corner c = (p.corner c).safed
  channels : ∀ v, .inl (cornerOf v) ∈ l ∨ (p.channel v).unoverridden = p.channel v
  reported : ∀ c : CornerId, .inl c ∈ l ∨ p.lines.reported[c] = false
  ready : (∃ c, .inl c ∈ l) ∨ p.lines.ready = readyOutput p.lines.mode p.lines.reported

theorem reported_unready (p : Part) (c d : CornerId) :
    (p.unready c).reported[d] = if d = c then false else p.lines.reported[d] := by
  unfold Part.unready
  simp [Vector.getElem_set, Fin.ext_iff, eq_comm]

theorem ready_unready (p : Part) (c : CornerId) :
    (p.unready c).ready = readyOutput (p.unready c).mode (p.unready c).reported := rfl

theorem phaseDropped_self (p : Part) (v : ValveId) :
    ((p.phaseDropped v).channel v).unoverridden = (p.phaseDropped v).channel v := by
  obtain ⟨t, s, hch⟩ := redriven_channel p v (p.channel v).unoverridden
  rw [phaseDropped_redriven, hch]
  rfl

theorem phaseDropped_other (p : Part) {v w : ValveId} (h : w ≠ v) : (p.phaseDropped v).channel w = p.channel w :=
  channel_redriven_ne _ _ h

/-- A channel whose override is dropped stays so at another drop. -/
theorem phaseDropped_unoverridden {v w : ValveId} (h : (p.channel w).unoverridden = p.channel w) :
    ((p.phaseDropped v).channel w).unoverridden = (p.phaseDropped v).channel w := by
  by_cases hw : w = v
  · rw [hw]; exact phaseDropped_self p v
  · rw [phaseDropped_other p hw]; exact h

/-- The drop at a corner is a drop at each of its valves. -/
theorem dropped_unoverridden {c : CornerId} {v : ValveId} (h : cornerOf v = c ∨ (p.channel v).unoverridden = p.channel v) :
    ((p.dropped c).channel v).unoverridden = (p.dropped c).channel v := by
  unfold Part.dropped
  obtain hc | h := h
  · obtain hv | hv := valve_of_corner hc
    · rw [hv]; exact phaseDropped_unoverridden (phaseDropped_self p _)
    · rw [hv]; exact phaseDropped_self _ _
  · exact phaseDropped_unoverridden (phaseDropped_unoverridden h)

theorem SafePending.block {b : CornerId ⊕ ValveId} {l : List (CornerId ⊕ ValveId)} (h : SafePending (b :: l) p) :
    SafePending l (p.safeBlock b) := by
  obtain ⟨hcorners, hchannels, hreported, hready⟩ := h
  refine safeBlock_cases (motive := fun b' q => b = b' → SafePending l q) b (fun c hc hb => ?_) (fun v _ hb => ?_)
    (fun v r _ hr hb => ?_) rfl
  · subst hb
    refine ⟨fun d => ?_, fun v => ?_, fun d => ?_, .inr ?_⟩
    · rw [hc.corner]
      by_cases hd : d = c
      · rw [if_pos hd]; exact .inr rfl
      · rw [if_neg hd]; simpa [hd] using hcorners d
    · rw [hc.loops.channel]
      by_cases hv : cornerOf v = c
      · exact .inr (dropped_unoverridden (.inl hv))
      · have := hchannels v
        simp only [List.mem_cons, Sum.inl.injEq, hv, false_or] at this
        exact this.imp_right fun h => dropped_unoverridden (.inr h)
    · rw [hc.lines, reported_unready]
      by_cases hd : d = c
      · rw [if_pos hd]; exact .inr rfl
      · rw [if_neg hd]; simpa [hd] using hreported d
    · rw [hc.lines]; exact ready_unready p c
  · subst hb
    exact ⟨by simpa using hcorners, by simpa using hchannels, by simpa using hreported, by simpa using hready⟩
  · subst hb
    refine ⟨fun d => ?_, fun w => ?_, fun d => ?_, .inr ?_⟩
    · show _ ∨ r.corner d = (r.corner d).safed
      by_cases hd : d = cornerOf v
      · rw [hd, hr.corner]
        have := hcorners (cornerOf v)
        simp only [List.mem_cons, reduceCtorEq, false_or] at this
        exact this.imp_right fun h => by rw [h]; rfl
      · rw [hr.otherCorners d hd]; simpa using hcorners d
    · show _ ∨ (r.channel w).unoverridden = r.channel w
      have := hchannels w
      simp only [List.mem_cons, reduceCtorEq, false_or] at this
      refine this.imp_right fun h => ?_
      by_cases hw : w = v
      · rw [hw, hr.channel]; rw [hw] at h; rw [← h]; rfl
      · rw [hr.otherChannels w hw]; exact h
    · show _ ∨ r.lines.reported[d] = false
      rw [hr.lines, reported_unready]
      split
      · exact .inr rfl
      · simpa using hreported d
    · show r.lines.ready = readyOutput r.lines.mode r.lines.reported
      rw [hr.lines]; exact ready_unready p _

/-- What all the blocks' responses leave of corners, channels and the Line Monitor. -/
structure BlocksSafe (p q : Part) : Prop where
  corner : ∀ c, q.corner c = (p.corner c).safed
  channel : ∀ v, q.channel v = (p.channel v).safed
  reported : ∀ c : CornerId, q.lines.reported[c] = false
  ready : q.lines.ready = readyOutput q.lines.mode q.lines.reported

theorem safed_self {ch : Channel} (hoff : ch.state.isOffOrFault = true) (h : ch.unoverridden = ch) : ch.safed = ch := by
  rw [Channel.safed, if_pos hoff, h]

theorem foldl_keeps_eq {α β : Type} {op : Part → α → Part} {f : Part → β} (h : ∀ p x, f (op p x) = f p) (l : List α) :
    ∀ p : Part, f (l.foldl op p) = f p := by
  induction l with
  | nil => exact fun _ => rfl
  | cons x l ih => exact fun p => (ih _).trans (h p x)

theorem SafePending.fold {l : List (CornerId ⊕ ValveId)} :
    ∀ {p : Part}, SafePending l p → SafePending [] (l.foldl Part.safeBlock p) := by
  induction l with
  | nil => exact id
  | cons b l ih => exact fun h => ih h.block

theorem safeBlocks_safe {l : List (CornerId ⊕ ValveId)} (hall : ∀ b, b ∈ l) (hsafe : p.lines.safe = true) :
    BlocksSafe p (l.foldl Part.safeBlock p) := by
  have hpending : SafePending l p :=
    ⟨fun _ => .inl (hall _), fun _ => .inl (hall _), fun _ => .inl (hall _), .inl ⟨0, hall _⟩⟩
  have hawaited : SafeAwaited l p := ⟨hsafe, fun _ => .inl (hall _), fun _ => .inl (hall _)⟩
  obtain ⟨hcorners, hchannels, hreported, hready⟩ := hpending.fold
  refine ⟨fun c => ?_, fun v => ?_, fun c => (hreported c).resolve_left (by simp), hready.resolve_left (by simp)⟩
  · rw [(hcorners c).resolve_left (by simp)]
    exact foldl_keeps_eq (f := fun p => (p.corner c).safed) (fun p b => safeBlock_corner p b c) l p
  · rw [← safed_self ((hawaited.fold.channels v).resolve_left (by simp)) ((hchannels v).resolve_left (by simp))]
    exact foldl_keeps_eq (f := fun p => (p.channel v).safed) (fun p b => safeBlock_channel p b v) l p

end Sys2Proof.Machine
end

section
/-! What the responses to the SAFE assertion leave of the slots, the engine and the Journal Unit, and what they do not
touch (R53, R60, R68). -/

namespace Sys2Proof.Machine

variable {p q r : Part}

/-! ### Slots and the engine's slot classes -/

/-- The slots, their classes at the engine, and what is pending at the corners are the same. -/
structure SameSlots (p q : Part) : Prop where
  demand : ∀ i, q.demandSlot i = p.demandSlot i
  urgent : ∀ c, q.urgentSlot c = p.urgentSlot c
  demandClass : q.engine.demand = p.engine.demand
  urgentClass : q.engine.urgent = p.engine.urgent
  corner : ∀ c, (q.corner c).list = (p.corner c).list ∧ (q.corner c).hold = (p.corner c).hold ∧
    (q.corner c).frame = (p.corner c).frame

theorem CornersFlushed.of_same {cause : FlushCause} {l : List CornerId} (h : SameSlots p r)
    (hf : CornersFlushed cause l r q) : CornersFlushed cause l p q := by
  have hlist (c : CornerId) : (r.corner c).list = (p.corner c).list := (h.corner c).1
  have hhold (c : CornerId) : (r.corner c).hold = (p.corner c).hold := (h.corner c).2.1
  have hframe (c : CornerId) : (r.corner c).frame = (p.corner c).frame := (h.corner c).2.2
  have hslots (c : CornerId) : r.slotsOf c = p.slotsOf c := by unfold Part.slotsOf; rw [hlist]
  refine ⟨fun c hc e he hapart => ?_, fun i hi => ?_, fun c hc => ?_, fun c hc => ?_, ?_, ?_⟩
  · rw [hf.retired c hc e (by rw [hlist]; exact he) (fun d hd hne => by rw [hslots]; exact hapart d hd hne), h.demand,
      hframe]
  · rw [hf.slots i (fun c hc => by rw [hslots]; exact hi c hc), h.demand]
  · rw [hf.urgent c hc, hhold, hframe, h.urgent]
  · rw [hf.others c hc, h.urgent]
  · rw [hf.demandClass, h.demandClass]
    exact foldl_congr_mem (fun m c _ => by rw [hlist]) _
  · rw [hf.urgentClass, h.urgentClass]
    exact foldl_congr_mem (fun m c _ => by rw [hhold]) _

theorem SafeEntered.flushed {c : CornerId} (h : SafeEntered p q c) : CornerFlushed .safe c p q := by
  obtain ⟨hslots, hurgent, howed, -⟩ := h.work
  exact ⟨hslots, hurgent, by rw [howed], by rw [howed], fun d hd => by rw [h.corner, if_neg hd]; exact ⟨rfl, rfl, rfl⟩⟩

theorem ChannelStopped.sameSlots {v : ValveId} {entered : ChannelState} (h : ChannelStopped p q v entered) :
    SameSlots p q := by
  obtain ⟨-, -, hdemand, hurgent, -⟩ := h.elsewhere
  refine ⟨fun i => by unfold Part.demandSlot; rw [hdemand], fun c => by unfold Part.urgentSlot; rw [hurgent], ?_, ?_,
    fun c => ?_⟩
  · rw [h.owed]; split <;> rfl
  · rw [h.owed]; split <;> rfl
  · by_cases hc : c = cornerOf v
    · rw [hc, h.corner]; exact ⟨rfl, rfl, rfl⟩
    · rw [h.otherCorners c hc]; exact ⟨rfl, rfl, rfl⟩

theorem SameSlots.hand (h : SameSlots p q) (e : Event) (f : Frame) : SameSlots p (q.hand e f) :=
  ⟨h.demand, h.urgent, h.demandClass, h.urgentClass, h.corner⟩

theorem safeChannel_sameSlots (p : Part) (v : ValveId) : SameSlots p (p.safeChannel v) := by
  cases h : (p.channel v).state.isOffOrFault with
  | true =>
    rw [safeChannel_off h]
    exact ⟨fun _ => rfl, fun _ => rfl, rfl, rfl, fun _ => ⟨rfl, rfl, rfl⟩⟩
  | false =>
    obtain ⟨r, hr, heq⟩ := safeChannel_stops h
    rw [heq]
    exact hr.sameSlots.hand _ _

/-- The corners among some blocks. -/
def cornersOf (l : List (CornerId ⊕ ValveId)) : List CornerId := l.filterMap Sum.getLeft?

theorem mem_cornersOf {l : List (CornerId ⊕ ValveId)} {c : CornerId} : c ∈ cornersOf l ↔ .inl c ∈ l := by
  simp [cornersOf]

theorem safeBlocks_flushed {l : List (CornerId ⊕ ValveId)} (hl : l.Nodup) :
    ∀ p : Part, CornersFlushed .safe (cornersOf l) p (l.foldl Part.safeBlock p) := by
  induction l with
  | nil => exact fun p => ⟨nofun, fun _ _ => rfl, nofun, fun _ _ => rfl, rfl, rfl⟩
  | cons b l ih =>
    intro p
    obtain ⟨hb, hrest⟩ := List.nodup_cons.1 hl
    cases b with
    | inl c => exact .cons (fun hc => hb (mem_cornersOf.1 hc)) (enterSafe_entered p c).flushed (ih hrest (p.enterSafe c))
    | inr v => exact .of_same (safeChannel_sameSlots p v) (ih hrest (p.safeChannel v))

theorem mem_offered {α : Type} [BEq α] [LawfulBEq α] {l : List α} {x y : α} : x ∈ offered l y ↔ x ∈ l ∨ x = y := by
  unfold offered
  split
  · next h => exact ⟨.inl, fun hx => hx.elim id fun hx => hx ▸ List.contains_iff_mem.1 h⟩
  · simp

theorem mem_offeredEntries {i : SlotId} (es : List Entry) (m : List SlotId) :
    i ∈ es.foldl (fun m e => offered m e.slot) m ↔ i ∈ m ∨ i ∈ es.map fun e => e.slot := by
  induction es generalizing m with
  | nil => simp
  | cons e es ih => rw [List.foldl_cons, ih, mem_offered, List.map_cons, List.mem_cons, or_assoc]

theorem mem_offeredLists {i : SlotId} (p : Part) (l : List CornerId) (m : List SlotId) :
    i ∈ l.foldl (fun m c => (p.corner c).list.foldl (fun m e => offered m e.slot) m) m ↔
      i ∈ m ∨ ∃ c ∈ l, i ∈ p.slotsOf c := by
  induction l generalizing m with
  | nil => simp
  | cons c l ih =>
    rw [List.foldl_cons, ih, mem_offeredEntries, or_assoc]
    simp [Part.slotsOf]

theorem mem_offeredHolds {d : CornerId} (p : Part) (l : List CornerId) (m : List CornerId) :
    d ∈ l.foldl (fun m c => if (p.corner c).hold.isSome = true then offered m c else m) m ↔
      d ∈ m ∨ (d ∈ l ∧ (p.corner d).hold.isSome = true) := by
  induction l generalizing m with
  | nil => simp
  | cons c l ih =>
    rw [List.foldl_cons, ih, List.mem_cons]
    split
    · next h =>
      rw [mem_offered, or_assoc]
      refine or_congr_right ⟨?_, ?_⟩
      · rintro (rfl | ⟨hd, hh⟩)
        · exact ⟨.inl rfl, h⟩
        · exact ⟨.inr hd, hh⟩
      · rintro ⟨rfl | hd, hh⟩
        · exact .inl rfl
        · exact .inr ⟨hd, hh⟩
    · next h =>
      refine or_congr_right ⟨fun ⟨hd, hh⟩ => ⟨.inr hd, hh⟩, ?_⟩
      rintro ⟨rfl | hd, hh⟩
      · exact absurd hh h
      · exact ⟨hd, hh⟩

/-! ### Events -/

/-- What a block hands to the Journal Unit when SAFE is asserted. -/
def Part.safeEvents (p : Part) : CornerId ⊕ ValveId → List (Event × Frame)
  | .inl c => [(.safeEnter c (p.corner c).state, (p.corner c).frame)]
  | .inr v =>
    if (p.channel v).state.isOffOrFault = true then []
    else [(.channelState v (p.channel v).state.name .off .safe, (p.channel v).frame)]

/-- The Journal Unit handed events in turn. -/
def Journal.handAll (j : Journal) (es : List (Event × Frame)) : Journal := es.foldl (fun j e => j.hand e.1 e.2) j

theorem handAll_append (j : Journal) (es fs : List (Event × Frame)) :
    j.handAll (es ++ fs) = (j.handAll es).handAll fs := List.foldl_append

theorem safeBlock_journal (p : Part) (b : CornerId ⊕ ValveId) :
    (p.safeBlock b).journal = p.journal.handAll (p.safeEvents b) := by
  refine safeBlock_cases (motive := fun b q => q.journal = p.journal.handAll (p.safeEvents b)) b (fun c h => h.journal)
    (fun v h => ?_) (fun v r h hr => ?_)
  · rw [Part.safeEvents, if_pos h]; rfl
  · obtain ⟨-, -, -, -, -, -, -, -, -, hjournal, -⟩ := hr.elsewhere
    rw [Part.safeEvents, if_neg (by simp [h])]
    show r.journal.hand _ _ = _
    rw [hjournal]
    rfl

theorem phaseDropped_event (p : Part) (v w : ValveId) :
    ((p.phaseDropped v).channel w).state = (p.channel w).state ∧
      ((p.phaseDropped v).channel w).frame = (p.channel w).frame := by
  by_cases hw : w = v
  · obtain ⟨t, s, hch⟩ := redriven_channel p v (p.channel v).unoverridden
    rw [hw, phaseDropped_redriven, hch]
    exact ⟨rfl, rfl⟩
  · rw [phaseDropped_other p hw]
    exact ⟨rfl, rfl⟩

theorem dropped_event (p : Part) (c : CornerId) (w : ValveId) :
    ((p.dropped c).channel w).state = (p.channel w).state ∧ ((p.dropped c).channel w).frame = (p.channel w).frame := by
  obtain ⟨hstate, hframe⟩ := phaseDropped_event p (compressionValve c) w
  obtain ⟨hstate', hframe'⟩ := phaseDropped_event (p.phaseDropped (compressionValve c)) (reboundValve c) w
  exact ⟨hstate'.trans hstate, hframe'.trans hframe⟩

/-- A block's response leaves what the other blocks hand. -/
theorem safeBlock_events (p : Part) {b b' : CornerId ⊕ ValveId} (h : b' ≠ b) :
    (p.safeBlock b).safeEvents b' = p.safeEvents b' := by
  have key : ∀ q : Part, (∀ d, .inl d = b' → (q.corner d).state = (p.corner d).state ∧ (q.corner d).frame = (p.corner d).frame) →
      (∀ w, .inr w = b' → (q.channel w).state = (p.channel w).state ∧ (q.channel w).frame = (p.channel w).frame) →
      q.safeEvents b' = p.safeEvents b' := by
    intro q hcorner hchannel
    cases b' with
    | inl d => rw [Part.safeEvents, Part.safeEvents, (hcorner d rfl).1, (hcorner d rfl).2]
    | inr w => rw [Part.safeEvents, Part.safeEvents, (hchannel w rfl).1, (hchannel w rfl).2]
  refine safeBlock_cases (motive := fun b q => b' ≠ b → q.safeEvents b' = p.safeEvents b') b (fun c hc hne => ?_)
    (fun _ _ _ => rfl) (fun v r _ hr hne => ?_) h
  · refine key _ (fun d hd => ?_) (fun w _ => ?_)
    · have hdc : d ≠ c := fun heq => hne (by rw [← hd, heq])
      rw [hc.corner, if_neg hdc]
      exact ⟨rfl, rfl⟩
    · rw [hc.loops.channel]; exact dropped_event p c w
  · refine key _ (fun d _ => ?_) (fun w hw => ?_)
    · show (r.corner d).state = _ ∧ (r.corner d).frame = _
      by_cases hd : d = cornerOf v
      · rw [hd, hr.corner]; exact ⟨rfl, rfl⟩
      · rw [hr.otherCorners d hd]; exact ⟨rfl, rfl⟩
    · have hwv : w ≠ v := fun heq => hne (by rw [← hw, heq])
      show (r.channel w).state = _ ∧ (r.channel w).frame = _
      rw [hr.otherChannels w hwv]
      exact ⟨rfl, rfl⟩

/-- Each block hands what it would have handed first. -/
theorem safeBlocks_journal {l : List (CornerId ⊕ ValveId)} (hl : l.Nodup) :
    ∀ p : Part, (l.foldl Part.safeBlock p).journal = p.journal.handAll (l.flatMap p.safeEvents) := by
  induction l with
  | nil => exact fun _ => rfl
  | cons b l ih =>
    obtain ⟨hb, hl⟩ := List.nodup_cons.1 hl
    intro p
    rw [List.foldl_cons, ih hl, safeBlock_journal, List.flatMap_cons, handAll_append]
    congr 1
    exact List.flatMap_congr fun b' hb' => safeBlock_events p fun heq => hb (heq ▸ hb')

theorem safeEvents_blocks (p : Part) :
    safeBlocks.flatMap p.safeEvents =
      (allCorners.map fun c => (Event.safeEnter c (p.corner c).state, (p.corner c).frame)) ++
        (allValves.filter fun v => !(p.channel v).state.isOffOrFault).map fun v =>
          (Event.channelState v (p.channel v).state.name .off .safe, (p.channel v).frame) := by
  have hvalves (l : List ValveId) : (l.map Sum.inr).flatMap p.safeEvents =
      (l.filter fun v => !(p.channel v).state.isOffOrFault).map fun v =>
        (Event.channelState v (p.channel v).state.name .off .safe, (p.channel v).frame) := by
    induction l with
    | nil => rfl
    | cons v l ih =>
      rw [List.map_cons, List.flatMap_cons, ih, Part.safeEvents, List.filter_cons]
      cases (p.channel v).state.isOffOrFault <;> rfl
  have hcorners (l : List CornerId) : (l.map Sum.inl).flatMap p.safeEvents =
      l.map fun c => (Event.safeEnter c (p.corner c).state, (p.corner c).frame) := by
    induction l with
    | nil => rfl
    | cons c l ih => rw [List.map_cons, List.flatMap_cons, ih]; rfl
  rw [safeBlocks, List.flatMap_append, hcorners, hvalves]

/-! ### What the responses do not touch -/

/-- The units that no response to the SAFE line touches, and the parts of the engine and of the Line Monitor. -/
structure SafeShape (p q : Part) : Prop where
  elsewhere : q.bridge = p.bridge ∧ q.port = p.port ∧ q.timer = p.timer ∧ q.pairing = p.pairing ∧ q.maps = p.maps ∧
    q.setup = p.setup ∧ q.waitCount = p.waitCount ∧ q.fresh = p.fresh
  engine : q.engine =
    { p.engine with demand := q.engine.demand, urgent := q.engine.urgent, trace := q.engine.trace }
  lines : q.lines.safe = p.lines.safe ∧ q.lines.dflt = p.lines.dflt ∧ q.lines.mode = p.lines.mode

theorem SafeShape.refl (p : Part) : SafeShape p p :=
  ⟨⟨rfl, rfl, rfl, rfl, rfl, rfl, rfl, rfl⟩, rfl, rfl, rfl, rfl⟩

theorem SafeShape.trans (h : SafeShape p q) (h' : SafeShape q r) : SafeShape p r := by
  obtain ⟨⟨h1, h2, h3, h4, h5, h6, h7, h8⟩, he, hs, hd, hm⟩ := h
  obtain ⟨⟨g1, g2, g3, g4, g5, g6, g7, g8⟩, ge, gs, gd, gm⟩ := h'
  exact ⟨⟨g1.trans h1, g2.trans h2, g3.trans h3, g4.trans h4, g5.trans h5, g6.trans h6, g7.trans h7, g8.trans h8⟩,
    by rw [ge, he], gs.trans hs, gd.trans hd, gm.trans hm⟩

theorem safeBlock_shape (p : Part) (b : CornerId ⊕ ValveId) : SafeShape p (p.safeBlock b) := by
  refine ⟨by simp, ?_, by simp⟩
  refine safeBlock_cases (motive := fun _ q => q.engine =
    { p.engine with demand := q.engine.demand, urgent := q.engine.urgent, trace := q.engine.trace }) b (fun c h => ?_)
    (fun _ _ => rfl) (fun v r _ h => ?_)
  · rw [h.work.owed]
  · show r.engine = { p.engine with demand := r.engine.demand, urgent := r.engine.urgent, trace := r.engine.trace }
    rw [h.owed]
    split <;> rfl

theorem safeBlocks_shape (l : List (CornerId ⊕ ValveId)) : ∀ p : Part, SafeShape p (l.foldl Part.safeBlock p) := by
  induction l with
  | nil => exact SafeShape.refl
  | cons b l ih => exact fun p => (safeBlock_shape p b).trans (ih _)

/-- A part of that shape is the other one outside what the responses touch. -/
theorem SafeShape.eq (h : SafeShape p q) :
    q = { p with
      corners := q.corners, channels := q.channels, demand := q.demand, urgent := q.urgent
      analyzer := q.analyzer, journal := q.journal
      engine := { p.engine with demand := q.engine.demand, urgent := q.engine.urgent, trace := q.engine.trace }
      lines := { p.lines with reported := q.lines.reported, ready := q.lines.ready } } := by
  obtain ⟨⟨h1, h2, h3, h4, h5, h6, h7, h8⟩, he, hs, hd, hm⟩ := h
  have hlines : q.lines = { p.lines with reported := q.lines.reported, ready := q.lines.ready } := by
    show _ = Lines.mk p.lines.safe p.lines.dflt q.lines.reported p.lines.mode q.lines.ready
    rw [← hs, ← hd, ← hm]
  rw [← he, ← hlines, ← h1, ← h2, ← h3, ← h4, ← h5, ← h6, ← h7, ← h8]

end Sys2Proof.Machine
end

section
/-! What the responses to the SAFE assertion leave of the Step Analyzer, in any order (R114, R117, R118). -/

namespace Sys2Proof.Machine

variable {p q r : Part} {v w : ValveId} {a : Analyzer} {t : Bool}

/-! ### The three outcomes -/

/-- The analyzer a and the trace class t are what is left once what was in hand for a valve is given up (R114, R118). -/
def Part.LetsGo (p : Part) (a : Analyzer) (t : Bool) : Prop :=
  ((∀ v, ¬p.analyzed v) → a = { p.analyzer with queue := a.queue } ∧ t = p.engine.trace) ∧
  ∀ v, p.analyzed v →
    a = { p.analyzerLeft v with queue := a.queue } ∧
      t = if p.analyzer.trace = .capturing ∨ (p.channel v).state = .track then true else p.engine.trace

/-- A drop of the override of v can start a capture, at once or when a search has been given up (R53, R117). -/
def Part.CanStart (p : Part) (v : ValveId) : Prop :=
  p.analyzer.trace = .armed v ∧ (p.channel v).state = .track ∧
    max 20 (3 * (p.channel v).target / 100) <
      (p.currentAt v (p.channel v).setpoint - (p.channel v).target) +
        ((p.channel v).target - p.currentAt v (p.channel v).setpoint) ∧
    (p.analyzer.state = .idle ∨ ∃ h, p.analyzer.state = .searching h)

/-- The analyzer a and the trace class t are what a capture of v leaves that is started and given up (R117, R118). -/
def Part.StartsAndAborts (p : Part) (v : ValveId) (a : Analyzer) (t : Bool) : Prop :=
  ∃ gain, (∀ g, (p.channel v).tunedGain = some g → gain = g.val) ∧ t = true ∧
    a = { state := .writing, queue := a.queue, buffer := [], trace := .writing
          hand := some ⟨v, gain, (p.channel v).frame, [], some .aborted⟩ }

/-- What SAFE can leave of the analyzer and the trace class. -/
def Part.AnalyzerSafe (p : Part) (a : Analyzer) (t : Bool) : Prop :=
  p.LetsGo a t ∨ ∃ v, p.CanStart v ∧ p.StartsAndAborts v a t

theorem LetsGo.congr (hstate : ∀ w, (q.channel w).state = (p.channel w).state) (hanalyzer : q.analyzer = p.analyzer)
    (htrace : q.engine.trace = p.engine.trace) (h : q.LetsGo a t) : p.LetsGo a t := by
  unfold Part.LetsGo Part.analyzed Part.analyzerLeft at *
  simpa only [hstate, hanalyzer, htrace] using h

theorem AnalyzerSafe.congr (hchannel : ∀ w, q.channel w = p.channel w) (hmaps : q.maps = p.maps)
    (hanalyzer : q.analyzer = p.analyzer) (htrace : q.engine.trace = p.engine.trace) (h : q.AnalyzerSafe a t) :
    p.AnalyzerSafe a t := by
  refine h.imp (LetsGo.congr (fun w => by rw [hchannel]) hanalyzer htrace) ?_
  rintro ⟨v, hstart, habort⟩
  unfold Part.CanStart Part.StartsAndAborts Part.currentAt Part.map at *
  simp only [hchannel, hanalyzer, hmaps] at hstart habort
  exact ⟨v, hstart, habort⟩

/-! ### An override dropped -/

/-- A drop at valve v: the other channels stand, and of v the target and the settle run alone follow. -/
theorem phaseDropped_follows (p : Part) (v : ValveId) :
    ((p.phaseDropped v).channel v).state = (p.channel v).state ∧
      ((p.phaseDropped v).channel v).tunedGain = (p.channel v).tunedGain ∧
      ((p.phaseDropped v).channel v).frame = (p.channel v).frame ∧
      ((p.phaseDropped v).channel v).setpoint = (p.channel v).setpoint ∧
      ((p.phaseDropped v).channel v).heat = (p.channel v).heat := by
  obtain ⟨t, s, hch⟩ := redriven_channel p v (p.channel v).unoverridden
  rw [phaseDropped_redriven, hch]
  exact ⟨rfl, rfl, rfl, rfl, rfl⟩

theorem currentAt_unoverridden (p : Part) (v : ValveId) (f : Nat) :
    (p.setChannel v (p.channel v).unoverridden).currentAt v f = p.currentAt v f := by
  unfold Part.currentAt
  rw [channel_setChannel_self]
  rfl

/-- After a drop in TRACK the target is the scheduled setpoint's current. -/
theorem phaseDropped_target (h : (p.channel v).state = .track) :
    ((p.phaseDropped v).channel v).target = p.currentAt v (p.channel v).setpoint := by
  rw [phaseDropped_redriven, Part.redriven, recompute_target (by rw [channel_setChannel_self]; exact h),
    currentAt_unoverridden, channel_setChannel_self]
  rfl

/-- A trigger leaves the analyzer, or starts a capture of an armed valve at an IDLE analyzer (R117). -/
theorem trackTrigger_starts (p : Part) (v : ValveId) :
    (p.trackTrigger v).analyzer = p.analyzer ∨
      (p.analyzer.trace = .armed v ∧ p.analyzer.state = .idle ∧
        ∃ gain, (∀ g, (p.channel v).tunedGain = some g → gain = g.val) ∧
          (p.trackTrigger v).analyzer =
            { p.analyzer with
              state := .capturing v, buffer := [], trace := .capturing
              hand := some ⟨v, gain, (p.channel v).frame, [], none⟩ }) := by
  unfold Part.trackTrigger
  split
  · next h =>
    obtain ⟨harmed, hidle, -⟩ := h
    exact .inr ⟨harmed, hidle, _, fun g hg => by rw [hg], rfl⟩
  · exact .inl rfl

/-- A drop leaves the analyzer, or starts a capture of an armed valve. -/
theorem phaseDropped_analyzer (p : Part) (v : ValveId) :
    (p.phaseDropped v).analyzer = p.analyzer ∨
      (p.CanStart v ∧ ∃ gain, (∀ g, (p.channel v).tunedGain = some g → gain = g.val) ∧
        (p.phaseDropped v).analyzer =
          { p.analyzer with
            state := .capturing v, buffer := [], trace := .capturing
            hand := some ⟨v, gain, (p.channel v).frame, [], none⟩ }) := by
  rw [phaseDropped_redriven, Part.redriven]
  by_cases h : (p.channel v).state ≠ .track ∨ p.currentAt v (p.channel v).setpoint = (p.channel v).target
  · left
    rw [recompute_stands]
    · rfl
    · rw [currentAt_unoverridden, channel_setChannel_self]
      exact h
  obtain ⟨htrack, hne⟩ := not_or.1 h
  rw [not_not] at htrack
  rw [recompute_replaces (by rw [channel_setChannel_self]; exact htrack)
    (by rw [currentAt_unoverridden, channel_setChannel_self]; exact hne)]
  unfold Part.replaceTarget
  rw [currentAt_unoverridden, channel_setChannel_self]
  dsimp only
  split
  · next hq =>
    replace hq : qualifies (p.channel v).target (p.currentAt v (p.channel v).setpoint) = true := hq
    refine (trackTrigger_starts _ v).imp_right ?_
    rw [channel_setChannel_self]
    rintro ⟨harmed, hidle, gain, hgain, hanalyzer⟩
    exact ⟨⟨harmed, htrack, (qualifies_iff _ _).1 hq, .inl hidle⟩, gain, hgain, hanalyzer⟩
  · exact .inl rfl

/-! ### A channel stopped -/

theorem analyzed_unique (hv : p.analyzed v) (hw : p.analyzed w) : w = v := by
  obtain ⟨-, hsv⟩ | ⟨-, hcv⟩ := hv
  · obtain ⟨-, hsw⟩ | ⟨-, hcw⟩ := hw
    · unfold AnalyzerState.searchesFor at hsv hsw
      split at hsv
      · next h heq => rw [heq] at hsw; exact (beq_iff_eq.1 hsw).symm.trans (beq_iff_eq.1 hsv)
      all_goals cases hsv
    · rw [hcw] at hsv; cases hsv
  · obtain ⟨-, hsw⟩ | ⟨-, hcw⟩ := hw
    · rw [hcv] at hsw; cases hsw
    · rw [hcv] at hcw; cases hcw; rfl

/-- A valve in hand is given up. -/
theorem analyzerLeft_released (h : p.analyzed v) :
    (p.analyzerLeft v).state = .idle ∧
        (p.analyzerLeft v).trace = (if p.analyzer.trace = .capturing then .writing else p.analyzer.trace) ∧
        (∃ s, p.analyzer.state = .searching s) ∨
      (p.analyzerLeft v).state = .writing ∧ (p.analyzerLeft v).trace = .writing := by
  unfold Part.analyzerLeft
  obtain ⟨hs, hsearch⟩ | ⟨hs, hcapture⟩ := h
  · left
    rw [if_neg (by simp [hs]), if_pos ⟨hs, hsearch⟩]
    unfold AnalyzerState.searchesFor at hsearch
    split at hsearch
    · next s heq =>
      unfold Analyzer.traceAborted
      dsimp only
      split <;> exact ⟨rfl, rfl, s, heq⟩
    all_goals cases hsearch
  · right
    rw [if_neg (by simp [hs]), if_neg (by simp [hs]), if_pos ⟨hs, hcapture⟩]
    exact ⟨rfl, rfl⟩

/-- With no valve of it in hand, a channel that stops leaves the analyzer but for the Tune Queue. -/
theorem analyzerLeft_queued (h : ¬p.analyzed v) :
    p.analyzerLeft v = { p.analyzer with queue := (p.analyzerLeft v).queue } := by
  unfold Part.analyzed at h
  unfold Part.analyzerLeft
  obtain ⟨hsearch, hcapture⟩ := not_or.1 h
  rw [if_neg hsearch, if_neg hcapture]
  split <;> rfl

theorem analyzerLeft_queue (p : Part) (v : ValveId) :
    (p.analyzerLeft v).queue =
      if (p.channel v).state = .tune .waiting then p.analyzer.queue.filter (· ≠ v) else p.analyzer.queue := by
  unfold Part.analyzerLeft Analyzer.traceAborted
  (repeat' split) <;> rfl

theorem analyzerLeft_same {x : List ValveId} (hchannel : (q.channel w).state = (p.channel w).state)
    (hanalyzer : q.analyzer = { p.analyzer with queue := x }) (y : List ValveId) :
    { q.analyzerLeft w with queue := y } = { p.analyzerLeft w with queue := y } := by
  unfold Part.analyzerLeft Analyzer.traceAborted
  rw [hchannel, hanalyzer]
  dsimp only
  (repeat' split) <;> rfl

theorem ChannelStopped.letsGo (h : ChannelStopped p q v .off) (hq : q.LetsGo a t) : p.LetsGo a t := by
  have hoff : ¬q.analyzed v := by
    unfold Part.analyzed
    rw [h.channel]
    simp
  by_cases hv : p.analyzed v
  · have hnone : ∀ w, ¬q.analyzed w := by
      intro w
      unfold Part.analyzed
      rw [h.analyzer]
      obtain ⟨hidle, -⟩ | ⟨hwriting, -⟩ := analyzerLeft_released hv
      · rw [hidle]; simp [AnalyzerState.searchesFor]
      · rw [hwriting]; simp [AnalyzerState.searchesFor]
    obtain ⟨ha, ht⟩ := hq.1 hnone
    refine ⟨fun hno => absurd hv (hno v), fun w hw => ?_⟩
    obtain rfl := analyzed_unique hv hw
    rw [h.analyzer] at ha
    refine ⟨ha, ht.trans ?_⟩
    rw [h.owed]
    by_cases hc : p.analyzer.trace = .capturing ∨ (p.channel w).state = .track
    · rw [if_pos ⟨hv, hc⟩, if_pos hc]
    · rw [if_neg (fun hx => hc hx.2), if_neg hc]
  · have hanalyzer : q.analyzer = { p.analyzer with queue := q.analyzer.queue } := by
      rw [h.analyzer]; exact analyzerLeft_queued hv
    have htrace : q.engine.trace = p.engine.trace := by rw [h.owed, if_neg fun hx => hv hx.1]
    have hsame {w : ValveId} (hw : w ≠ v) : q.analyzed w ↔ p.analyzed w := by
      unfold Part.analyzed
      rw [h.otherChannels w hw, hanalyzer]
    refine ⟨fun hno => ?_, fun w hw => ?_⟩
    · obtain ⟨ha, ht⟩ := hq.1 fun w hw => by
        by_cases hwv : w = v
        · exact hoff (hwv ▸ hw)
        · exact hno w ((hsame hwv).1 hw)
      rw [hanalyzer] at ha
      exact ⟨ha, ht.trans htrace⟩
    · have hwv : w ≠ v := fun heq => hv (heq ▸ hw)
      obtain ⟨ha, ht⟩ := hq.2 w ((hsame hwv).2 hw)
      rw [analyzerLeft_same (by rw [h.otherChannels w hwv]) hanalyzer] at ha
      refine ⟨ha, ht.trans ?_⟩
      rw [h.otherChannels w hwv, htrace, hanalyzer]

theorem ChannelStopped.canStart (h : ChannelStopped p q v .off) (hq : q.CanStart w) : w ≠ v ∧ p.CanStart w := by
  obtain ⟨harmed, htrack, hband, hstate⟩ := hq
  have hwv : w ≠ v := by
    rintro rfl
    rw [h.channel] at htrack
    cases htrack
  obtain ⟨-, -, -, -, -, -, hmaps, -⟩ := h.elsewhere
  have hcurrent (f : Nat) : q.currentAt w f = p.currentAt w f := by
    unfold Part.currentAt Part.map
    rw [h.otherChannels w hwv, hmaps]
  rw [h.otherChannels w hwv] at htrack hband
  rw [hcurrent] at hband
  rw [h.analyzer] at harmed hstate
  refine ⟨hwv, ?_⟩
  by_cases hv : p.analyzed v
  · obtain ⟨-, htrace, hsearch⟩ | ⟨-, htrace⟩ := analyzerLeft_released hv
    · rw [htrace] at harmed
      split at harmed
      · cases harmed
      · exact ⟨harmed, htrack, hband, .inr hsearch⟩
    · rw [htrace] at harmed; cases harmed
  · rw [analyzerLeft_queued hv] at harmed hstate
    exact ⟨harmed, htrack, hband, hstate⟩

theorem ChannelStopped.analyzerSafe (h : ChannelStopped p q v .off) (hq : q.AnalyzerSafe a t) : p.AnalyzerSafe a t := by
  refine hq.imp h.letsGo ?_
  rintro ⟨w, hstart, habort⟩
  obtain ⟨hwv, hstart⟩ := h.canStart hstart
  rw [Part.StartsAndAborts, h.otherChannels w hwv] at habort
  exact ⟨w, hstart, habort⟩

/-! ### The drop, again -/

theorem phaseDropped_maps (p : Part) (v : ValveId) :
    (p.phaseDropped v).maps = p.maps ∧ (p.phaseDropped v).engine = p.engine := by
  rw [← phaseDropped_eq]
  simp

theorem phaseDropped_canStart (hanalyzer : (p.phaseDropped v).analyzer = p.analyzer)
    (h : (p.phaseDropped v).CanStart w) : w ≠ v ∧ p.CanStart w := by
  obtain ⟨harmed, htrack, hband, hstate⟩ := h
  have hmap (x : ValveId) : (p.phaseDropped v).map x = p.map x := by unfold Part.map; rw [(phaseDropped_maps p v).1]
  have hwv : w ≠ v := by
    rintro rfl
    obtain ⟨hsame, -, -, hsetpoint, hheat⟩ := phaseDropped_follows p w
    have hcurrent : (p.phaseDropped w).currentAt w (p.channel w).setpoint = p.currentAt w (p.channel w).setpoint := by
      unfold Part.currentAt; rw [hmap, hheat]
    rw [phaseDropped_target (hsame.symm.trans htrack), hsetpoint, hcurrent] at hband
    omega
  have hcurrent (f : Nat) : (p.phaseDropped v).currentAt w f = p.currentAt w f := by
    unfold Part.currentAt; rw [hmap, phaseDropped_other p hwv]
  rw [phaseDropped_other p hwv] at htrack hband
  rw [hcurrent] at hband
  rw [hanalyzer] at harmed hstate
  exact ⟨hwv, harmed, htrack, hband, hstate⟩

theorem phaseDropped_analyzerSafe (h : (p.phaseDropped v).AnalyzerSafe a t) : p.AnalyzerSafe a t := by
  have hstate (w : ValveId) : ((p.phaseDropped v).channel w).state = (p.channel w).state :=
    (phaseDropped_event p v w).1
  obtain hsame | ⟨hstart, gain, hgain, hcapture⟩ := phaseDropped_analyzer p v
  · refine h.imp (LetsGo.congr hstate hsame (by rw [(phaseDropped_maps p v).2])) ?_
    rintro ⟨w, hstart, habort⟩
    obtain ⟨hwv, hstart⟩ := phaseDropped_canStart hsame hstart
    rw [Part.StartsAndAborts, phaseDropped_other p hwv] at habort
    exact ⟨w, hstart, habort⟩
  · have htrack : (p.channel v).state = .track := hstart.2.1
    have hv : (p.phaseDropped v).analyzed v := .inr ⟨(hstate v).trans htrack, by rw [hcapture]⟩
    refine .inr ⟨v, hstart, gain, hgain, ?_⟩
    obtain hgo | ⟨w, ⟨harmed', -⟩, -⟩ := h
    · obtain ⟨ha, ht⟩ := hgo.2 v hv
      rw [if_pos (.inr ((hstate v).trans htrack))] at ht
      refine ⟨ht, ha.trans ?_⟩
      unfold Part.analyzerLeft
      rw [hstate, htrack, hcapture]
      simp
    · rw [hcapture] at harmed'
      cases harmed'

/-! ### All blocks -/

theorem safeBlock_analyzerSafe (b : CornerId ⊕ ValveId) (h : (p.safeBlock b).AnalyzerSafe a t) : p.AnalyzerSafe a t := by
  refine safeBlock_cases (motive := fun _ q => q.AnalyzerSafe a t → p.AnalyzerSafe a t) b (fun c hc hq => ?_)
    (fun _ _ => id) (fun v r _ hr hq => hr.analyzerSafe (AnalyzerSafe.congr (fun _ => rfl) rfl rfl rfl hq)) h
  have hdropped : (p.dropped c).maps = p.maps ∧ (p.dropped c).engine = p.engine := by
    obtain ⟨hmaps, hengine⟩ := phaseDropped_maps p (compressionValve c)
    obtain ⟨hmaps', hengine'⟩ := phaseDropped_maps (p.phaseDropped (compressionValve c)) (reboundValve c)
    exact ⟨hmaps'.trans hmaps, hengine'.trans hengine⟩
  obtain ⟨-, -, -, -, hmaps, -⟩ := hc.work.elsewhere
  refine phaseDropped_analyzerSafe (phaseDropped_analyzerSafe (AnalyzerSafe.congr (p := p.dropped c) hc.loops.channel ?_
    hc.loops.2 ?_ hq))
  · rw [hdropped.1, hmaps]
  · rw [hdropped.2, hc.work.owed]

theorem safeBlocks_analyzerSafe {l : List (CornerId ⊕ ValveId)} :
    ∀ {p : Part}, SafeAwaited l p →
      p.AnalyzerSafe (l.foldl Part.safeBlock p).analyzer (l.foldl Part.safeBlock p).engine.trace := by
  induction l with
  | nil =>
    intro p h
    have hnone (v : ValveId) : ¬p.analyzed v := by
      have hoff := (h.channels v).resolve_left (by simp)
      rintro (⟨hs, -⟩ | ⟨hs, -⟩) <;> rw [hs] at hoff <;> cases hoff
    exact .inl ⟨fun _ => ⟨rfl, rfl⟩, fun v hv => absurd hv (hnone v)⟩
  | cons b l ih => exact fun h => safeBlock_analyzerSafe b (ih h.block)

/-! ### The Tune Queue -/

/-- The Tune Queue without the valves that leave it under SAFE. -/
def Part.queueSafe (p : Part) : List ValveId :=
  p.analyzer.queue.filter fun v => decide ((p.channel v).state ≠ .tune .waiting)

theorem safeBlock_queueSafe (p : Part) (b : CornerId ⊕ ValveId) : (p.safeBlock b).queueSafe = p.queueSafe := by
  refine safeBlock_cases (motive := fun _ q => q.queueSafe = p.queueSafe) b (fun c hc => ?_) (fun _ _ => rfl)
    (fun v r hs hr => ?_)
  · have hqueue : (p.dropped c).analyzer.queue = p.analyzer.queue := by
      unfold Part.dropped Part.phaseDropped Part.redriven; simp
    unfold Part.queueSafe
    rw [hc.loops.2, hqueue]
    simp only [hc.loops.channel, dropped_event]
  · show r.queueSafe = _
    unfold Part.queueSafe
    rw [hr.analyzer, analyzerLeft_queue]
    by_cases hw : (p.channel v).state = .tune .waiting
    · rw [if_pos hw, List.filter_filter]
      refine List.filter_congr fun w _ => ?_
      by_cases hwv : w = v
      · simp [hwv, hw]
      · simp [hwv, hr.otherChannels w hwv]
    · rw [if_neg hw]
      refine List.filter_congr fun w _ => ?_
      by_cases hwv : w = v
      · rw [hwv, hr.channel]; simp [hw]
      · rw [hr.otherChannels w hwv]

theorem safeBlocks_queue {l : List (CornerId ⊕ ValveId)} (h : SafeAwaited l p) :
    (l.foldl Part.safeBlock p).analyzer.queue = p.queueSafe := by
  rw [← foldl_keeps_eq (f := Part.queueSafe) safeBlock_queueSafe l p]
  refine (List.filter_eq_self.2 fun v _ => ?_).symm
  have hoff := (h.fold.channels v).resolve_left (by simp)
  rw [decide_eq_true_eq]
  intro hw
  rw [hw] at hoff
  cases hoff

end Sys2Proof.Machine
end

section
/-! The SAFE line released (R69), and the SAFE line as a whole. -/

namespace Sys2Proof.Machine

variable {p q r : Part}

/-! ### One corner -/

/-- A corner released from SAFE (R69). -/
def Corner.released (k : Corner) : Corner := { k with state := .idle, limpCause := .none, ready := false }

/-- What corner c leaves when it goes from SAFE to IDLE. -/
structure SafeExited (p q : Part) (c : CornerId) : Prop where
  corner : ∀ d, q.corner d = if d = c then (p.corner c).released else p.corner d
  loops : SameLoops (p.limpRamped c ((p.corner c).frame + 1)) q
  lines : q.lines = p.unready c
  journal : q.journal = p.journal.hand (.safeExit c) (p.corner c).frame

theorem exitSafe_exited {c : CornerId} (h : (p.corner c).state = .safe) : SafeExited p (p.exitSafe c) c := by
  unfold Part.exitSafe
  rw [if_pos h]
  dsimp only
  have hhead (d : CornerId) : ((p.setCornerState c .idle .none).sendLimpRamp c (p.nextFrame c)).corner d =
      if d = c then { p.corner c with state := .idle, limpCause := .none } else p.corner d := by
    simp only [sendLimpRamp_units, Part.setCornerState, corner_setCorner]
  have hloops : SameLoops (p.limpRamped c ((p.corner c).frame + 1))
      ((p.setCornerState c .idle .none).sendLimpRamp c (p.nextFrame c)) := by
    rw [sendLimpRamp_eq]
    refine limpRamped_sameLoops ⟨by simp, by simp⟩ (by simp) (by simp) ?_ _
    rw [Part.setCornerState, corner_setCorner, if_pos rfl]
    exact ⟨rfl, rfl⟩
  have hlines : ((p.setCornerState c .idle .none).sendLimpRamp c (p.nextFrame c)).lines = p.lines := by simp
  have hjournal : ((p.setCornerState c .idle .none).sendLimpRamp c (p.nextFrame c)).journal = p.journal := by simp
  generalize (p.setCornerState c .idle .none).sendLimpRamp c (p.nextFrame c) = r at *
  have hself : r.corner c = { p.corner c with state := .idle, limpCause := .none } := by rw [hhead, if_pos rfl]
  have hunready : (r.hand (.safeExit c) (r.corner c).frame).readyCondition c = false :=
    notReady_of_state (by
      show (r.corner c).state ≠ .run
      rw [hself]
      simp)
  obtain ⟨hready, hreported⟩ := evalReady_unready hunready
  refine ⟨fun d => ?_, ⟨?_, ?_⟩, ?_, ?_⟩
  · rw [hready]
    show (if d = c then { r.corner c with ready := false } else r.corner d) = _
    rw [hself, hhead]
    split <;> rfl
  · simpa using hloops.1
  · simpa using hloops.2
  · rw [hreported]
    show r.unready c = _
    rw [Part.unready, hlines]
    rfl
  · rw [hself, ← hjournal]
    simp [Part.hand]

/-- The slots, the engine, and what no response to the SAFE line touches. -/
structure ReleaseShape (p q : Part) : Prop where
  shape : SafeShape p q
  slots : q.demand = p.demand ∧ q.urgent = p.urgent ∧ q.engine = p.engine

theorem exitSafe_shape (p : Part) (c : CornerId) : ReleaseShape p (p.exitSafe c) :=
  ⟨⟨by simp, by simp, by simp⟩, by simp⟩

theorem ReleaseShape.trans (h : ReleaseShape p q) (h' : ReleaseShape q r) : ReleaseShape p r := by
  obtain ⟨hs, hd, hu, he⟩ := h
  obtain ⟨hs', hd', hu', he'⟩ := h'
  exact ⟨hs.trans hs', hd'.trans hd, hu'.trans hu, he'.trans he⟩

/-! ### The limp ramps -/

theorem limpRamped_units (p : Part) (c : CornerId) (f : Frame) :
    (p.limpRamped c f).maps = p.maps ∧ (p.limpRamped c f).timer = p.timer ∧
      ∀ d, (p.limpRamped c f).corner d = p.corner d := by
  rw [← sendLimpRamp_eq]
  simp

/-- Channels, maps, analyzer, timer and the corners' limp settings are the same. -/
structure SameRamps (p q : Part) : Prop where
  loops : SameLoops p q
  maps : q.maps = p.maps
  timer : q.timer = p.timer
  corner : ∀ c, (q.corner c).limpFirmness = (p.corner c).limpFirmness ∧ (q.corner c).limpRamp = (p.corner c).limpRamp

theorem SameRamps.limpRamped (h : SameRamps p q) (c : CornerId) (f : Frame) :
    SameRamps (p.limpRamped c f) (q.limpRamped c f) := by
  obtain ⟨hmaps, htimer, hcorner⟩ := limpRamped_units p c f
  obtain ⟨hmaps', htimer', hcorner'⟩ := limpRamped_units q c f
  exact ⟨limpRamped_sameLoops h.loops h.maps h.timer (h.corner c) f, by rw [hmaps, hmaps', h.maps],
    by rw [htimer, htimer', h.timer], fun d => by rw [hcorner, hcorner']; exact h.corner d⟩

theorem limpRamps_same (g : CornerId → Frame) (l : List CornerId) : ∀ {p q : Part}, SameRamps p q →
    SameLoops (l.foldl (fun r c => r.limpRamped c (g c)) p) (l.foldl (fun r c => r.limpRamped c (g c)) q) := by
  induction l with
  | nil => exact fun h => h.loops
  | cons c l ih => exact fun h => ih (h.limpRamped c (g c))

theorem SafeExited.ramps {c : CornerId} (h : SafeExited p q c) (hshape : ReleaseShape p q) :
    SameRamps (p.limpRamped c ((p.corner c).frame + 1)) q := by
  obtain ⟨hmaps, htimer, hcorner⟩ := limpRamped_units p c ((p.corner c).frame + 1)
  obtain ⟨-, -, htimer', -, hmaps', -⟩ := hshape.shape.elsewhere
  refine ⟨h.loops, by rw [hmaps, hmaps'], by rw [htimer, htimer'], fun d => ?_⟩
  rw [hcorner, h.corner]
  split
  · next hd => rw [hd]; exact ⟨rfl, rfl⟩
  · exact ⟨rfl, rfl⟩

/-- A limp ramp leaves what a channel that is OFF or in FAULT does. -/
theorem valveRamped_off (p : Part) (c : CornerId) (f : Frame) (v w : ValveId)
    (h : (p.channel w).state.isOffOrFault = true) :
    ((p.valveRamped c f v).channel w).state = (p.channel w).state ∧
      ((p.valveRamped c f v).channel w).target = (p.channel w).target := by
  unfold Part.valveRamped
  by_cases hw : w = v
  · subst hw
    split
    · rw [channel_setChannel_self]; exact ⟨rfl, rfl⟩
    · have htrack : (p.channel w).state ≠ .track := fun hs => by rw [hs] at h; cases h
      rw [Part.redriven, recompute_stands (.inl (by rw [channel_setChannel_self]; exact htrack)),
        channel_setChannel_self]
      exact ⟨rfl, rfl⟩
  · split
    · rw [channel_setChannel_ne _ _ hw]; exact ⟨rfl, rfl⟩
    · rw [channel_redriven_ne _ _ hw]; exact ⟨rfl, rfl⟩

theorem limpRamped_off (p : Part) (c : CornerId) (f : Frame) (w : ValveId) (h : (p.channel w).state.isOffOrFault = true) :
    ((p.limpRamped c f).channel w).state = (p.channel w).state ∧
      ((p.limpRamped c f).channel w).target = (p.channel w).target := by
  obtain ⟨hs, ht⟩ := valveRamped_off p c f (compressionValve c) w h
  obtain ⟨hs', ht'⟩ := valveRamped_off (p.valveRamped c f (compressionValve c)) c f (reboundValve c) w (by rw [hs]; exact h)
  exact ⟨hs'.trans hs, ht'.trans ht⟩

/-! ### All corners -/

/-- What the corners of l leave when they go from SAFE to IDLE one after another. -/
structure CornersReleased (l : List CornerId) (p q : Part) : Prop where
  corner : ∀ c, q.corner c = if c ∈ l then (p.corner c).released else p.corner c
  loops : SameLoops (l.foldl (fun r c => r.limpRamped c ((p.corner c).frame + 1)) p) q
  reported : ∀ c : CornerId, q.lines.reported[c] = if c ∈ l then false else p.lines.reported[c]
  ready : l ≠ [] ∨ p.lines.ready = readyOutput p.lines.mode p.lines.reported →
    q.lines.ready = readyOutput q.lines.mode q.lines.reported
  journal : q.journal = p.journal.handAll (l.map fun c => (Event.safeExit c, (p.corner c).frame))
  off : ∀ v, (p.channel v).state.isOffOrFault = true →
    (q.channel v).state = (p.channel v).state ∧ (q.channel v).target = (p.channel v).target
  shape : ReleaseShape p q

theorem CornersReleased.nil (p : Part) : CornersReleased [] p p where
  corner c := by simp
  loops := ⟨rfl, rfl⟩
  reported c := by simp
  ready h := h.resolve_left (fun hne => hne rfl)
  journal := rfl
  off _ _ := ⟨rfl, rfl⟩
  shape := ⟨.refl p, rfl, rfl, rfl⟩

theorem CornersReleased.cons {c : CornerId} {l : List CornerId} (hc : c ∉ l) (h : SafeExited p r c)
    (hshape : ReleaseShape p r) (hl : CornersReleased l r q) : CornersReleased (c :: l) p q := by
  have hframe (d : CornerId) : (r.corner d).frame = (p.corner d).frame := by
    rw [h.corner]
    split
    · next hd => rw [hd]; rfl
    · rfl
  refine ⟨fun d => ?_, ?_, fun d => ?_, fun _ => ?_, ?_, fun v hv => ?_, hshape.trans hl.shape⟩
  · rw [hl.corner, h.corner]
    by_cases hd : d = c
    · rw [hd, if_neg hc, if_pos rfl, if_pos List.mem_cons_self]
    · simp [hd]
  · obtain ⟨hchannels, hanalyzer⟩ := hl.loops
    simp only [hframe] at hchannels hanalyzer
    obtain ⟨hsame, hsame'⟩ := limpRamps_same (fun d => (p.corner d).frame + 1) l (h.ramps hshape)
    exact ⟨hchannels.trans hsame, hanalyzer.trans hsame'⟩
  · rw [hl.reported, h.lines, reported_unready]
    by_cases hd : d = c <;> simp [hd]
  · exact hl.ready (.inr (by rw [h.lines]; exact ready_unready p c))
  · rw [hl.journal, h.journal, List.map_cons]
    simp only [hframe]
    rfl
  · obtain ⟨hs, ht⟩ := limpRamped_off p c ((p.corner c).frame + 1) v hv
    rw [← h.loops.channel] at hs ht
    obtain ⟨hs', ht'⟩ := hl.off v (by rw [hs]; exact hv)
    exact ⟨hs'.trans hs, ht'.trans ht⟩

theorem exitSafes_released {l : List CornerId} (hl : l.Nodup) :
    ∀ {p : Part}, (∀ c ∈ l, (p.corner c).state = .safe) → CornersReleased l p (l.foldl Part.exitSafe p) := by
  induction l with
  | nil => exact fun {p} _ => .nil p
  | cons c l ih =>
    intro p hsafe
    obtain ⟨hc, hrest⟩ := List.nodup_cons.1 hl
    have hexit := exitSafe_exited (hsafe c List.mem_cons_self)
    refine .cons hc hexit (exitSafe_shape p c) (ih hrest fun d hd => ?_)
    have hdc : d ≠ c := fun heq => hc (heq ▸ hd)
    rw [hexit.corner, if_neg hdc]
    exact hsafe d (List.mem_cons_of_mem c hd)

/-! ### The SAFE line -/

theorem exec_safeAssertion (order : List Nat) (s : State) :
    exec (.safeAssertion order) s = .next { s with
      part :=
        if s.part.lines.safe = true then s.part
        else (arrange order safeBlocks).foldl Part.safeBlock (s.part.setSafe true) } := rfl

theorem exec_safeRelease (order : List Nat) (s : State) :
    exec (.safeRelease order) s = .next { s with
      part :=
        if s.part.lines.safe = true then (arrange order allCorners).foldl Part.exitSafe (s.part.setSafe false)
        else s.part } := rfl

theorem mem_safeBlocks (b : CornerId ⊕ ValveId) : b ∈ safeBlocks := by
  cases b with
  | inl c => exact List.mem_append_left _ (List.mem_map_of_mem (mem_allCorners c))
  | inr v => exact List.mem_append_right _ (List.mem_map_of_mem (by revert v; decide))

theorem safed_eq (ch : Channel) :
    ch.safed =
      (let ch' := { ch with phase := .none, ends := [] }
       if ch'.state.isOffOrFault = true then ch'
       else { ch' with state := .off, target := 0, settle := none, misses := 0 }) := rfl

/-- SAFE asserted: all blocks' responses, in an open order. -/
theorem safeAsserted (order : List Nat) (p : Part) {q : Part}
    (hq : q = (arrange order safeBlocks).foldl Part.safeBlock (p.setSafe true)) :
    BlocksSafe p q ∧ (∃ cs : List CornerId, (∀ c, c ∈ cs) ∧ CornersFlushed .safe cs p q) ∧
      q.analyzer.queue = p.queueSafe ∧ p.AnalyzerSafe q.analyzer q.engine.trace ∧
      q.journal = p.journal.handAll ((arrange order safeBlocks).flatMap p.safeEvents) ∧ SafeShape (p.setSafe true) q := by
  have hperm : (arrange order safeBlocks).Perm safeBlocks := arrange_perm order safeBlocks
  have hmem (b : CornerId ⊕ ValveId) : b ∈ arrange order safeBlocks := hperm.mem_iff.2 (mem_safeBlocks b)
  have hnodup : (arrange order safeBlocks).Nodup := hperm.nodup_iff.2 (by decide)
  have hawaited : SafeAwaited (arrange order safeBlocks) (p.setSafe true) :=
    ⟨rfl, fun _ => .inl (hmem _), fun _ => .inl (hmem _)⟩
  obtain ⟨hcorner, hchannel, hreported, hready⟩ := safeBlocks_safe (p := p.setSafe true) hmem rfl
  subst hq
  refine ⟨⟨hcorner, hchannel, hreported, hready⟩, ⟨cornersOf (arrange order safeBlocks),
    fun c => mem_cornersOf.2 (hmem _), ?_⟩, safeBlocks_queue hawaited, ?_, safeBlocks_journal hnodup _,
    safeBlocks_shape _ _⟩
  · exact .of_same (r := p.setSafe true) ⟨fun _ => rfl, fun _ => rfl, rfl, rfl, fun _ => ⟨rfl, rfl, rfl⟩⟩
      (safeBlocks_flushed hnodup _)
  · exact AnalyzerSafe.congr (q := p.setSafe true) (fun _ => rfl) rfl rfl rfl (safeBlocks_analyzerSafe hawaited)

/-- Settles O48: each block's response on its own, and what all of them leave in any order; the analyzer's outcome from
the last block backwards. -/
theorem safeLine : Obligations.SafeLine := by
  unfold Obligations.SafeLine
  intro order s p
  refine ⟨fun hsafe => ?_, fun hsafe => ?_, fun hsafe => ?_, fun hsafe hcorners => ?_⟩
  · rw [exec_safeAssertion, if_pos hsafe]
  · have hexec : exec (.safeAssertion order) s =
        .next { s with part := (arrange order safeBlocks).foldl Part.safeBlock (p.setSafe true) } := by
      rw [exec_safeAssertion, if_neg (by rw [show s.part.lines.safe = false from hsafe]; simp)]
    generalize hq : (arrange order safeBlocks).foldl Part.safeBlock (p.setSafe true) = q at hexec
    obtain ⟨hblocks, ⟨cs, hcs, hflushed⟩, hqueue, hanalyzer, hjournal, hshape⟩ := safeAsserted order p hq.symm
    refine ⟨q, _, hexec, hblocks.corner, hblocks.channel, fun i hi => ?_, fun honce c e he => ?_, fun c => ?_,
      fun i => ?_, fun c => ?_, hqueue, ?_, ?_, hjournal, hblocks.reported, ?_⟩
    · exact hflushed.slots i fun c _ hc => hi (mem_listedSlots.2 ⟨c, hc⟩)
    · obtain ⟨-, hapart⟩ := nodup_listedSlots_iff.1 honce
      exact hflushed.retired c (hcs c) e he fun d _ hd hin =>
        hd (hapart d c e.slot hin (List.mem_map.2 ⟨e, he, rfl⟩))
    · exact hflushed.urgent c (hcs c)
    · rw [hflushed.demandClass, mem_offeredLists, mem_listedSlots]
      simp [hcs]
    · rw [hflushed.urgentClass, mem_offeredHolds]
      simp [hcs]
    · refine ⟨fun hno => hanalyzer.resolve_right fun ⟨v, hstart, _⟩ => hno v hstart, fun v hstart => ?_⟩
      refine hanalyzer.imp_right ?_
      rintro ⟨w, hstart', gain, hgain, ht, ha⟩
      obtain rfl : v = w := by
        have harmed := hstart.1.symm.trans hstart'.1
        exact TraceState.armed.inj harmed
      exact ⟨gain, hgain, ht, ha⟩
    · rw [← safeEvents_blocks]
      exact (arrange_perm order safeBlocks).flatMap_right _
    · refine hshape.eq.trans ?_
      have hmode : q.lines.mode = p.lines.mode := hshape.lines.2.2
      rw [hblocks.ready, hmode]
      rfl
  · rw [exec_safeRelease, if_neg (by rw [hsafe]; simp)]
  · have hexec : exec (.safeRelease order) s =
        .next { s with part := (arrange order allCorners).foldl Part.exitSafe (p.setSafe false) } := by
      rw [exec_safeRelease, if_pos hsafe]
    have hperm : (arrange order allCorners).Perm allCorners := arrange_perm order allCorners
    have hmem (c : CornerId) : c ∈ arrange order allCorners := hperm.mem_iff.2 (mem_allCorners c)
    have hreleased := exitSafes_released (p := p.setSafe false) (hperm.nodup_iff.2 (by decide)) fun c _ => hcorners c
    generalize (arrange order allCorners).foldl Part.exitSafe (p.setSafe false) = q at hexec hreleased
    refine ⟨q, _, hexec, fun c => ?_, ?_, ?_, hreleased.journal, fun c => ?_, hreleased.off, ?_⟩
    · rw [hreleased.corner, if_pos (hmem c)]; rfl
    · have hsame : SameRamps p (p.setSafe false) := ⟨⟨rfl, rfl⟩, rfl, rfl, fun _ => ⟨rfl, rfl⟩⟩
      obtain ⟨hchannels, hanalyzer⟩ := hreleased.loops
      obtain ⟨hsame, hsame'⟩ := limpRamps_same (fun c => (p.corner c).frame + 1) (arrange order allCorners) hsame
      exact ⟨hchannels.trans hsame, hanalyzer.trans hsame'⟩
    · exact hperm.map _
    · rw [hreleased.reported, if_pos (hmem c)]
    · have heq := hreleased.shape.shape.eq
      obtain ⟨hdemand, hurgent, hengine⟩ := hreleased.shape.slots
      have hmode : q.lines.mode = p.lines.mode := hreleased.shape.shape.lines.2.2
      rw [hdemand, hurgent, hengine, hreleased.ready (.inl (List.ne_nil_of_mem (hmem 0))), hmode] at heq
      exact congrArg (fun x : Part => { x with channels := p.channels, analyzer := p.analyzer }) heq

end Sys2Proof.Machine
end
